-- ==== Sys2Proof/Word.lean ====
section
/-!
DEFINITION. The word types of the DK-9128 model: register words, wide counters and the two floating-point formats,
each a bit vector because the spec reads and writes them as bits (R8, R18, "binary32", "binary64", "int32").
-/

namespace Sys2Proof

/-- A byte. -/
abbrev Byte := BitVec 8

/-- A 32-bit register word (R8). -/
abbrev Word := BitVec 32

/-- A 64-bit word: a register pair (R18), a Pantry word, the house tick counter (R45). -/
abbrev DWord := BitVec 64

/-- An IEEE 754 binary32 as its bits. -/
abbrev B32 := BitVec 32

/-- An IEEE 754 binary64 as its bits. -/
abbrev B64 := BitVec 64

end Sys2Proof
end

