-- ==== Sys2Proof/Syntax.lean ====
section
/-!
DEFINITION. The commands of the DK-9128, as syntax: one constructor of Instr for each row of spec/opcode_table.json.
A command says what happens at the block's edge (a register access, a frame, an edge on a pin) or which event of the
block's own is due; the operands carry what the spec does not let the block's state decide (what a head sends, what an
upset strikes, what a conversion reads).
-/

namespace Sys2Proof

/-- The four access paths of the register fabric, in the order in which they are applied (R20, R37). -/
inductive Path where
  | keeper | sideDoor | porch0 | porch1
deriving DecidableEq, Repr

/-- What has passed since the command before: house ticks, and rising edges of MCLK (R45, R191). -/
structure Elapse where
  ticks : Nat
  mclk : Nat
deriving DecidableEq, Repr

/-- What an upset does to a pass of a tile (R90, R91). -/
inductive UpsetKind where
  | mismatch | uncorrectable | corrected
deriving DecidableEq, Repr

/-- An upset that shows at the primitive of number `index` of a pass. -/
structure Upset where
  kind : UpsetKind
  index : Nat
deriving DecidableEq, Repr

/-- An uplink frame at its arrival edge: every symbol a valid code group with K28.5 in symbol 0 only, and symbols
1 to 31 as byte values (R269, R272). -/
structure Frame where
  codeOk : Bool
  bytes : List Byte
deriving DecidableEq, Repr

/-- What the check bits of a Pantry word show at a read (R359): no error, a single-bit or double-bit error, or an
error beyond correction. -/
inductive Ecc where
  | clean | single | double | more
deriving DecidableEq, Repr

/-- How a NAND operation ended (R449, R451): its status, and the largest number of bits corrected in a codeword of the
read or read-back; more than 40 is beyond correction. -/
structure NandOut where
  pass : Bool
  corr : Fin 64
deriving DecidableEq, Repr

/-- What the Cellar finds at mount (R449, R450, R453): how many targets answer, the geometry that their parameter pages
declare, the highest timing mode, and the blocks that carry a factory marker. -/
structure NandPart where
  targets : Fin 3
  pageBytes : Nat
  pagesPerBlock : Nat
  spareBytes : Nat
  blocks : Nat
  mode : Fin 6
  factoryBad : List (Fin 4096)
deriving DecidableEq, Repr

/-- A conversion of the REFADC: the result in volts at the source (in °C for the die temperature) as binary64, the
24-bit code, and whether it overloads (R244, R246, R247). -/
structure Conv where
  value : DWord
  code : BitVec 24
  overload : Bool
deriving DecidableEq, Repr

/-- A UDP datagram as a port receives it: the VLAN ID that its frame carries, the port whose address it is sent to, the
source address (4 or 16 bytes), both UDP ports, and the payload (R419, R422 to R424). -/
structure Datagram where
  vid : Option (BitVec 12)
  addr : Fin 2
  src : List Byte
  sport : BitVec 16
  dport : BitVec 16
  payload : List Byte
deriving DecidableEq, Repr

/-- A frame that is no Claondea message (R419, R420): a request for an address, an echo request, a query for group
members, or one of the frames that the port drops or discards. -/
inductive HouseFrame where
  | arp (ip : Word)
  | neighbor (ip : BitVec 128)
  | echo4 (ip : Word) (data : List Byte)
  | echo6 (ip : BitVec 128) (data : List Byte)
  | query4
  | query6
  | fragment
  | options
  | badChecksum
  | badFcs
  | pause
  | tooLong
deriving DecidableEq, Repr

/-- A PTP message of the chosen master (R436, R437): an Announce, or a Sync whose exchange gives the offset in ns. -/
inductive PtpMsg where
  | announce
  | sync (offset : Int)
deriving DecidableEq, Repr


/-- The commands of the block: one constructor for each row of the table of operations and events. `dt` is the time
passed since the command before it (log 1). -/
inductive Instr where
  /-- REGISTER_WRITE (R10): A host or Keeper write to a register that has no row of its own stores or acts on the value according to its access code. -/
  | registerWrite (dt : Elapse) (path : Path) (addr : BitVec 32) (value : Word)
  /-- PAIR_LOW_READ (R18): A read of the low word of a pair copies the high word into the holding register of that access path. -/
  | pairLowRead (dt : Elapse) (path : Path) (addr : BitVec 32)
  /-- PAIR_LOW_WRITE (R19): A write to the low word of a pair is held on its access path and has no effect on its own. -/
  | pairLowWrite (dt : Elapse) (path : Path) (addr : BitVec 32) (value : Word)
  /-- PAIR_HIGH_WRITE (R19): A write to the high word of a pair commits both halves in one house tick, using the held low word or the present low half. -/
  | pairHighWrite (dt : Elapse) (path : Path) (addr : BitVec 32) (value : Word)
  /-- MEAS_LAST_V_LO_READ (R145): A read of MEAS_LAST_V_LO copies the whole MEAS_LAST group into the holding registers of that access path. -/
  | measLastVLoRead (dt : Elapse) (path : Path) (ch : Fin 128)
  /-- MARK_HTICK_LO_READ (R213): A read of PHS_MARK_HTICK_LO copies the MARK capture group into the holding registers of that access path. -/
  | markHtickLoRead (dt : Elapse) (path : Path)
  /-- PPS_HTICK_LO_READ (R213): A read of PHS_PPS_HTICK_LO copies the PPS capture group into the holding registers of that access path. -/
  | ppsHtickLoRead (dt : Elapse) (path : Path)
  /-- HRT_REC_SRC_READ (R315): A read of HRT_REC_SRC copies the head record of the Hearth queue into the holding registers of that access path. -/
  | hrtRecSrcRead (dt : Elapse) (path : Path)
  /-- TOD_SEC_LO_READ (R437): A read of PRC_TOD_SEC_LO copies PRC_TOD_SEC_HI and PRC_TOD_NS into the holding registers of that access path. -/
  | todSecLoRead (dt : Elapse) (path : Path)
  /-- W1C_FLAG_CLEAR (R12): A host write of ones to a W1C register clears those flags, except flags that hardware sets in the same house tick. -/
  | w1cFlagClear (dt : Elapse) (path : Path) (addr : BitVec 32) (value : Word)
  /-- POWER_ON_RESET_RELEASE (R468): Power-on reset is released 10 ms after the supplies and HREF are good and the PLLs lock; this tick is house tick 0. -/
  | powerOnResetRelease (dt : Elapse) (bootSel : BitVec 2)
  /-- PERIOD_BOUNDARY (R31): At a channel's period boundary the controller commits the complete shadow set and recomputes the effective quantities. -/
  | periodBoundary (dt : Elapse) (ch : Fin 128) (tripped : BitVec 2)
  /-- COMP_MAX_REACHED (R57): When comp_max periods in COMPLIANCE have elapsed, the controller sets comp_time or enters RAMPDOWN with cause 0x07. -/
  | compMaxReached (dt : Elapse) (ch : Fin 128)
  /-- ARM (R64): An ARM command is checked and either takes the channel from QUENCHED to ARMING or is rejected with a reject code. -/
  | arm (dt : Elapse) (ch : Fin 128)
  /-- SOFT_QUENCH (R60): A soft quench takes a live channel into RAMPDOWN, or an ARMING channel into QUENCHED, at the next frame-grid edge. -/
  | softQuench (dt : Elapse) (ch : Fin 128)
  /-- HARD_QUENCH (R60): A hard quench takes any live channel to QUENCHED within 8 house ticks. -/
  | hardQuench (dt : Elapse) (ch : Fin 128)
  /-- WNG_ARM (R88): A write of WNG_ARM sends ARM to every channel of the wing whose bit is set. -/
  | wngArm (dt : Elapse) (wing : Fin 8) (mask : BitVec 16)
  /-- WNG_QUENCH (R88): A write of WNG_QUENCH sends soft or hard quenches to the selected channels of the wing in one house tick. -/
  | wngQuench (dt : Elapse) (wing : Fin 8) (soft : BitVec 16) (hard : BitVec 16)
  /-- ARM_TIMEOUT (R60): When arm_timeout expires in ARMING, the channel goes to QUENCHED with cause 0x04. -/
  | armTimeout (dt : Elapse) (ch : Fin 128)
  /-- HOLD_EXPIRED (R65): When the hold timer reaches its limit, the channel sets hold_expired and enters RAMPDOWN with cause 0x0D. -/
  | holdExpired (dt : Elapse) (ch : Fin 128)
  /-- TI_TAKEOVER (R124): An event on ti_takeover puts a live channel into HOLD with cause 0x0A. -/
  | tiTakeover (dt : Elapse) (ch : Fin 128)
  /-- TI_NOSPARE (R67): An event on ti_nospare takes the channel to RAMPDOWN with cause 0x0E. -/
  | tiNospare (dt : Elapse) (ch : Fin 128)
  /-- RAMPDOWN_FRAME (R68): At each frame-grid edge in RAMPDOWN the level moves toward 0 by d. -/
  | rampdownFrame (dt : Elapse) (ch : Fin 128)
  /-- CHANNEL_FENCE (R72): A Hearth fence event makes the channel FENCED, drops GATE and records the head identity. -/
  | channelFence (dt : Elapse) (ch : Fin 128)
  /-- HEAD_READY (R83): After the descriptor checks and the constant load, head_ready becomes 1 and ev_head_ready is produced. -/
  | headReady (dt : Elapse) (ch : Fin 128)
  /-- GPG_FIRE (R78): A host fire command starts a pulse train when the generator is ready. -/
  | gpgFire (dt : Elapse) (ch : Fin 128)
  /-- GPG_STOP (R87): A stop command ends the train and gives an open pulse its end notch. -/
  | gpgStop (dt : Elapse) (ch : Fin 128)
  /-- TI_PULSE_TRIGGER (R78): An event at ti_pulse starts a train, or is ignored and counted. -/
  | tiPulseTrigger (dt : Elapse) (ch : Fin 128)
  /-- PULSE_START (R78): When delay plus j periods have elapsed, a start notch begins pulse j. -/
  | pulseStart (dt : Elapse) (ch : Fin 128)
  /-- PULSE_END (R78): When width has elapsed, an end notch ends the pulse, and the train ends after count pulses. -/
  | pulseEnd (dt : Elapse) (ch : Fin 128)
  /-- LOOP_PASS_START (R105): At B + φs the sample latch is loaded and the bound tile starts a pass. -/
  | loopPassStart (dt : Elapse) (ch : Fin 128) (upsets : List Upset)
  /-- OUTPUT_LATCH (R107): At B + φo the channel latches the delivered STORE_OUT value for the downlink. -/
  | outputLatch (dt : Elapse) (ch : Fin 128)
  /-- TEMPLATE_REPLACEMENT_REQUEST (R115): A write of a new template to CH_LOOP_CFG loads an idle tile, or is refused. -/
  | templateReplacementRequest (dt : Elapse) (ch : Fin 128) (template : Fin 16)
  /-- TEMPLATE_LOAD_DONE (R115): When loading completes, the binding moves at once or at the next boundary. -/
  | templateLoadDone (dt : Elapse) (ch : Fin 128)
  /-- TILE_FENCE (R123): A Hearth fence of a bound tile takes a spare under R41 and loads it from the checkpoint. -/
  | tileFence (dt : Elapse) (tile : Fin 272)
  /-- SPARE_READY (R124): At t_R the LTA decides between a plain start, a catch-up pass and a takeover event. -/
  | spareReady (dt : Elapse) (ch : Fin 128)
  /-- TRKA_TIMEOUT (R118): When no TRKA sample arrives for 1 ms, the source is lost. -/
  | trkaTimeout (dt : Elapse) (wing : Fin 8)
  /-- TRKP_EDGE (R116): An edge on TRKP_w is counted in the present gate window. -/
  | trkpEdge (dt : Elapse) (wing : Fin 8) (falling : Bool)
  /-- TRKP_GATE_END (R116): At the end of each gate window the frequency or count value updates, and validity is judged. -/
  | trkpGateEnd (dt : Elapse) (wing : Fin 8)
  /-- TRKP_TIMEOUT (R118): When no TRKP edge arrives for tmo_us, the source is lost. -/
  | trkpTimeout (dt : Elapse) (wing : Fin 8)
  /-- SAMPLE_FRAME (R130): At the take-in tick a SAMPLE or MGMT_RESP frame is qualified, corrected and fed to the latch, the raw stream and the apertures. -/
  | sampleFrame (dt : Elapse) (ch : Fin 128) (frame : Frame)
  /-- ARRIVAL_EDGE_MISSING (R130): An arrival edge with no frame that passes the link checks is qualified as missing. -/
  | arrivalEdgeMissing (dt : Elapse) (ch : Fin 128)
  /-- APERTURE_OPEN (R136): An aperture opens at its opening edge and latches the committed settings. -/
  | apertureOpen (dt : Elapse) (ch : Fin 128)
  /-- AP_START_CMD (R136): The MEAS_CMD ap_start trigger opens an aperture, retriggers one, or is ignored. -/
  | apStartCmd (dt : Elapse) (ch : Fin 128)
  /-- AP_STOP_CMD (R140): The MEAS_CMD ap_stop command closes the open aperture at the next edge with cut_short. -/
  | apStopCmd (dt : Elapse) (ch : Fin 128)
  /-- TI_APERTURE (R136): An event at ti_aperture triggers an aperture. -/
  | tiAperture (dt : Elapse) (ch : Fin 128)
  /-- RECORD_PUSH (R143): At T_c + 24 the four words of the record are pushed, or the record is dropped whole. -/
  | recordPush (dt : Elapse) (ch : Fin 128) (flushAt : Option (Fin 8))
  /-- RECORD_REPUSH (R144): After a flush during the push, filler words and the whole record are pushed again from T_c + 32. -/
  | recordRepush (dt : Elapse) (ch : Fin 128) (flushAt : Option (Fin 8))
  /-- SEC_TIMEOUT (R147): When r_to is not a valid secondary within 64 frames, the change proceeds by make-before-break. -/
  | secTimeout (dt : Elapse) (ch : Fin 128)
  /-- SWP_ARM (R168): ARM takes the tags, enters CHECKING and checks the records, or is refused. -/
  | swpArm (dt : Elapse) (ctx : Fin 32)
  /-- SWP_CHECK_DONE (R168): At the end of its checks the context enters ARMED, or releases the tags and returns to IDLE. -/
  | swpCheckDone (dt : Elapse) (ctx : Fin 32)
  /-- SWP_START (R168): START starts an ARMED context at once and writes step 0. -/
  | swpStart (dt : Elapse) (ctx : Fin 32)
  /-- SWP_ABORT (R178): The host ABORT writes the abort set and enters ABORTED with cause 0x01. -/
  | swpAbort (dt : Elapse) (ctx : Fin 32)
  /-- SWP_PAUSE (R185): PAUSE pauses a RUNNING context at its next step end. -/
  | swpPause (dt : Elapse) (ctx : Fin 32)
  /-- SWP_RESUME (R185): RESUME writes the next step of a host-paused context, or is refused. -/
  | swpResume (dt : Elapse) (ctx : Fin 32)
  /-- SWP_RELEASE (R168): RELEASE frees the tags of the context and enters IDLE. -/
  | swpRelease (dt : Elapse) (ctx : Fin 32)
  /-- TI_SWP_START (R174): An event at ti_swp_start starts an ARMED context with trig = 1, or sets start_refused. -/
  | tiSwpStart (dt : Elapse) (ctx : Fin 32)
  /-- START_TICK_REACHED (R174): When the machine tick reaches T, a context with trig = 2 starts. -/
  | startTickReached (dt : Elapse) (ctx : Fin 32)
  /-- DWELL_END (R171): At E_d the dwell ends and ev_swp_ap is produced. -/
  | dwellEnd (dt : Elapse) (ctx : Fin 32)
  /-- STEP_END (R171): At t_end the result entry is written and the next set, the base set, a wait or DONE follows. -/
  | stepEnd (dt : Elapse) (ctx : Fin 32)
  /-- OFF_PHASE_END (R167): At the end of the off phase of a pulsed sweep the next step is written. -/
  | offPhaseEnd (dt : Elapse) (ctx : Fin 32)
  /-- TI_SWP_STEP (R172): An event at ti_swp_step writes the next step of a waiting context, or is ignored and counted. -/
  | tiSwpStep (dt : Elapse) (ctx : Fin 32)
  /-- TI_SWP_ABORT (R177): An event at ti_swp_abort aborts the context with cause 0x02, unless abort_mask is set. -/
  | tiSwpAbort (dt : Elapse) (ctx : Fin 32)
  /-- TI_SWP_BRK (R177): A breakdown verdict at ti_swp_brk aborts the context with cause 0x03. -/
  | tiSwpBrk (dt : Elapse) (ctx : Fin 32)
  /-- PAUSE_MAX_EXPIRED (R182): When pause_max expires in PAUSED, the context aborts with cause 0x07. -/
  | pauseMaxExpired (dt : Elapse) (ctx : Fin 32)
  /-- TRG_TMO_EXPIRED (R184): When trg_tmo expires while waiting for a step trigger, the context pauses with trg_lost. -/
  | trgTmoExpired (dt : Elapse) (ctx : Fin 32)
  /-- STEP_BANK_WINDOW_WRITE (R160): A window write into the step or result bank is stored, or dropped with the status "locked". -/
  | stepBankWindowWrite (dt : Elapse) (path : Path) (bank : Fin 64) (word : BitVec 16) (value : Word) (ecc : Ecc)
  /-- MARK_ACCEPTED (R192): An accepted MARK is judged good or bad and drives the acquisition, lock, relock and load logic. -/
  | markAccepted (dt : Elapse)
  /-- MCLK_MISSING (R194): When no MCLK edge arrives for 8 × P_est, MCLK is missing and the flywheel fills the missed ticks. -/
  | mclkMissing (dt : Elapse)
  /-- MCLK_PRESENT (R194): After 64 consistent edges MCLK is present again and the counters follow real edges. -/
  | mclkPresent (dt : Elapse)
  /-- MARK_LOSS (R198): The end of a second turn without a good MARK loses the domain into HOLDOVER. -/
  | markLoss (dt : Elapse)
  /-- HOLDOVER_EXPIRED (R197): When mach_hold or mains_hold elapses in HOLDOVER, the domain becomes FROZEN. -/
  | holdoverExpired (dt : Elapse)
  /-- ACQUIRE_TIMEOUT (R197): When no MARK arrives for 2 turns in ACQUIRING, the domain returns to NONE. -/
  | acquireTimeout (dt : Elapse)
  /-- LOAD_NEXT_MARK (R200): PHS_CMD load = 1 arms a load at the next good MARK. -/
  | loadNextMark (dt : Elapse)
  /-- LOAD_AFTER_SEC (R200): PHS_CMD load = 2 arms a load at the first good MARK after load_sec. -/
  | loadAfterSec (dt : Elapse)
  /-- LOAD_CANCEL (R200): PHS_CMD load = 3 cancels an armed load. -/
  | loadCancel (dt : Elapse)
  /-- SNAPSHOT (R212): PHS_CMD snap captures the house tick, the machine counters, the mains position and the 1588 time in one tick. -/
  | snapshot (dt : Elapse)
  /-- TI_PHS_SNAP (R212): An event at ti_phs_snap takes a snapshot. -/
  | tiPhsSnap (dt : Elapse)
  /-- MACH_EN_CLEAR (R197): A write of mach_en = 0 returns the machine domain to NONE. -/
  | machEnClear (dt : Elapse)
  /-- MAINS_EDGE (R203): An accepted MAINS edge is judged good or bad, and drives lock, relock and the phase step. -/
  | mainsEdge (dt : Elapse)
  /-- MAINS_LOSS (R204): Two cycles without a good edge, or a period out of range, lose the mains domain. -/
  | mainsLoss (dt : Elapse)
  /-- ALARM_FIRE (R206): An enabled alarm whose position is reached produces its Hallway event. -/
  | alarmFire (dt : Elapse) (idx : Fin 4096)
  /-- ALM_WRITE (R211): PHS_ALM_CMD cmd = 1 copies the staged entry into alarm idx and checks it. -/
  | almWrite (dt : Elapse) (path : Path)
  /-- ALM_READ (R211): PHS_ALM_CMD cmd = 2 copies the entry into the path's staging and status. -/
  | almRead (dt : Elapse) (path : Path)
  /-- ALM_DISABLE (R211): PHS_ALM_CMD cmd = 3 clears the enable of the entry. -/
  | almDisable (dt : Elapse) (path : Path)
  /-- PPS_CAPTURE (R212): At each 1588 second boundary the house tick and the seconds are captured. -/
  | ppsCapture (dt : Elapse)
  /-- GUARD_TRIP (R225): A Guard comparator trip drops GATE without a clock, then quenches the channel, counts and raises ev_guard. -/
  | guardTrip (dt : Elapse) (ch : Fin 128) (cmp : Fin 4)
  /-- WATCH_TRIP (R227): A filtered Watch trip sets the latch, produces ev_watch, drives WTRIP and takes watch_action. -/
  | watchTrip (dt : Elapse) (ch : Fin 128) (cmp : Fin 4)
  /-- LATCH_HOST_CLEAR (R230): A host write of 1 to a latched bit in MON_STAT clears the latch if its comparator is released. -/
  | latchHostClear (dt : Elapse) (path : Path) (ch : Fin 128) (value : Word) (tripped : BitVec 2)
  /-- PU_RELEASE (R231): A comparator that started tripped releases after one full filter length, and pu_pending clears. -/
  | puRelease (dt : Elapse) (ch : Fin 128) (cmp : Fin 4)
  /-- RB_NOW (R236): MON_CMD rb_now reads the channel's four threshold DACs at the next allotted slots. -/
  | rbNow (dt : Elapse) (ch : Fin 128)
  /-- REFADC_CONVERSION (R245): At the end of each 10 µs slot the REFADC delivers the conversion of its scheduled input. -/
  | refadcConversion (dt : Elapse) (conv : Conv)
  /-- CAL_FULL_RUN_REQUEST (R252): CAL_CMD op 1 requests a full run on a channel. -/
  | calFullRunRequest (dt : Elapse) (ch : Fin 128)
  /-- CAL_GAIN_RUN_REQUEST (R252): CAL_CMD op 2 requests a gain-only run on a channel. -/
  | calGainRunRequest (dt : Elapse) (ch : Fin 128)
  /-- CAL_SAVE (R262): CAL_CMD op 3 stores a channel's present constants in the Cellar. -/
  | calSave (dt : Elapse) (ch : Fin 128)
  /-- CAL_ABORT (R260): CAL_CMD op 4 aborts the running run with code 0x0B. -/
  | calAbort (dt : Elapse)
  /-- CAL_RELOAD (R263): CAL_CMD op 5 chooses the newest valid slot again for the constant cache. -/
  | calReload (dt : Elapse) (ch : Fin 128)
  /-- TEMPERATURE_TRIGGER (R253): Once per second, each channel whose head temperature drifted beyond CAL_DT becomes due and may request a run. -/
  | temperatureTrigger (dt : Elapse)
  /-- TI_CAL_GO (R252): With cal_hold = 1, an event at ti_cal_go starts one pending run, or is counted. -/
  | tiCalGo (dt : Elapse)
  /-- CAL_RUN_START (R254): The idle sequencer starts the next pending run and checks its preconditions. -/
  | calRunStart (dt : Elapse)
  /-- ROUTE_ACK_TIMEOUT (R259): A route not acknowledged within 10 ms aborts the run with code 0x0E. -/
  | routeAckTimeout (dt : Elapse)
  /-- CAL_TMO_EXPIRED (R259): When CAL_TMO expires, the run aborts with code 0x01. -/
  | calTmoExpired (dt : Elapse)
  /-- CAL_STORE_CONFIRMED (R262): Once the Cellar confirms the commit record, the constants are written into the channel window. -/
  | calStoreConfirmed (dt : Elapse)
  /-- UPLINK_IDLE_FRAME (R283): An uplink IDLE frame advances training, declares presence or signals a head restart. -/
  | uplinkIdleFrame (dt : Elapse) (ch : Fin 128) (frame : Frame) (delay : Fin 32) (onTick : Bool)
  /-- DESCRIPTOR_FRAME (R289): A DESCRIPTOR frame is taken into the pass, and two identical good passes make the descriptor valid. -/
  | descriptorFrame (dt : Elapse) (ch : Fin 128) (frame : Frame)
  /-- MGMT_RESP_FRAME (R292): A MGMT_RESP fragment pair completes the outstanding management request, or is discarded. -/
  | mgmtRespFrame (dt : Elapse) (ch : Fin 128) (frame : Frame)
  /-- LEVEL_FRAME_SEND (R273): At each frame-grid edge the controller sends a LEVEL or MGMT_REQ frame with the present level and ranges. -/
  | levelFrameSend (dt : Elapse) (ch : Fin 128)
  /-- LNK_RETRAIN (R284): LNK_CMD retrain forces the link into RETRAIN. -/
  | lnkRetrain (dt : Elapse) (ch : Fin 128)
  /-- LNK_REENUM (R302): LNK_CMD reenum re-reads the descriptor through TRAIN and DESC, or is refused. -/
  | lnkReenum (dt : Elapse) (ch : Fin 128)
  /-- ELASTIC_SLIP (R286): A fill of 0 or 8 recentres the elastic buffer and reports a slip. -/
  | elasticSlip (dt : Elapse) (ch : Fin 128)
  /-- HEAD_ABSENT (R287): After 256 frames without a good frame, the head is declared absent and the link returns to DOWN. -/
  | headAbsent (dt : Elapse) (ch : Fin 128)
  /-- LINK_EN_CLEAR (R287): A write of link_en = 0 declares the head absent and holds the link in DOWN. -/
  | linkEnClear (dt : Elapse) (ch : Fin 128)
  /-- HMW_SEND (R293): HMW_CMD send queues the staged management request, or is refused. -/
  | hmwSend (dt : Elapse) (ch : Fin 128)
  /-- MGMT_TIMEOUT (R293): When the response time of a management request expires, mgmt_tmo is set and the link is freed. -/
  | mgmtTimeout (dt : Elapse) (ch : Fin 128)
  /-- ERROR_LINE_REPORT (R310): A report on an error line is counted, classified and recorded, and may make its source Grave. -/
  | errorLineReport (dt : Elapse) (source : BitVec 11) (cause : BitVec 8)
  /-- HEARTH_WINDOW_EXPIRY (R310): The counting window of a source expires after w_us, and the count restarts. -/
  | hearthWindowExpiry (dt : Elapse) (source : BitVec 11)
  /-- RECORD_SERVE (R314): The record path serves a pending report: it opens or merges a record, or loses it when the queue is full. -/
  | recordServe (dt : Elapse)
  /-- HRT_POP (R315): HRT_CMD pop removes and closes the head record. -/
  | hrtPop (dt : Elapse)
  /-- HRT_FIRST_ARM (R317): HRT_CMD first_arm re-arms the first-error registers. -/
  | hrtFirstArm (dt : Elapse)
  /-- HRT_CLR_LOST (R327): HRT_CMD clr_lost sets lost_total to 0. -/
  | hrtClrLost (dt : Elapse)
  /-- HRT_SRC_WRITE_CFG (R327): HRT_SRC_CMD cmd = 1 copies the staged configuration into the source. -/
  | hrtSrcWriteCfg (dt : Elapse) (path : Path)
  /-- HRT_SRC_READ (R327): HRT_SRC_CMD cmd = 2 copies the source's configuration and state into the path's registers. -/
  | hrtSrcRead (dt : Elapse) (path : Path)
  /-- FORCE_SET (R322): HRT_SRC_CMD cmd = 3 injects a report and sets the force bit, or completes locked. -/
  | forceSet (dt : Elapse) (path : Path)
  /-- FORCE_CLEAR (R322): HRT_SRC_CMD cmd = 4 clears the source's force bit. -/
  | forceClear (dt : Elapse) (path : Path)
  /-- HOST_RELEASE (R324): HRT_SRC_CMD cmd = 5 clears Grave, undoes the fence and releases the unit. -/
  | hostRelease (dt : Elapse) (path : Path)
  /-- CLEAR_OCC_COUNT (R328): HRT_SRC_CMD cmd = 6 clears occ_count, lost_count, real and inj. -/
  | clearOccCount (dt : Elapse) (path : Path)
  /-- TMR_VOTE (R305): A disagreeing redundant copy is out-voted and reported on the self source. -/
  | tmrVote (dt : Elapse)
  /-- CFG_CHECK_STAGING (R339): CFG_CMD op 1 copies and checks the staging image. -/
  | cfgCheckStaging (dt : Elapse) (path : Path)
  /-- CFG_APPLY_STAGING (R343): CFG_CMD op 2 applies the overlay from the staging bank to a wing. -/
  | cfgApplyStaging (dt : Elapse) (path : Path) (wing : Fin 8)
  /-- CFG_APPLY_SLOT (R343): CFG_CMD op 3 applies a library slot overlay to a wing. -/
  | cfgApplySlot (dt : Elapse) (path : Path) (wing : Fin 8) (slot : BitVec 6)
  /-- CFG_STORE_SLOT (R342): CFG_CMD op 4 stores the staging overlay into a library slot. -/
  | cfgStoreSlot (dt : Elapse) (path : Path) (slot : BitVec 6)
  /-- CFG_STORE_FOUNDATION (R351): CFG_CMD op 5 checks the staging Foundation and stores it into the inactive Cellar slot. -/
  | cfgStoreFoundation (dt : Elapse) (path : Path)
  /-- CFG_ACTIVATE_KEEPER (R350): CFG_CMD op 6 halts the Keeper and restarts it on the other image. -/
  | cfgActivateKeeper (dt : Elapse) (path : Path)
  /-- CFG_ABORT (R348): CFG_CMD op 7 aborts an apply before tick A with code 0x15. -/
  | cfgAbort (dt : Elapse) (path : Path)
  /-- FOUNDATION_COMMIT (R340): At tick C the checked Foundation's records take effect and RWL fields lock. -/
  | foundationCommit (dt : Elapse)
  /-- OVERLAY_APPLY_A (R344): At tick A the checks repeat and the hold releases, or the overlay's writes are undone. -/
  | overlayApplyA (dt : Elapse)
  /-- KEEPER_READY (R350): The Keeper reports ready, and the new image becomes the boot image. -/
  | keeperReady (dt : Elapse)
  /-- KEEPER_READY_TIMEOUT (R350): Without ready 2 s after a restart, the Keeper restarts on the previous image with kpr_fallback. -/
  | keeperReadyTimeout (dt : Elapse)
  /-- SCRUB_READ (R352): The scrub engine reads an item and rewrites it when it differs from its reference. -/
  | scrubRead (dt : Elapse) (region : Fin 16) (index : Nat) (differs : Bool) (refBad : Bool) (ends : Bool)
  /-- PAN_OWN_WRITE (R363): A write of PAN_OWN names new owners and starts the drain of the old owners. -/
  | panOwnWrite (dt : Elapse) (path : Path) (n : Fin 8) (value : Word)
  /-- OWN_DRAIN_ACK (R363): When the old owner's accesses have drained, the bank's PAN_OWN_ACK bit sets. -/
  | ownDrainAck (dt : Elapse) (bank : Fin 64)
  /-- PANTRY_WINDOW_READ (R359): A window read delivers the corrected word, or all ones with the status "data error" when poisoned. -/
  | pantryWindowRead (dt : Elapse) (path : Path) (bank : Fin 64) (word : BitVec 16) (high : Bool) (ecc : Ecc)
  /-- PANTRY_WINDOW_WRITE (R358): A window high-word write commits a whole Pantry word with new check bits, or is refused by owner rules. -/
  | pantryWindowWrite (dt : Elapse) (path : Path) (bank : Fin 64) (word : BitVec 16) (value : Word) (ecc : Ecc) (other : Option DWord)
  /-- PATROL_READ (R360): Every 256 house ticks the patrol reads one word of each bank on port B. -/
  | patrolRead (dt : Elapse) (bank : Fin 64) (ecc : Ecc)
  /-- PAN_REMAP_ROW (R367): PAN_CMD op 1 remaps a row to a spare row. -/
  | panRemapRow (dt : Elapse) (path : Path) (bank : Fin 64) (row : Fin 256)
  /-- ROW_REMAP_DONE (R367): After the copy the spare row takes the row's place, or rows_out is set. -/
  | rowRemapDone (dt : Elapse) (bank : Fin 64)
  /-- PAN_MIGRATE_BANK (R368): PAN_CMD op 2 migrates a bank to a free spare bank, or sets mig_refused. -/
  | panMigrateBank (dt : Elapse) (path : Path) (bank : Fin 64)
  /-- BANK_FENCE (R368): A Hearth fence of a bank migrates it to a spare bank, or withdraws it. -/
  | bankFence (dt : Elapse) (bank : Fin 64)
  /-- MIGRATION_DONE (R368): After the copy the spare bank takes the bank's number and addresses. -/
  | migrationDone (dt : Elapse) (bank : Fin 64)
  /-- PAN_FULL_BIST (R369): PAN_CMD op 3 runs a full March C- BIST on a code-0 bank. -/
  | panFullBist (dt : Elapse) (path : Path) (bank : Fin 64)
  /-- FULL_BIST_DONE (R369): The full BIST ends, leaves every word 0 and loads its result. -/
  | fullBistDone (dt : Elapse) (rows : List (Fin 256))
  /-- ONLINE_BIST_BORROW (R370): Every bist_us the online BIST saves, tests and restores one 64-word region. -/
  | onlineBistBorrow (dt : Elapse) (fails : Bool)
  /-- CHUTE_PUSH (R374): A push stores a word, or is dropped as an overflow or a collision. -/
  | chutePush (dt : Elapse) (chute : Fin 256) (unit : Fin 272) (word : DWord)
  /-- CHUTE_POP (R374): A pop delivers the word at r, or counts an underflow or a collision. -/
  | chutePop (dt : Elapse) (chute : Fin 256) (unit : Fin 32) (ecc : Ecc)
  /-- CHU_FLUSH (R376): The flush bit of CHU_GEN discards every word of the Chute and increments gen. -/
  | chuFlush (dt : Elapse) (chute : Fin 256)
  /-- POINTER_CHECK_FAIL (R379): Disagreeing pointer copies flush the Chute and set ptr_err. -/
  | pointerCheckFail (dt : Elapse) (chute : Fin 256) (w : BitVec 17) (w2 : BitVec 17) (r : BitVec 17) (r2 : BitVec 17)
  /-- CHUTE_STALE (R380): The stale timer of a non-empty Chute expires, setting stale and producing ev_chu_stale. -/
  | chuteStale (dt : Elapse) (chute : Fin 256)
  /-- HALLWAY_EVENT (R384): A producer edge passes a Hallway channel to its task inputs, or is absorbed. -/
  | hallwayEvent (dt : Elapse) (producer : BitVec 12) (half : Bool)
  /-- RATE_WINDOW_EXPIRY (R391): The rate window of a channel ends after rate_win_us. -/
  | rateWindowExpiry (dt : Elapse) (chan : Fin 256)
  /-- REFRACTORY_END (R386): The refractory guard of a channel ends after refr. -/
  | refractoryEnd (dt : Elapse) (chan : Fin 256)
  /-- HWY_FIRE (R396): A write of HWY_FIRE produces ev_host_k for each bit set. -/
  | hwyFire (dt : Elapse) (mask : BitVec 16)
  /-- HWY_ROUTE_WRITE (R398): HWY_CH_CMD cmd = 1 replaces a channel's route and refr in one tick. -/
  | hwyRouteWrite (dt : Elapse) (path : Path)
  /-- HWY_ROUTE_READ (R400): HWY_CH_CMD cmd = 2 copies the channel's route and counts into the path's registers. -/
  | hwyRouteRead (dt : Elapse) (path : Path)
  /-- HWY_CLEAR_COUNTS (R400): HWY_CH_CMD cmd = 3 clears the channel's counts. -/
  | hwyClearCounts (dt : Elapse) (path : Path)
  /-- HWY_TI_CLR (R400): HWY_TI_CMD clr clears coinc and coinc_count of the selected task input. -/
  | hwyTiClr (dt : Elapse) (path : Path)
  /-- DESCRIPTOR_SET_LOAD (R408): After a bank is handed to code 3, the Study reads and checks its descriptor set. -/
  | descriptorSetLoad (dt : Elapse)
  /-- DESCRIPTOR_BOUNDARY (R410): At its descriptor boundary an engine takes its pending descriptor and clears its state. -/
  | descriptorBoundary (dt : Elapse) (engine : Fin 16)
  /-- HELD_WORDS_TIMEOUT (R410): Words of an unfinished item held for 1 ms are discarded as torn. -/
  | heldWordsTimeout (dt : Elapse) (engine : Fin 16)
  /-- STUDY_POP (R406): An engine with room pops a word from its input Chute. -/
  | studyPop (dt : Elapse) (engine : Fin 16) (ecc : Ecc)
  /-- KERNEL_START (R406): A kernel starts in the tick after the last word of an item arrives. -/
  | kernelStart (dt : Elapse) (engine : Fin 16) (flushAt : Option (Fin 8))
  /-- KERNEL_END (R406): At the end of its cost the kernel pushes its output item and produces its events. -/
  | kernelEnd (dt : Elapse) (engine : Fin 16) (flushAt : Option (Fin 8))
  /-- TI_STD_CLOSE (R414): An event at ti_std_e_0 makes the kernel emit or close its segment. -/
  | tiStdClose (dt : Elapse) (engine : Fin 16) (flushAt : Option (Fin 8))
  /-- TI_STD_RESET (R414): An event at ti_std_e_1 clears history, segment, verdict and bins. -/
  | tiStdReset (dt : Elapse) (engine : Fin 16) (flushAt : Option (Fin 8))
  /-- STUDY_FENCE (R416): A fence abandons the running item and drops the engine's descriptors. -/
  | studyFence (dt : Elapse) (engine : Fin 16)
  /-- PORT_BLOCK_LOCK (R419): After 10 ms of block lock the port's link_up becomes 1. -/
  | portBlockLock (dt : Elapse) (port : Fin 2)
  /-- SPEED_TRY_EXPIRY (R419): In auto speed, each 500 ms try without lock switches between 25G and 10G. -/
  | speedTryExpiry (dt : Elapse) (port : Fin 2)
  /-- NETWORK_HOUSEKEEPING_FRAME (R420): The port answers ARP, Neighbor Solicitation and echo, or drops fragments and bad datagrams. -/
  | networkHousekeepingFrame (dt : Elapse) (port : Fin 2) (vid : Option (BitVec 12)) (f : HouseFrame)
  /-- CLAONDEA_MESSAGE (R423): A received message is accepted or dropped, and its session sequence is checked. -/
  | claondeaMessage (dt : Elapse) (port : Fin 2) (datagram : Datagram)
  /-- PING (R429): PING returns the house tick and the node ID. -/
  | ping (dt : Elapse) (port : Fin 2)
  /-- REG_READ (R429): REG_READ reads n listed addresses on the port's path. -/
  | regRead (dt : Elapse) (port : Fin 2) (eccs : List Ecc)
  /-- REG_WRITE (R429): REG_WRITE writes n address and value pairs in body order. -/
  | regWrite (dt : Elapse) (port : Fin 2) (eccs : List Ecc)
  /-- BLK_READ (R429): BLK_READ reads n ascending addresses. -/
  | blkRead (dt : Elapse) (port : Fin 2) (eccs : List Ecc)
  /-- BLK_WRITE (R429): BLK_WRITE writes n values to ascending addresses. -/
  | blkWrite (dt : Elapse) (port : Fin 2) (eccs : List Ecc)
  /-- OVL_LOAD (R429): OVL_LOAD writes data into the staging bank, and with apply = 1 requests op 2. -/
  | ovlLoad (dt : Elapse) (port : Fin 2)
  /-- SWEEP_LOAD (R429): SWEEP_LOAD writes the context registers and step records, and with arm = 1 arms the context. -/
  | sweepLoad (dt : Elapse) (port : Fin 2)
  /-- STREAM_SUB (R430): STREAM_SUB binds or ends a stream subscription of Chutes. -/
  | streamSub (dt : Elapse) (port : Fin 2)
  /-- EVENT_SUB (R432): EVENT_SUB binds or ends an event subscription of Hallway channels. -/
  | eventSub (dt : Elapse) (port : Fin 2)
  /-- EVENT_FIRE (R434): EVENT_FIRE produces ev_net_k for each bit set. -/
  | eventFire (dt : Elapse) (port : Fin 2)
  /-- MC_START (R435): MC_START delivers machine tick T to every context with the matching start set. -/
  | mcStart (dt : Elapse) (port : Fin 2)
  /-- EVENT_NOTIFY_ACK (R432): A host acknowledge ends the resending of an EVENT_NOTIFY. -/
  | eventNotifyAck (dt : Elapse) (sub : Fin 8)
  /-- RESPONSE_HANDOVER (R426): A response is handed to the MAC and releases its tag. -/
  | responseHandover (dt : Elapse) (port : Fin 2)
  /-- STREAM_DATA_SEND (R430): An open datagram is sent when full or after flush_us. -/
  | streamDataSend (dt : Elapse) (sub : Fin 32) (chute : Fin 256)
  /-- STREAM_ITEM_COPY (R430): The serving DMA pops an item and copies it into each covering subscription's datagram, or drops it. -/
  | streamItemCopy (dt : Elapse) (chute : Fin 256) (ecc : Ecc)
  /-- EVENT_NOTIFY (R432): A watch bit in the mask and an elapsed holdoff send an EVENT_NOTIFY snapshot. -/
  | eventNotify (dt : Elapse) (sub : Fin 8)
  /-- NOTIFY_RESEND (R432): An unacknowledged notify is sent again every 1 ms, up to 8 sends, then notify_lost. -/
  | notifyResend (dt : Elapse) (sub : Fin 8)
  /-- PTP_MESSAGE (R437): A PTP message is timestamped and the servo updates the clock, may step it, or declares lock. -/
  | ptpMessage (dt : Elapse) (msg : PtpMsg)
  /-- ANNOUNCE_TIMEOUT (R437): After 3 announce timeouts the clock enters holdover and sets ptp_lost. -/
  | announceTimeout (dt : Elapse)
  /-- FAILOVER (R438): After fo_ms without link, or on a fence, the other port takes over the addresses and Chutes. -/
  | failover (dt : Elapse) (port : Fin 2)
  /-- FAILBACK (R439): PRC_CMD failback moves the traffic back to the restored port. -/
  | failback (dt : Elapse) (path : Path)
  /-- CLR_SESSIONS (R446): PRC_CMD clr_sessions ends all sessions and their subscriptions. -/
  | clrSessions (dt : Elapse) (path : Path)
  /-- SIDE_DOOR_READ (R441): A Side Door read frame checks its CRC and reads n words on the Side Door path. -/
  | sideDoorRead (dt : Elapse) (bytes : List Byte) (eccs : List Ecc) (late : Bool)
  /-- SIDE_DOOR_WRITE (R442): A Side Door write frame with a good CRC applies n words in order. -/
  | sideDoorWrite (dt : Elapse) (bytes : List Byte) (eccs : List Ecc) (late : Bool)
  /-- SIDE_DOOR_STATUS (R442): A STATUS frame returns the status of the path's last read or write. -/
  | sideDoorStatus (dt : Elapse) (bytes : List Byte)
  /-- SIDE_DOOR_BAD_CMD (R442): Op 0 is answered with 0x07 and sets bad_cmd. -/
  | sideDoorBadCmd (dt : Elapse) (bytes : List Byte)
  /-- FRAME_ERR (R442): A frame that SD_CSN ends before its CRC performs no access and sets frame_err. -/
  | frameErr (dt : Elapse)
  /-- KPR_DOOR_RING (R443): A ring of KPR_DOOR latches the command and owns the mailbox, or is refused with 0x06. -/
  | kprDoorRing (dt : Elapse) (path : Path)
  /-- INFO (R444): INFO returns the image versions and the active, ready state of the Keeper. -/
  | info (dt : Elapse)
  /-- IMG_LOAD (R444): IMG_LOAD checks a Keeper image and stores it in the inactive slot. -/
  | imgLoad (dt : Elapse)
  /-- FUSE_KEY (R444): FUSE_KEY burns a key hash. -/
  | fuseKey (dt : Elapse) (verifies : Bool)
  /-- FUSE_REVOKE (R444): FUSE_REVOKE burns a key's revoke bit. -/
  | fuseRevoke (dt : Elapse) (verifies : Bool)
  /-- FUSE_MINVER (R444): FUSE_MINVER burns min_ver bits up to the new value. -/
  | fuseMinver (dt : Elapse) (verifies : Bool)
  /-- FUSE_SECURE (R444): FUSE_SECURE burns secure_en when the active Foundation verified. -/
  | fuseSecure (dt : Elapse) (verifies : Bool)
  /-- HIST_READ (R444): HIST_READ copies history ring entries into a bank. -/
  | histRead (dt : Elapse)
  /-- MAILBOX_TIMEOUT (R443): A command exceeding its bound ends with result 0x07 and frees the mailbox. -/
  | mailboxTimeout (dt : Elapse)
  /-- MAILBOX_COMMAND_END (R443): At the end of a command its result is loaded and done is set. -/
  | mailboxCommandEnd (dt : Elapse)
  /-- KEEPER_WDOG (R447): No Keeper heartbeat for 1 s sets wdog and raises the Keeper error line. -/
  | keeperWdog (dt : Elapse)
  /-- CELLAR_MOUNT (R463): At boot the Cellar reads parameter pages, markers, tags and commit pages, and mounts or fails. -/
  | cellarMount (dt : Elapse) (part : NandPart)
  /-- UNIT_STORE (R456): A unit store programs data pages and a commit page, then erases older generations. -/
  | unitStore (dt : Elapse) (outs : List NandOut)
  /-- UNIT_READ (R457): A unit read returns the committed generation, or fails its CRC with code 0x16. -/
  | unitRead (dt : Elapse) (outs : List NandOut)
  /-- JOURNAL_APPEND (R458): A calibration page is appended to the journal and confirmed. -/
  | journalAppend (dt : Elapse) (outs : List NandOut)
  /-- JOURNAL_COMPACTION (R458): With fewer than 64 erased journal pages, the live pages are copied and the emptied blocks erased. -/
  | journalCompaction (dt : Elapse) (outs : List NandOut)
  /-- HISTORY_PAGE_WRITE (R459): A full buffer, a flush timer or op 2 writes a page of history entries. -/
  | historyPageWrite (dt : Elapse) (outs : List NandOut)
  /-- HIST_FLUSH_TIMER (R459): hist_flush_s after the oldest buffered entry, the history page is written. -/
  | histFlushTimer (dt : Elapse)
  /-- NAND_OP_TIMEOUT (R449): A status not arriving within its limit fails the operation, and RESET is issued. -/
  | nandOpTimeout (dt : Elapse)
  /-- BLOCK_REFRESH (R461): A block is refreshed by copying its valid pages to a free block and erasing it. -/
  | blockRefresh (dt : Elapse) (outs : List NandOut)
  /-- RETENTION_SCAN_READ (R461): Every scan_ms the retention scan reads one written page. -/
  | retentionScanRead (dt : Elapse) (outs : List NandOut)
  /-- WEAR_MIGRATION (R460): When erase counts differ by more than wl_delta, the coldest block moves to the most worn free block. -/
  | wearMigration (dt : Elapse) (outs : List NandOut)
  /-- CEL_RETENTION_PASS (R466): CEL_CMD op 1 starts a retention pass. -/
  | celRetentionPass (dt : Elapse) (path : Path)
  /-- CEL_FLUSH_HISTORY (R459): CEL_CMD op 2 writes the buffered history entries. -/
  | celFlushHistory (dt : Elapse) (path : Path)
  /-- CEL_REFRESH_BLOCK (R461): CEL_CMD op 3 refreshes the named block. -/
  | celRefreshBlock (dt : Elapse) (path : Path) (block : BitVec 13)
  /-- CEL_MARK_BAD (R466): CEL_CMD op 4 marks a block bad, in SERVICE only. -/
  | celMarkBad (dt : Elapse) (path : Path) (block : BitVec 13)
  /-- CELLAR_FENCE (R464): A fence completes the present NAND operation and fails every later request. -/
  | cellarFence (dt : Elapse)
  /-- SUPPLY_FAULT (R469): A supply out of range for 1 µs takes the reaction of its row: reset, SAFE request or NAND failure. -/
  | supplyFault (dt : Elapse) (supply : Fin 7) (low : Bool)
  /-- HREF_LOST (R471): HREF lost for 100 ns, or a PLL unlock, forces every wing to SAFE. -/
  | hrefLost (dt : Elapse) (pll : Bool)
  /-- RESET_N (R472): RESET_N low for 100 ns takes a device reset. -/
  | resetN (dt : Elapse)
  /-- GLB_RST_WRITE (R472): A write of GLB_RST with the key and dev = 1 takes a device reset. -/
  | glbRstWrite (dt : Elapse) (path : Path) (value : Word)
  /-- DEVICE_RESET_RELEASE (R473): The device reset is released and boot runs from the release. -/
  | deviceResetRelease (dt : Elapse) (bootSel : BitVec 2)
  /-- BOOT_GO (R479): GLB_BOOT_CMD go copies and checks a host-delivered Foundation. -/
  | bootGo (dt : Elapse) (path : Path)
  /-- BOOT_STORE (R480): GLB_BOOT_CMD store writes the host-delivered Foundation into the unused Cellar slot. -/
  | bootStore (dt : Elapse) (path : Path)
  /-- KEEPER_START (R481): After mount the Keeper starts from the image that last reported ready. -/
  | keeperStart (dt : Elapse)
  /-- GLB_MODE_REQ (R483): A GLB_MODE_REQ write requests a mode for the selected wings. -/
  | glbModeReq (dt : Elapse) (path : Path) (value : Word)
  /-- TI_WAKE (R483): An event at ti_wake requests the wing's wake_mode from SAFE. -/
  | tiWake (dt : Elapse) (wing : Fin 8)
  /-- HRT_SAFE_REQUEST (R313): An event on ev_hrt_safe_ramp or ev_hrt_safe_now requests SAFE for the wing or all wings. -/
  | hrtSafeRequest (dt : Elapse) (wings : BitVec 8) (now : Bool)
  /-- MODE_ENTRY (R485): An entry into a mode wakes the wing, applies any overlay and changes the mode code. -/
  | modeEntry (dt : Elapse) (wing : Fin 8)
  /-- SAFE_ENTRY (R487): A SAFE request sets the mode code at once and starts the channel effects. -/
  | safeEntry (dt : Elapse) (wing : Fin 8)
  /-- SLEEP_ENTRY (R490): A SAFE wing with sleep level 1 or 2 stops its clocks once its channels are down. -/
  | sleepEntry (dt : Elapse) (wing : Fin 8)
  /-- WING_WAKE (R492): The clocks of a sleeping wing run again after its wake time, and its links train. -/
  | wingWake (dt : Elapse) (wing : Fin 8)
  /-- JTAG_UPDATE_IR (R515): An EXTEST-class instruction made current in Update-IR forces every wing to SAFE. -/
  | jtagUpdateIr (dt : Elapse) (on : Bool) (cells : BitVec 9)
  /-- STAIRWELL_FENCE (R177): A fence aborts every context that is not IDLE with cause 0x08. -/
  | stairwellFence (dt : Elapse)
  /-- CAL_SEQUENCER_FENCE (R259): A fence aborts the running calibration run with code 0x0F. -/
  | calSequencerFence (dt : Elapse)
  /-- CFG_ENGINE_FENCE (R348): A fence of the configuration engine aborts an apply before A and stops new operations. -/
  | cfgEngineFence (dt : Elapse)
  /-- SUPPLY_RETURN (R469): A supply that was out of range returns within its operating range; enabled comparators restart tripped when VDD_ANA returns, and GATE is driven low once VDD_IO is in range. -/
  | supplyReturn (dt : Elapse) (supply : Fin 7)
  /-- HREF_RETURN (R471): HREF edges return after a loss and the house and tile PLLs relock within 2 ms, while the wings stay in SAFE. -/
  | hrefReturn (dt : Elapse)
  /-- COMPARATOR_RELEASE (R229): A tripped Guard or Watch comparator becomes released after its release filter, which allows its latch to clear and ends the WTRIP drive. -/
  | comparatorRelease (dt : Elapse) (ch : Fin 128) (cmp : Fin 4)
  /-- PORT_LINK_DOWN (R446): A Porch port loses block lock and link_up falls, setting link_down and raising the port's error line. -/
  | portLinkDown (dt : Elapse) (port : Fin 2)
  /-- KEEPER_FENCE (R304): A Hearth fence event halts the Keeper, and from then on the mailbox refuses commands. -/
  | keeperFence (dt : Elapse)
  /-- SIDE_DOOR_FENCE (R304): A Hearth fence event makes the Side Door SPI target ignore all frames. -/
  | sideDoorFence (dt : Elapse)
  /-- KEEPER_FAULT (R447): The Keeper reports an internal fault, setting kpr_fault and raising the Keeper error line. -/
  | keeperFault (dt : Elapse)
  /-- NAND_OPERATION_DONE (R449): A NAND program, erase or read completes and READ STATUS returns, confirming the page or failing it, after which the Cellar picks its next request by rank. -/
  | nandOperationDone (dt : Elapse) (out : NandOut)
  /-- CAL_WAIT_EXPIRY (R257): A settle_ms or inj_ms wait of a calibration run ends, so averaging starts or the injection half-cycle switches the DAC code. -/
  | calWaitExpiry (dt : Elapse)
  /-- ARMING_GATE_RISE (R60): GATE of an arming channel rises once 1,024 house ticks have passed since it last fell, and arm_timeout starts counting. -/
  | armingGateRise (dt : Elapse) (ch : Fin 128)
  /-- BOOT_STANDBY_ENTRY (R476): After the commit and the filling of the overlay and calibration caches, every wing enters STANDBY and the boot stage becomes 5. -/
  | bootStandbyEntry (dt : Elapse)
deriving DecidableEq, Repr

end Sys2Proof
end

