-- ==== Sys2Proof/Machine/Tbl.lean ====
section
/-!
DEFINITION. Sparse tables: the form in which the state holds numbered registers and numbered units. A table is a list
of (number, value) pairs with strictly rising numbers; a number that is not listed holds the default the reader names
(its reset value). The Pantry's bytes have a stricter form of their own (Mem, at the end).
-/

namespace Sys2Proof.Machine

/-- A sparse table of values by number. -/
abbrev Tbl (α : Type) := List (Nat × α)

/-- The value at number `k`, or `d` where the table lists none. -/
def Tbl.get {α : Type} (d : α) : Tbl α → Nat → α
  | [], _ => d
  | (a, x) :: t, k => if a = k then x else Tbl.get d t k

/-- The table with value `v` at number `k`. -/
def Tbl.put {α : Type} : Tbl α → Nat → α → Tbl α
  | [], k, v => [(k, v)]
  | (a, x) :: t, k, v =>
    if k < a then (k, v) :: (a, x) :: t
    else if a = k then (k, v) :: t
    else (a, x) :: Tbl.put t k v

/-- The table with the value at `k` changed by `f`. -/
def Tbl.upd {α : Type} (d : α) (t : Tbl α) (k : Nat) (f : α → α) : Tbl α :=
  Tbl.put t k (f (Tbl.get d t k))

/-- The table without the entries whose number meets `p`: those numbers go back to their default. -/
def Tbl.drop {α : Type} (t : Tbl α) (p : Nat → Bool) : Tbl α := List.filter (fun e => !p e.1) t

/-- The numbers rise strictly. -/
def Tbl.wf {α : Type} : Tbl α → Bool
  | [] => true
  | [_] => true
  | (a, _) :: (b, y) :: t => decide (a < b) && Tbl.wf ((b, y) :: t)

/-- Memory: (address, byte) pairs. -/
abbrev Mem := List Host.Cell

/-- The byte at address `a`; a byte nothing has written reads 0 (DESIGN CHOICE, log 5). -/
def Mem.get (m : Mem) (a : Nat) : Byte := Tbl.get 0#8 m a

/-- The memory without an entry for `a`. -/
def Mem.erase : Mem → Nat → Mem
  | [], _ => []
  | (b, x) :: t, a => if b = a then Mem.erase t a else (b, x) :: Mem.erase t a

/-- The memory with byte `v` at address `a`, in canonical form: writing 0, what an unlisted byte reads as, removes
the entry. -/
def Mem.put (m : Mem) (a : Nat) (v : Byte) : Mem :=
  if v = 0#8 then Mem.erase m a else Tbl.put m a v

/-- The canonical form of memory: addresses strictly rising and no entry equal to what an unlisted byte reads as. -/
def Mem.wf : Mem → Bool
  | [] => true
  | [(_, x)] => x != 0#8
  | (a, x) :: (b, y) :: t => decide (a < b) && (x != 0#8) && Mem.wf ((b, y) :: t)

/-- `n` bytes from address `a` on. -/
def Mem.bytes (m : Mem) (a : Nat) : Nat → List Byte
  | 0 => []
  | n + 1 => Mem.get m a :: Mem.bytes m (a + 1) n

/-- The memory with the bytes of `bs` from address `a` on. -/
def Mem.putBytes (m : Mem) (a : Nat) : List Byte → Mem
  | [] => m
  | b :: bs => Mem.putBytes (Mem.put m a b) (a + 1) bs

/-- The number that bytes spell, the least significant byte first (R8: little-endian). -/
def leNat : List Byte → Nat
  | [] => 0
  | b :: bs => b.toNat + 256 * leNat bs

/-- The `n` bytes of a number, the least significant byte first. -/
def leBytes : Nat → Nat → List Byte
  | 0, _ => []
  | n + 1, v => BitVec.ofNat 8 v :: leBytes n (v / 256)

/-- The number that bytes spell, the most significant byte first. -/
def beNat (bs : List Byte) : Nat := leNat bs.reverse

/-- The `n` bytes of a number, the most significant byte first. -/
def beBytes (n v : Nat) : List Byte := (leBytes n v).reverse

/-- Bits `[lo + w - 1 : lo]` of a word, as a number. -/
def bits {n : Nat} (x : BitVec n) (lo w : Nat) : Nat := x.toNat / 2 ^ lo % 2 ^ w

/-- Bit `i` of a word. -/
def bit {n : Nat} (x : BitVec n) (i : Nat) : Bool := x.getLsbD i

/-- The word with bits `[lo + w - 1 : lo]` replaced by the low `w` bits of `v`. -/
def setBits {n : Nat} (x : BitVec n) (lo w v : Nat) : BitVec n :=
  BitVec.ofNat n (x.toNat - x.toNat / 2 ^ lo % 2 ^ w * 2 ^ lo + v % 2 ^ w * 2 ^ lo)

/-- The word with bit `i` set. -/
def setBit {n : Nat} (x : BitVec n) (i : Nat) : BitVec n := x ||| BitVec.ofNat n (2 ^ i)

/-- The word with bit `i` clear. -/
def clrBit {n : Nat} (x : BitVec n) (i : Nat) : BitVec n := x &&& ~~~ BitVec.ofNat n (2 ^ i)

/-- The word with bit `i` equal to `b`. -/
def putBit {n : Nat} (x : BitVec n) (i : Nat) (b : Bool) : BitVec n := if b then setBit x i else clrBit x i

/-- A flag as a number. -/
def b2n (b : Bool) : Nat := if b then 1 else 0

/-- The numbers from `a` on, `n` of them. -/
def rangeFrom (a : Nat) : Nat → List Nat
  | 0 => []
  | n + 1 => a :: rangeFrom (a + 1) n

end Sys2Proof.Machine
end

