-- ==== Sys2Proof/Machine/Crc.lean ====
section
/-!
DEFINITION. The cyclic redundancy checks of the spec: CRC-32C over byte strings (R333) and the CRC-16 of the link
frames (R270).
-/

namespace Sys2Proof.Machine

/-- One bit of a reflected CRC with polynomial `p`. -/
def crcBit (p : Nat) (c : Nat) : Nat := if c % 2 = 1 then Nat.xor (c / 2) p else c / 2

/-- One byte of a reflected CRC with polynomial `p`. -/
def crcByte (p : Nat) (c : Nat) (b : Byte) : Nat :=
  (rangeFrom 0 8).foldl (fun c _ => crcBit p c) (Nat.xor c b.toNat)

/-- CRC-32C (R333): Castagnoli polynomial in reflected form, initial value and final exclusive or all ones. -/
def crc32c (bs : List Byte) : Word :=
  BitVec.ofNat 32 (Nat.xor (bs.foldl (crcByte 0x82F63B78) 0xFFFFFFFF) 0xFFFFFFFF)

/-- One byte of the link CRC: polynomial 0x1021, most significant bit first. -/
def crc16Byte (c : Nat) (b : Byte) : Nat :=
  (rangeFrom 0 8).foldl (fun c _ => if 0x8000 ≤ c then Nat.xor (c * 2 % 65536) 0x1021 else c * 2) (Nat.xor c (256 * b.toNat))

/-- CRC-16 of a link frame (R270): initial value 0xFFFF, no reflection, no final exclusive or. -/
def crc16 (bs : List Byte) : Nat := bs.foldl crc16Byte 0xFFFF

end Sys2Proof.Machine
end

