-- ==== Sys2Proof/Config.lean ====
section
/-!
DEFINITION. The free values of the model: what the spec leaves open or gives no value for. Each is an opaque
constant with no body, so no proof can use a value of it. The assumption log names every one (log 2).
-/

namespace Sys2Proof

/-- The payload bits of a NaN that binary32 arithmetic makes from its operands (not stated by the spec). -/
opaque Config.nanPayload32 : Word → Word → BitVec 22

/-- The payload bits of a NaN that binary64 arithmetic makes from its operands (not stated by the spec). -/
opaque Config.nanPayload64 : DWord → DWord → BitVec 51

/-- A fresh free word: the argument is the state's counter of free values. -/
opaque Config.freeWord : Nat → Word

/-- A fresh free double word. -/
opaque Config.freeDWord : Nat → DWord

/-- A fresh free bit: a choice the spec allows either way. -/
opaque Config.freeBit : Nat → Bool

/-- How the power function of a logarithmic sweep in binary64 rounds, which R166 does not state (log 8): 0 to nearest, 1
and 2 the neighbours above and below. -/
opaque Config.powUlp : DWord → DWord → Fin 3

/-- How the exponential of a Study engine in binary64 rounds, which R411 does not state (log 8), as for the power. -/
opaque Config.expUlp : DWord → Fin 3

/-- The nominal bandgap voltage that OTP copy A or B holds; R242 does not say at which byte (log 6). -/
opaque Config.bandgap : Nat → DWord

/-- What the identity record in a factory unit's data says, where it is valid: MAC address, IPv4 address and node ID
(R478); chapter 16 gives the record no layout (log 18). -/
opaque Config.identity : List Byte → Option (BitVec 48 × Word × BitVec 14)

/-- The grade bit that the OTP holds (GLB_ID); R242 does not say at which byte (log 6). -/
opaque Config.grade : Bool

end Sys2Proof
end

