-- ==== Sys2Proof/Machine/Float.lean ====
section
/-!
DEFINITION. IEEE 754 binary32 and binary64 arithmetic on bits: each operation computes the exact result as a fraction
and rounds it once, to nearest with ties to even. R92 states that rounding for the tiles; where a rule of another
chapter names binary64 arithmetic and no rounding, the same one is taken (PRESUMED, IEEE 754's default, log 8).
-/

namespace Sys2Proof.Machine

/-- What a floating-point number is: not a number, an infinity, or (-1)^s * m * 2^e. -/
inductive FVal where
  | nan
  | inf (s : Bool)
  | fin (s : Bool) (m : Nat) (e : Int)
deriving DecidableEq, Repr

/-- A floating-point format: exponent bits and fraction bits. -/
structure FFmt where
  eb : Nat
  mb : Nat
deriving DecidableEq, Repr

/-- binary32 -/
def FFmt.f32 : FFmt := ⟨8, 23⟩
/-- binary64 -/
def FFmt.f64 : FFmt := ⟨11, 52⟩

/-- The exponent of the unit of the subnormal numbers. -/
def FFmt.emin (f : FFmt) : Int := 2 - (2 : Int) ^ (f.eb - 1) - (f.mb : Int)

/-- The number that bits mean. -/
def fdec (f : FFmt) (x : Nat) : FVal :=
  let s := x / 2 ^ (f.eb + f.mb) % 2 == 1
  let e := x / 2 ^ f.mb % 2 ^ f.eb
  let m := x % 2 ^ f.mb
  if e = 2 ^ f.eb - 1 then (if m = 0 then .inf s else .nan)
  else if e = 0 then .fin s m f.emin
  else .fin s (m + 2 ^ f.mb) (f.emin + (e : Int) - 1)

/-- The sign bit of a format, set or not. -/
def fsign (f : FFmt) (s : Bool) : Nat := if s then 2 ^ (f.eb + f.mb) else 0

/-- The bits of an infinity. -/
def finf (f : FFmt) (s : Bool) : Nat := fsign f s + (2 ^ f.eb - 1) * 2 ^ f.mb

/-- floor(log2(n / d)) for n, d > 0. -/
def ilog2Q (n d : Nat) : Int :=
  let e : Int := (Nat.log2 n : Int) - (Nat.log2 d : Int)
  if 0 ≤ e then (if n < d * 2 ^ e.toNat then e - 1 else e)
  else (if n * 2 ^ (-e).toNat < d then e - 1 else e)

/-- n / d to the nearest natural number, ties to even. -/
def divRNE (n d : Nat) : Nat :=
  let q := n / d
  let r := n % d
  if 2 * r > d then q + 1 else if 2 * r = d && q % 2 == 1 then q + 1 else q

/-- The bits of (-1)^s * n / d rounded to the format, to nearest with ties to even (d > 0). -/
def fround (f : FFmt) (s : Bool) (n d : Nat) : Nat :=
  if n = 0 then fsign f s
  else
    let e := ilog2Q n d
    let u : Int := max (e - (f.mb : Int)) f.emin
    let q := if 0 ≤ u then divRNE n (d * 2 ^ u.toNat) else divRNE (n * 2 ^ (-u).toNat) d
    let b := (u - f.emin).toNat * 2 ^ f.mb + q
    if b ≥ (2 ^ f.eb - 1) * 2 ^ f.mb then finf f s else fsign f s + b

/-- The bits of (-1)^s * m * 2^e rounded to the format. -/
def fpack (f : FFmt) (s : Bool) (m : Nat) (e : Int) : Nat :=
  if 0 ≤ e then fround f s (m * 2 ^ e.toNat) 1 else fround f s m (2 ^ (-e).toNat)

/-- A signed whole number times 2^e, rounded; a zero result is positive. -/
def fpackInt (f : FFmt) (z : Int) (e : Int) : Nat := fpack f (z < 0) z.natAbs e

/-- (-1)^s * m as a whole number. -/
def sgn (s : Bool) (m : Nat) : Int := if s then -(m : Int) else (m : Int)

/-- The exact sum of two finite numbers: a whole number and its exponent. -/
def addExact (s1 : Bool) (m1 : Nat) (e1 : Int) (s2 : Bool) (m2 : Nat) (e2 : Int) : Int × Int :=
  let e := min e1 e2
  (sgn s1 m1 * 2 ^ (e1 - e).toNat + sgn s2 m2 * 2 ^ (e2 - e).toNat, e)

/-- The sum, or none where it is not a number. -/
def faddV (f : FFmt) (a b : FVal) : Option Nat :=
  match a, b with
  | .nan, _ => none
  | _, .nan => none
  | .inf s, .inf t => if s = t then some (finf f s) else none
  | .inf s, _ => some (finf f s)
  | _, .inf s => some (finf f s)
  | .fin s1 m1 e1, .fin s2 m2 e2 =>
    let r := addExact s1 m1 e1 s2 m2 e2
    if r.1 = 0 then some (fsign f (s1 && s2)) else some (fpackInt f r.1 r.2)

/-- The product, or none where it is not a number. -/
def fmulV (f : FFmt) (a b : FVal) : Option Nat :=
  match a, b with
  | .nan, _ => none
  | _, .nan => none
  | .inf s, .inf t => some (finf f (s != t))
  | .inf s, .fin t m _ => if m = 0 then none else some (finf f (s != t))
  | .fin t m _, .inf s => if m = 0 then none else some (finf f (s != t))
  | .fin s1 m1 e1, .fin s2 m2 e2 => some (fpack f (s1 != s2) (m1 * m2) (e1 + e2))

/-- The quotient, or none where it is not a number. -/
def fdivV (f : FFmt) (a b : FVal) : Option Nat :=
  match a, b with
  | .nan, _ => none
  | _, .nan => none
  | .inf _, .inf _ => none
  | .inf s, .fin t _ _ => some (finf f (s != t))
  | .fin s _ _, .inf t => some (fsign f (s != t))
  | .fin s1 m1 e1, .fin s2 m2 e2 =>
    if m2 = 0 then (if m1 = 0 then none else some (finf f (s1 != s2)))
    else
      let e := e1 - e2
      if 0 ≤ e then some (fround f (s1 != s2) (m1 * 2 ^ e.toNat) m2)
      else some (fround f (s1 != s2) m1 (m2 * 2 ^ (-e).toNat))

/-- a * b + c with one rounding, or none where it is not a number. -/
def fmaV (f : FFmt) (a b c : FVal) : Option Nat :=
  match a, b, c with
  | .fin s1 m1 e1, .fin s2 m2 e2, .fin s3 m3 e3 =>
    let r := addExact (s1 != s2) (m1 * m2) (e1 + e2) s3 m3 e3
    if r.1 = 0 then some (fsign f ((s1 != s2) && s3)) else some (fpackInt f r.1 r.2)
  | .fin _ _ _, .fin _ _ _, .inf s => some (finf f s)
  | _, _, .nan => none
  | _, _, _ =>
    match fmulV f a b with
    | none => none
    | some p => faddV f (fdec f p) c

/-- Order of two numbers that are not NaN: less. -/
def fltV (a b : FVal) : Bool :=
  match a, b with
  | .nan, _ => false
  | _, .nan => false
  | .inf s, .inf t => s && !t
  | .inf s, .fin _ _ _ => s
  | .fin _ _ _, .inf t => !t
  | .fin s1 m1 e1, .fin s2 m2 e2 =>
    let e := min e1 e2
    decide (sgn s1 m1 * 2 ^ (e1 - e).toNat < sgn s2 m2 * 2 ^ (e2 - e).toNat)

/-- The numbers are equal (zeros of either sign are). -/
def feqV (a b : FVal) : Bool :=
  match a, b with
  | .nan, _ => false
  | _, .nan => false
  | .inf s, .inf t => s == t
  | .inf _, .fin _ _ _ => false
  | .fin _ _ _, .inf _ => false
  | .fin s1 m1 e1, .fin s2 m2 e2 =>
    let e := min e1 e2
    decide (sgn s1 m1 * 2 ^ (e1 - e).toNat = sgn s2 m2 * 2 ^ (e2 - e).toNat)

/-- A NaN of binary32 made from two operands: quiet, its payload free. -/
def nan32 (a b : B32) : B32 := 0x7FC00000#32 ||| (Config.nanPayload32 a b).setWidth 32

/-- A NaN of binary64 made from two operands: quiet, its payload free. -/
def nan64 (a b : B64) : B64 := 0x7FF8000000000000#64 ||| (Config.nanPayload64 a b).setWidth 64

/-! binary32 -/

def F32.val (x : B32) : FVal := fdec .f32 x.toNat
def F32.isNaN (x : B32) : Bool := F32.val x == .nan
def F32.isInf (x : B32) : Bool := match F32.val x with | .inf _ => true | _ => false
def F32.isFin (x : B32) : Bool := match F32.val x with | .fin _ _ _ => true | _ => false
def F32.isZero (x : B32) : Bool := match F32.val x with | .fin _ m _ => m == 0 | _ => false
def F32.isNeg (x : B32) : Bool := x.getLsbD 31
def F32.neg (x : B32) : B32 := x ^^^ 0x80000000#32
def F32.abs (x : B32) : B32 := x &&& 0x7FFFFFFF#32
def F32.ofV (a b : B32) (r : Option Nat) : B32 := match r with | some n => BitVec.ofNat 32 n | none => nan32 a b
def F32.add (a b : B32) : B32 := F32.ofV a b (faddV .f32 (F32.val a) (F32.val b))
def F32.sub (a b : B32) : B32 := F32.ofV a b (faddV .f32 (F32.val a) (F32.val (F32.neg b)))
def F32.mul (a b : B32) : B32 := F32.ofV a b (fmulV .f32 (F32.val a) (F32.val b))
def F32.div (a b : B32) : B32 := F32.ofV a b (fdivV .f32 (F32.val a) (F32.val b))
def F32.fma (a b c : B32) : B32 := F32.ofV a b (fmaV .f32 (F32.val a) (F32.val b) (F32.val c))
def F32.lt (a b : B32) : Bool := fltV (F32.val a) (F32.val b)
def F32.eq (a b : B32) : Bool := feqV (F32.val a) (F32.val b)
def F32.le (a b : B32) : Bool := F32.lt a b || F32.eq a b

/-! binary64 -/

def F64.val (x : B64) : FVal := fdec .f64 x.toNat
def F64.isNaN (x : B64) : Bool := F64.val x == .nan
def F64.isFin (x : B64) : Bool := match F64.val x with | .fin _ _ _ => true | _ => false
def F64.isZero (x : B64) : Bool := match F64.val x with | .fin _ m _ => m == 0 | _ => false
def F64.isNeg (x : B64) : Bool := x.getLsbD 63
def F64.neg (x : B64) : B64 := x ^^^ 0x8000000000000000#64
def F64.abs (x : B64) : B64 := x &&& 0x7FFFFFFFFFFFFFFF#64
def F64.ofV (a b : B64) (r : Option Nat) : B64 := match r with | some n => BitVec.ofNat 64 n | none => nan64 a b
def F64.add (a b : B64) : B64 := F64.ofV a b (faddV .f64 (F64.val a) (F64.val b))
def F64.sub (a b : B64) : B64 := F64.ofV a b (faddV .f64 (F64.val a) (F64.val (F64.neg b)))
def F64.mul (a b : B64) : B64 := F64.ofV a b (fmulV .f64 (F64.val a) (F64.val b))
def F64.div (a b : B64) : B64 := F64.ofV a b (fdivV .f64 (F64.val a) (F64.val b))
def F64.lt (a b : B64) : Bool := fltV (F64.val a) (F64.val b)
def F64.eq (a b : B64) : Bool := feqV (F64.val a) (F64.val b)
def F64.le (a b : B64) : Bool := F64.lt a b || F64.eq a b
def F64.min (a b : B64) : B64 := if F64.lt b a then b else a
def F64.max (a b : B64) : B64 := if F64.lt a b then b else a

/-! conversions -/

/-- A binary32 as the binary64 of the same value. -/
def F64.of32 (x : B32) : B64 :=
  match F32.val x with
  | .nan => 0x7FF8000000000000#64 ||| ((x.setWidth 64 &&& 0x3FFFFF#64) <<< 29)
  | .inf s => BitVec.ofNat 64 (finf .f64 s)
  | .fin s m e => BitVec.ofNat 64 (fpack .f64 s m e)

/-- A binary64 rounded to binary32, to nearest with ties to even. -/
def F32.of64 (x : B64) : B32 :=
  match F64.val x with
  | .nan => 0x7FC00000#32 ||| ((x >>> 29).setWidth 32 &&& 0x3FFFFF#32)
  | .inf s => BitVec.ofNat 32 (finf .f32 s)
  | .fin s m e => BitVec.ofNat 32 (fpack .f32 s m e)

/-- A whole number as binary64. -/
def F64.ofInt (z : Int) : B64 := BitVec.ofNat 64 (fpackInt .f64 z 0)

/-- A fraction n / d as binary64 (d > 0). -/
def F64.ofFrac (n : Int) (d : Nat) : B64 := BitVec.ofNat 64 (fround .f64 (n < 0) n.natAbs d)

/-- A fraction n / d as binary32 (d > 0). -/
def F32.ofFrac (n : Int) (d : Nat) : B32 := BitVec.ofNat 32 (fround .f32 (n < 0) n.natAbs d)

/-- A whole number as binary32. -/
def F32.ofInt (z : Int) : B32 := BitVec.ofNat 32 (fpackInt .f32 z 0)

/-- Zero of binary64. -/
def F64.zero : B64 := 0#64

/-- min(max(x, lo), hi). -/
def F64.clamp (x lo hi : B64) : B64 := F64.min (F64.max x lo) hi

/-! Exact fractions of binary64 values, for rules that take an integer of a real number (R526) and for fits. -/

/-- A fraction: a whole numerator over a positive denominator. -/
structure Frac where
  num : Int
  den : Nat
deriving DecidableEq, Repr

def Frac.ofInt (z : Int) : Frac := ⟨z, 1⟩
def Frac.add (a b : Frac) : Frac := ⟨a.num * b.den + b.num * a.den, a.den * b.den⟩
def Frac.neg (a : Frac) : Frac := ⟨-a.num, a.den⟩
def Frac.sub (a b : Frac) : Frac := Frac.add a (Frac.neg b)
def Frac.mul (a b : Frac) : Frac := ⟨a.num * b.num, a.den * b.den⟩
/-- a / b; 0 where b is 0 (its users test that first). -/
def Frac.div (a b : Frac) : Frac :=
  if b.num = 0 then ⟨0, 1⟩
  else if b.num < 0 then ⟨-a.num * b.den, a.den * b.num.natAbs⟩
  else ⟨a.num * b.den, a.den * b.num.natAbs⟩
def Frac.lt (a b : Frac) : Bool := decide (a.num * b.den < b.num * a.den)
def Frac.le (a b : Frac) : Bool := decide (a.num * b.den ≤ b.num * a.den)
def Frac.isZero (a : Frac) : Bool := a.num == 0
def Frac.abs (a : Frac) : Frac := ⟨a.num.natAbs, a.den⟩
/-- The fraction in lowest terms. -/
def Frac.norm (a : Frac) : Frac :=
  let g := Nat.gcd a.num.natAbs a.den
  if g = 0 then a else ⟨a.num / g, a.den / g⟩
/-- The greatest whole number not above. -/
def Frac.floor (a : Frac) : Int := Int.fdiv a.num a.den
/-- The least whole number not below. -/
def Frac.ceil (a : Frac) : Int := -(Int.fdiv (-a.num) a.den)
/-- The nearest whole number, a half going away from zero (R526). -/
def Frac.round (a : Frac) : Int :=
  let n := (2 * a.num.natAbs + a.den) / (2 * a.den)
  if a.num < 0 then -(n : Int) else n

/-- The exact value of a finite number, 0 for the others. -/
def fracV (v : FVal) : Frac :=
  match v with
  | .fin s m e => if 0 ≤ e then ⟨sgn s m * 2 ^ e.toNat, 1⟩ else ⟨sgn s m, 2 ^ (-e).toNat⟩
  | _ => ⟨0, 1⟩

def F64.frac (x : B64) : Frac := fracV (F64.val x)
def F32.frac (x : B32) : Frac := fracV (F32.val x)
def Frac.to64 (a : Frac) : B64 := F64.ofFrac a.num a.den
def Frac.to32 (a : Frac) : B32 := F32.ofFrac a.num a.den

/-- Flush a subnormal binary32 to zero with its sign (R92). -/
def F32.ftz (x : B32) : B32 := if bits x 23 8 = 0 then x &&& 0x80000000#32 else x

/-- Flush a subnormal binary64 to zero with its sign (R92). -/
def F64.ftz (x : B64) : B64 := if bits x 52 11 = 0 then x &&& 0x8000000000000000#64 else x

/-! ### Power and exponential (R166, R411)

Both are computed in fixed point with 256 fraction bits, to nearest or a neighbour as Config says (log 8). -/

/-- The area hyperbolic tangent of `t` at most 1/3. -/
def atanhFix (t : Nat) : Nat :=
  ((List.range 100).foldl (fun (p : Nat × Nat) k => (p.1 * t / 2 ^ 256 * t / 2 ^ 256, p.2 + p.1 / (2 * k + 1))) (t, 0)).2

def ln2Fix : Nat := 2 * atanhFix (2 ^ 256 / 3)

/-- The natural logarithm of m · 2^e, m positive. -/
def lnFix (m : Nat) (e : Int) : Int :=
  let l := Nat.log2 m
  (e + l) * ln2Fix + 2 * atanhFix ((m - 2 ^ l) * 2 ^ 256 / (m + 2 ^ l))

/-- The binary64 nearest to the exponential of `y`. -/
def expFix (y : Int) : B64 :=
  let k := Int.fdiv y ln2Fix
  let r := (y - k * ln2Fix).toNat
  let m := ((List.range 80).foldl (fun (p : Nat × Nat) i => (p.1 * r / (i + 1) / 2 ^ 256, p.2 + p.1)) (2 ^ 256, 0)).2
  BitVec.ofNat 64 (fpack .f64 false m (k - 256))

/-- A binary64 or a neighbour of it. -/
def F64.near (x : B64) (u : Fin 3) : B64 := 
  if u = 1 ∧ x ≠ 0x7FF0000000000000#64 then x + 1#64 else if u = 2 ∧ x ≠ 0#64 then x - 1#64 else x

/-- x to the power `y`, x positive and `y` between 0 and 1. -/
def F64.pow (x y : B64) : B64 :=
  match F64.val x, F64.val y with
  | .fin _ m e, .fin _ a b =>
    if m = 0 ∨ a = 0 ∨ 0 ≤ b then F64.ofInt 1
    else F64.near (expFix (Int.fdiv (lnFix m e * (a : Int)) ((2 ^ b.natAbs : Nat) : Int))) (Config.powUlp x y)
  | _, _ => x

/-- The exponential; it overflows from 710 up, and is 0 below -746. -/
def F64.exp (x : B64) : B64 :=
  match F64.val x with
  | .nan => F64.ofV x x none
  | .inf s => if s then 0#64 else x
  | .fin s m e =>
    if m = 0 then F64.ofInt 1
    else if F64.le (F64.ofInt 710) x then 0x7FF0000000000000#64
    else if F64.le x (F64.ofInt (-746)) then 0#64
    else
      let f : Int := if 0 ≤ e then (m * 2 ^ e.natAbs * 2 ^ 256 : Nat) else (m * 2 ^ 256 / 2 ^ e.natAbs : Nat)
      F64.near (expFix (if s then -f else f)) (Config.expUlp x)

end Sys2Proof.Machine
end

