-- ==== Sys2Proof/Machine/State.lean ====
section
/-!
DEFINITION. The state of the DK-9128 as plain data: the register file, the state of every unit, the queue of waiting
commands, and the outboxes that connect one command's effect to the next. INVENTORY.md lists every piece with the rule
that names it.
-/

namespace Sys2Proof.Machine

/-- Why a command could stop the block. No command of this model does: the block meets every error with a flag, a
counter, a status or a report (chapters 00 and 10). -/
inductive Fault where
  /-- raised by no command; safe -/
  | none
deriving DecidableEq, Repr

/-- Why the model refuses a command. -/
inductive Refusal where
  /-- a command that has no meaning yet, by its mnemonic: raised by the dispatcher; safe -/
  | notModelled (mnemonic : String)
deriving DecidableEq, Repr

/-! ### The register fabric and the outboxes -/

/-- A producer edge launched and not yet taken by a HALLWAY_EVENT (R384). -/
structure Launch where
  prod : Nat
  at_ : DWord
deriving DecidableEq, Repr

/-- A report on an error line, not yet taken by an ERROR_LINE_REPORT (R307). -/
structure Report where
  source : Nat
  cause : Nat
  at_ : DWord
deriving DecidableEq, Repr

/-- The holding registers of the access paths (R18 to R20, R522): keyed by (path, address). -/
structure Holds where
  /-- copy of a pair's high word made by a read of its low word -/
  rd : Tbl Word := []
  /-- low word written and not yet committed -/
  wr : Tbl Word := []
  /-- copies of register groups (R145, R213, R315, R437) -/
  grp : Tbl Word := []
  /-- access status that goes with a copy of a Pantry word's high half (R359) -/
  st : Tbl Nat := []
deriving DecidableEq, Repr

/-- An increment of a counter by hardware in the present tick (R14): register, lowest bit, width, amount, and whether the
counter wraps. -/
structure TickInc where
  key : Nat
  lo : Nat
  width : Nat
  n : Nat
  wrap : Bool
deriving DecidableEq, Repr

/-- The pins the block drives. -/
structure Pins where
  /-- GATE of each channel is high (R75) -/
  gate : Tbl Bool := []
  /-- WTRIP of each wing is driven low (R228) -/
  wtrip : Tbl Bool := [(0, false), (1, false), (2, false), (3, false), (4, false), (5, false), (6, false), (7, false)]
  /-- the Watch logic of each wing drives WTRIP (R228) -/
  watch : Tbl Bool := [(0, false), (1, false), (2, false), (3, false), (4, false), (5, false), (6, false), (7, false)]
  /-- ERR_N is driven low (R320) -/
  errN : Bool := false
deriving DecidableEq, Repr

/-! ### Channels (chapters 02, 03, 04, 07, 08, 09) -/

/-- The states of a channel (Table "Channel states"). -/
inductive ChState where
  | quenched | arming | regulating | compliance | hold | rampdown | fenced
deriving DecidableEq, Repr

/-- A level sent to a head as a cause waiting for the next frame-grid edge: its code and the tick it was acted on (R60). -/
structure EdgeCause where
  code : Nat
  since : DWord
deriving DecidableEq, Repr

/-- A make-before-break change of the voltage range under way (R52). -/
structure VChange where
  old : Nat
  new : Nat
  echo : Nat
deriving DecidableEq, Repr

/-- Control state of one channel (chapter 02). -/
structure ChCtl where
  /-- present state (R59, R60) -/
  st : ChState := .quenched
  /-- state before the last change (R60) -/
  prev : ChState := .quenched
  /-- cause code of the last change (R60) -/
  cause : Nat := 0
  /-- house tick of the last change (R60) -/
  transTs : DWord := 0#64
  /-- house tick at which GATE last fell (R60) -/
  gateFell : Option DWord := none
  /-- GATE has risen for this ARMING (R60) -/
  gateUp : Bool := false
  /-- house tick at which GATE rose in ARMING: arm_timeout counts from it (R60) -/
  armStart : DWord := 0#64
  /-- arm_timeout of this ARMING in units of 1,024 house ticks (R60, R214) -/
  armLim : Nat := 500
  /-- house tick of entry to HOLD (R65) -/
  holdStart : DWord := 0#64
  /-- hold_time of this HOLD in house ticks (R65, R214) -/
  holdLim : Nat := 2000
  /-- the hold timer of this HOLD has expired (R65) -/
  holdExp : Bool := false
  /-- exit condition of HOLD already met: the cause code of the exit (R60) -/
  holdMet : Option Nat := none
  /-- cause latched for the next frame-grid edge (R60) -/
  edge : Option EdgeCause := none
  /-- effective setpoint, binary64 (R55) -/
  setptEff : B64 := 0#64
  /-- target of the effective setpoint, binary64 (R55) -/
  target : B64 := 0#64
  /-- step of the effective setpoint, binary64 (R55) -/
  stepV : B64 := 0#64
  /-- present ramp level and step of RAMPDOWN, binary64 (R68) -/
  rampLvl : B64 := 0#64
  rampD : B64 := 0#64
  /-- frames sent at level 0 in RAMPDOWN, and the edge of the last ramp step (R68) -/
  zeroFrames : Nat := 0
  rampEdge : Option DWord := none
  /-- consecutive periods with the clamp active, and inactive (R57) -/
  clampRun : Nat := 0
  freeRun : Nat := 0
  /-- comp_enter or comp_exit of the run being counted (R57, R214) -/
  runLim : Nat := 0
  /-- periods in COMPLIANCE, and whether comp_max has been acted on (R57) -/
  compPeriods : Nat := 0
  compActed : Bool := false
  /-- comp_max of this COMPLIANCE (R57, R214) -/
  compLim : Nat := 0
  /-- make-before-break change of the voltage range (R52) -/
  vChange : Option VChange := none
  /-- vrange request that stands for the next boundary (R527) -/
  vStand : Bool := false
  /-- vrange, irange written since the last commit (R52, R150) -/
  vWritten : Bool := false
  iWritten : Bool := false
  /-- tick of the last of these writes -/
  vNow : Option DWord := none
  iNow : Option DWord := none
  /-- level now carried by LEVEL frames, binary32 (R107) -/
  level : B32 := 0#32
  /-- consecutive good frames with advancing sequence numbers (R66) -/
  goodRun : Nat := 0
  /-- consecutive good frames that show output_ready (R60) -/
  readyRun : Nat := 0
  /-- consecutive bad feedback edges (R282) -/
  badRun : Nat := 0
  /-- consecutive edges whose frame repeats its sequence number (R282) -/
  frozenRun : Nat := 0
  /-- head_ready (R83) -/
  headReady : Bool := false
  /-- descriptor checks passed at T_D; the constant load runs until HEAD_READY (R83) -/
  headLoading : Bool := false
deriving DecidableEq, Repr

/-- The GATE pulse generator of one channel (R76 to R81). -/
structure Gpg where
  running : Bool := false
  t0 : DWord := 0#64
  delay : Nat := 0
  width : Nat := 0
  period : Nat := 0
  count : Nat := 0
  notch : Nat := 0
  level : B32 := 0#32
  /-- index of the present or next pulse -/
  j : Nat := 0
  /-- between the start notch and the end notch (R81) -/
  inPulse : Bool := false
  /-- house tick at which the present notch ends -/
  notchEnd : Option DWord := none
  /-- pulse levels of the last two LEVEL frames sent, newest first (R77) -/
  sent : List B32 := []
  /-- pulses of the recent past, newest first: first tick and, once ended, last tick + 1 (R81, R281) -/
  past : List (DWord × Option DWord) := []
deriving DecidableEq, Repr

/-- What a channel's condition goes back to when a cause of higher rank acts in the tick of a transition already
taken in that tick (R61). -/
structure TickSnap where
  rank : Nat
  ctl : ChCtl
  status : Word
  count : Word
deriving DecidableEq, Repr

/-- The sample latch of a channel (R105). -/
structure Sample where
  v : B32 := 0#32
  ip : B32 := 0#32
  is : B32 := 0#32
  /-- raw head temperature; 0x8000 not available -/
  temp : BitVec 16 := 0x8000#16
  seq : BitVec 16 := 0#16
  /-- arrival edge of the frame -/
  edge : DWord := 0#64
  /-- in_pulse mark of the frame -/
  inPulse : Bool := false
deriving DecidableEq, Repr

/-- A value on its way from a tile to the channel (R106, R107). -/
structure OutVal where
  val : B32
  ready : DWord
deriving DecidableEq, Repr

/-- A template replacement under way (R115). -/
structure Repl where
  tile : Nat
  template : Nat
  /-- loading is complete: the binding moves at the next boundary -/
  loaded : Bool
deriving DecidableEq, Repr

/-- Loop state of one channel (chapter 03). -/
structure ChLoop where
  /-- tile bound (R40, R41) -/
  tile : Option Nat := none
  /-- template active on the channel -/
  template : Nat := 0
  /-- a pass is running, and the tick it ends at -/
  passEnd : Option DWord := none
  /-- regular φs tick of the present pass -/
  passAt : DWord := 0#64
  /-- STORE_OUT value of the present pass -/
  out : Option OutVal := none
  /-- the pass's STORE_OUT value is NaN or infinite and is not delivered (R103) -/
  outBad : Bool := false
  /-- outputs lost since the tile fault (R123) -/
  lost : Nat := 0
  /-- value latched at the last φo (R107), and when a frame may carry it -/
  outLast : B32 := 0#32
  outFrom : Option DWord := none
  /-- anchor result of the last pass (R113) -/
  uRaw : B32 := 0#32
  /-- pass number, passes started (R121) -/
  pass : DWord := 0#64
  /-- out_clip of the last pass: 0, 1 lowered, 2 raised (R96) -/
  outClip : Nat := 0
  clampPos : Bool := false
  clampNeg : Bool := false
  /-- a COMPLY ran since the last boundary (R101) -/
  complyRan : Bool := false
  /-- an INTEG slot at its clamp after the last pass, per slot (R100) -/
  integSat : BitVec 16 := 0#16
  /-- pass kinds that the next pass meets (R112) -/
  kArming : Bool := false
  kMode : Option B32 := none
  kReplace : Option B32 := none
  kXfade : Bool := false
  kCoef : Bool := false
  kResume : Bool := false
  repl : Option Repl := none
  /-- a spare is being loaded for the channel since its fence reached the LTA (R123) -/
  take : Option DWord := none
  /-- a catch-up pass is due at this tick (R124) -/
  catchAt : Option DWord := none
  /-- events on the way to ti_takeover and ti_nospare (R124, R393) -/
  evTake : Bool := false
  evNone : Bool := false
  /-- the checkpoint post in progress ends at this tick (R121) -/
  ckptEnd : Option DWord := none
  /-- first tick at which a pass may start after a takeover (R124) -/
  startAt : Option DWord := none
deriving DecidableEq, Repr

/-- The role of a tile (Table "Tile roles"). -/
inductive TileRole where
  | idle | loading | bound | fenced | spareFree
deriving DecidableEq, Repr

/-- One tile (R89, R93). -/
structure Tile where
  role : TileRole := .idle
  ch : Nat := 0
  template : Nat := 0
  /-- program words -/
  prog : List DWord := []
  /-- active coefficient bank c0 to c31 -/
  coef : List B32 := []
  /-- state slots z0 to z15 -/
  z : List B64 := []
  /-- working registers a0 to a31 -/
  a : List Word := []
deriving DecidableEq, Repr

/-- Tracking inputs of one wing (R116 to R119). -/
structure Trk where
  aValid : Bool := false
  aIn : Nat := 0
  aOut : Nat := 0
  aLast : DWord := 0#64
  /-- an analogue loss has been taken and not yet restored -/
  aLost : Bool := false
  pValid : Bool := false
  pLost : Bool := false
  winStart : DWord := 0#64
  edges : Nat := 0
  firstEdge : DWord := 0#64
  lastEdge : DWord := 0#64
  /-- a gap longer than tmo_us lies in the present window -/
  gap : Bool := false
  /-- gate_ms of the present window, and tmo_us of the present gap (R116, R118, R214) -/
  gateMs : Nat := 100
  tmoUs : Nat := 1000
deriving DecidableEq, Repr

/-- The phase of a channel's aperture (R135, R136). -/
inductive ApPhase where
  | closed | pending | opened
deriving DecidableEq, Repr

/-- Per current range sums of an aperture or a period. -/
structure RSum where
  s : B64 := 0#64
  w : B64 := 0#64
deriving DecidableEq, Repr

/-- The aperture of one channel. -/
structure Aper where
  phase : ApPhase := .closed
  /-- opening edge E_o -/
  eo : DWord := 0#64
  /-- settings latched at the open -/
  cfg : Word := 0#32
  len : Word := 0#32
  nplc : Word := 0#32
  win : Word := 0#32
  wins : List (Nat × Nat) := []
  skew : Nat := 0
  nExp : Nat := 0
  nVal : Nat := 0
  sv : B64 := 0#64
  rs : Tbl RSum := []
  /-- status bits gathered so far (Table "Record status") -/
  stat : Word := 0#32
  /-- channel state at the open -/
  stO : ChState := .quenched
  /-- mains position (cycles and phase) and turn counter at the open, or at the trigger while the opening is pending -/
  mainsO : Nat := 0
  turnO : Word := 0#32
  /-- the aperture closes at this edge, cut short (R136, R140) -/
  cutAt : Option DWord := none
  /-- a new aperture opens at the cut edge (retrigger, R136) -/
  reopen : Bool := false
  /-- head temperature of the last good frame of the aperture -/
  temp : BitVec 16 := 0x8000#16
  /-- no aperture opens before head_ready (R140) -/
  noHead : Bool := false
  /-- no aperture of this kind opens before its domain relocks (R140) -/
  noTime : Bool := false
deriving DecidableEq, Repr

/-- A record on its way to the Chute (R143, R144). -/
structure Rec where
  w0 : DWord
  w1 : DWord
  w2 : DWord
  w3 : DWord
  nVal : Nat
  nExp : Nat
  tc : DWord
  /-- words not yet replaced after a flush: the re-push is due, and how many words remain (R144) -/
  repush : Option Nat
deriving DecidableEq, Repr

/-- Measurement state of one channel (chapter 04). -/
structure Meas where
  /-- sequence number of the previous qualified frame -/
  lastSeq : Option (BitVec 16) := none
  /-- newest frame that passed its checks, fast corrected (R105, R131) -/
  latch : Option Sample := none
  /-- last good measured values, for R56 -/
  lastV : B32 := 0#32
  lastI : B32 := 0#32
  /-- raw stream: start of the present numbering, frames and good frames and sums of the open block -/
  rawOn : Bool := false
  rawT0 : DWord := 0#64
  rawJ : Word := 0#32
  rawN : Nat := 0
  rawGood : Nat := 0
  rawV : B64 := 0#64
  rawI : B64 := 0#64
  /-- the next push is preceded by a marker (R134) -/
  rawMark : Bool := false
  ap : Aper := {}
  /-- record sequence number (R142) -/
  seq : BitVec 16 := 0#16
  rcd : Option Rec := none
deriving DecidableEq, Repr

/-- The kind of a current-range change (RNG_STAT change_kind). -/
inductive RngKind where
  | none | xfade | mbb | direct
deriving DecidableEq, Repr

/-- Ranging state of one channel (R146 to R152). -/
structure Rng where
  kind : RngKind := .none
  from_ : Nat := 0
  to_ : Nat := 0
  /-- the committed irange has been refused or has expired and is not tried again (R150) -/
  refused : Bool := false
  /-- crossfade: first boundary B_x and present period j, once started -/
  bx : Option DWord := none
  j : Nat := 0
  /-- tolerance failure at or after the switch period: completes at the next boundary -/
  finish : Bool := false
  /-- consecutive good frames that echo the named primary range -/
  echo : Nat := 0
  /-- request waiting: an autorange decision, or a change that lost its HOLD (R527) -/
  want : Option Nat := none
  /-- the request for which the tolerance check has failed or the secondary has timed out: make-before-break (R146) -/
  noXf : Option Nat := none
  /-- the request that the running change serves -/
  req : Nat := 0
  /-- secondary range named, consecutive frames that show it valid, periods since it was chosen; for a change that
  waits for its secondary, the tick since which it is named, and whether it has been valid (R147) -/
  sec : Nat := 0
  secRun : Nat := 0
  secPer : Nat := 64
  secAt : DWord := 0#64
  secSeen : Bool := false
  /-- sums of the present period: good frames, |I_p|, I_p and I_s, over-range -/
  pN : Nat := 0
  pAbs : B64 := 0#64
  pOld : B64 := 0#64
  pNew : B64 := 0#64
  pOvr : Bool := false
  /-- mean of |I_p| of the last period with a good frame (R147, R151) -/
  mean : B64 := 0#64
  upRun : Nat := 0
  downRun : Nat := 0
  /-- up_n and down_n of the runs being counted, ar_settle of the last change (R151, R214) -/
  upN : Nat := 1
  downN : Nat := 16
  arSettle : Nat := 8
  /-- periods since the last change completed (256 also where none has); they count from the first boundary after it
  where a state change ended it (R149) -/
  settle : Nat := 256
  settleLate : Bool := false
deriving DecidableEq, Repr

/-- One threshold comparator (R217 to R237). -/
structure Cmp where
  /-- comparator output: tripped -/
  raw : Bool := false
  /-- the comparator is not released (R226, R229) -/
  filt : Bool := false
  latched : Bool := false
  puPending : Bool := false
  /-- code applied to the DAC -/
  code : Nat := 0
  noDesc : Bool := false
  /-- house tick of the last change of code (R236) -/
  codeAt : DWord := 0#64
  /-- house tick of the last enable or mode change (R223, R233) -/
  modeAt : Option DWord := none
  /-- house tick of the last trip that found the latch set (R230) -/
  tripAt : Option DWord := none
  /-- a readback was asked for (R236) -/
  rbDue : Bool := false
deriving DecidableEq, Repr

/-- The four comparators of one channel. -/
structure Mon where
  c0 : Cmp := {}
  c1 : Cmp := {}
  c2 : Cmp := {}
  c3 : Cmp := {}
  /-- ranges whose gain the head applies at IMON and at VMON (R219) -/
  pinI : Nat := 0
  pinV : Nat := 0
  /-- new ranges that the LEVEL frames name, while the hold of R221 runs; consecutive frames that echo them -/
  iNew : Option Nat := none
  vNew : Option Nat := none
  iEcho : Nat := 0
  vEcho : Nat := 0
  /-- the wing's deep sleep holds the comparators in Micro mode (R234) -/
  micro : Bool := false
deriving DecidableEq, Repr

/-- Link states (Table "Link states"). -/
inductive LinkSt where
  | down | train | desc | up | retrain
deriving DecidableEq, Repr

/-- A management request outstanding on a link (R292, R293). -/
structure MgmtOut where
  req : List Byte
  start : DWord
  /-- asked by the head window; else by the calibration sequencer -/
  host : Bool
  frag0 : Option (List Byte)
deriving DecidableEq, Repr

/-- One Novern Link (chapter 09). -/
structure Link where
  st : LinkSt := .down
  /-- training step: 1 lock, 2 delay, 3 go (R283) -/
  step : Nat := 1
  goodIdle : Nat := 0
  txDelay : Nat := 0
  /-- take-in ticks after this one count toward the confirmation (R283 step 4) -/
  confFrom : Option DWord := none
  /-- phase-3 frames sent -/
  goSent : Nat := 0
  present : Bool := false
  /-- epoch of the present head (R277, R290) -/
  epoch : Nat := 0
  lastSeq : Option (BitVec 16) := none
  /-- consecutive frames with no good frame (R287) -/
  noGood : Nat := 0
  /-- consecutive bad edges in UP (R284) -/
  badRun : Nat := 0
  /-- the present training started from UP (retrain_done) -/
  fromUp : Bool := false
  lastSlip : Option DWord := none
  /-- a slip fell inside the frame now arriving -/
  slip : Bool := false
  ebFill : Nat := 0
  dlCount : BitVec 16 := 0#16
  /-- descriptor pass under reading, previous pass, passes failed in a row -/
  buf : List Byte := []
  bufOk : Bool := false
  prevPass : Option (List Byte) := none
  failRun : Nat := 0
  descValid : Bool := false
  desc : List Byte := []
  /-- desc_ack is being sent (R289) -/
  ack : Bool := false
  out : Option MgmtOut := none
  calQ : List (List Byte) := []
  hostQ : Option (List Byte) := none
  tag : Byte := 0#8
  /-- response of the calibration sequencer's last request: op, and status or none for a timeout -/
  calRsp : Option (Byte × Option Byte) := none
  /-- last downlink frame sent: type byte and payload -/
  sent : List Byte := []
deriving DecidableEq, Repr

/-- Calibration state of one channel (chapter 08). -/
structure ChCal where
  /-- where the present constants come from (CH_CAL_STAT src) -/
  src : Nat := 0
  /-- head temperatures, raw: the present second's sum and count, the mean of the last second in 1/128 °C, and lowest
  and highest of the present and of the last second (R253, R254) -/
  tSum : Int := 0
  tN : Nat := 0
  tMean : Option B64 := none
  tMin : Int := 32767
  tMax : Int := -32768
  tMin1 : Int := 32767
  tMax1 : Int := -32768
  /-- the temperature trigger requests no run before this tick (R253) -/
  retryAt : Option DWord := none
  /-- commits are held by an apply (R344) -/
  applyHeld : Bool := false
  /-- injected-current estimate in force and its range; DAC code and estimate that the next boundary commits (R258) -/
  est : Option (Nat × B64) := none
  estNext : Option (Nat × Option (Nat × B64)) := none
  /-- the next boundary sends the route release (R258, R260) -/
  release : Bool := false
  /-- consecutive SAMPLE frames that report the load switch open (R254) -/
  openRun : Nat := 0
  /-- gain of the last full run, by set (R257) -/
  gainFull : Tbl B32 := []
  /-- the host wrote the constants window in an earlier tick; tick of its last write (R251, R31) -/
  hostSet : Bool := false
  hostNow : Option DWord := none
deriving DecidableEq, Repr

/-- What the calibration sequencer does (CAL_STAT phase; R254 to R262). -/
inductive CalStep where
  | idle | senseS | senseR | isolate | route | settle | average | injRoute | injCommit | injSettle | injAverage | gainEnd | store | write
deriving DecidableEq, Repr

/-- The constants chosen for a channel position (R263): source, sequence, head, and the 24 × 8 words of the sets. -/
structure CalConst where
  src : Nat := 1
  seq : Nat := 0
  maker : Nat := 0
  serial : Nat := 0
  sets : List Word := []
deriving DecidableEq, Repr

/-- The calibration sequencer. -/
structure Cal where
  step : CalStep := .idle
  ch : Nat := 0
  /-- 1 full run, 2 gain-only run -/
  kind : Nat := 0
  /-- the run was requested by the temperature trigger -/
  temp : Bool := false
  start : DWord := 0#64
  /-- start of the present wait -/
  wait : DWord := 0#64
  /-- tmo_ms of the run, settle_ms and inj_ms of the present wait (R255, R257, R259, R214) -/
  tmoMs : Nat := 5000
  settleMs : Nat := 10
  injMs : Nat := 20
  /-- force mode found in CH_FORCE and in the active set (R255, R259) -/
  modeReg : Nat := 0
  modeAct : Nat := 0
  /-- sets still to be measured, the present one first; its points so far, (raw, x) newest first; fits so far -/
  todo : List Nat := []
  pts : List (B64 × B64) := []
  fits : List (Nat × List Word) := []
  /-- sums over the present averaging: truth and head readings -/
  accT : B64 := 0#64
  accTN : Nat := 0
  accSlots : Nat := 0
  accR : B64 := 0#64
  accRN : Nat := 0
  /-- head temperature over the run -/
  tSum : Int := 0
  tN : Nat := 0
  /-- the first current point has been checked (R254) -/
  refDone : Bool := false
  /-- gain-only run: range, code, half-cycles done, half-cycle means (head, truth), newest first -/
  range : Nat := 0
  code : Nat := 0
  half : Nat := 0
  means : List (B64 × B64) := []
  /-- slot written (0 A, 1 B) and its sequence number -/
  slot : Nat := 0
  seq : Nat := 0
  /-- calibration DAC code (R248) -/
  dac : Nat := 0
  /-- pending requests: kind, and whether the temperature trigger made it (R252) -/
  pend : Tbl (Option (Nat × Bool)) := []
  /-- channel served last -/
  served : Nat := 127
  /-- tick and rank of the last abort (R259) -/
  abortAt : DWord := 0#64
  /-- constant cache (R263) -/
  cache : Tbl CalConst := []
  /-- saves in the Cellar: channel, slot, sequence (R262) -/
  saves : List (Nat × Nat × Nat) := []
  /-- next slot of the REFADC, counted from reset (R245) -/
  adcNext : Nat := 0
  /-- readback scan of each wing: next comparator, and the tick of the last scan tick served (R236) -/
  rbPos : Tbl Nat := []
  rbAt : Tbl DWord := []
  /-- trim copy in use: 0 zero trims, 1 copy A, 2 copy B (R243) -/
  otpCopy : Nat := 0
deriving DecidableEq, Repr


/-! ### Phase (chapter 06) -/

/-- The states of a machine or mains domain (R190). -/
inductive DomSt where
  | none | acquiring | locked | holdover | frozen
deriving DecidableEq, Repr

/-- An armed load (R200). -/
inductive LoadKind where
  | off | nextMark | afterSec
deriving DecidableEq, Repr

/-- The machine domain. -/
structure Mach where
  st : DomSt := .none
  /-- cause of the last loss: 1 MARK, 2 MCLK, 3 both (R198) -/
  cause : Nat := 0
  tick : BitVec 48 := 0#48
  turn : Word := 0#32
  tit : Nat := 0
  /-- MCLK is present (R194) -/
  present : Bool := true
  /-- the flywheel carries the counters since this tick, and the ticks it has counted (R195) -/
  fly : Option DWord := none
  flyDone : Nat := 0
  /-- P_est in 2^-16 house ticks; 0 before the first lock (R195) -/
  pEst : Nat := 0
  /-- real MCLK edges and house tick since the last accepted MARK (R193) -/
  marked : Bool := false
  markEdges : Nat := 0
  markAt : DWord := 0#64
  /-- MCLK went missing since the last accepted MARK -/
  markGap : Bool := false
  /-- consistent turns in a row, and their lengths (house ticks, edges), newest first -/
  run : Nat := 0
  turns : List (Nat × Nat) := []
  /-- machine tick of the last wrap that had a good MARK (R198) -/
  goodAt : BitVec 48 := 0#48
  holdAt : DWord := 0#64
  /-- the holdover time of this HOLDOVER in ms (R197, R204, R214) -/
  holdMs : Nat := 100
  load : LoadKind := .off
  /-- the last flywheel fill: its house tick, and how many ticks it filled in (R195, R207) -/
  fillAt : Option DWord := none
  fillN : Nat := 0
  /-- recent counter values (house tick, tick-in-turn), newest first, for the window skew (R137) -/
  hist : List (DWord × Nat) := []
deriving DecidableEq, Repr

/-- The mains domain. -/
structure Mains where
  st : DomSt := .none
  /-- position at a house tick; the flywheel carries it on (R202) -/
  pos : BitVec 48 := 0#48
  posAt : DWord := 0#64
  /-- the last four consistent periods in house ticks, newest first -/
  periods : List Nat := []
  edged : Bool := false
  edgeAt : DWord := 0#64
  /-- period before the last accepted edge -/
  lastPer : Nat := 0
  run : Nat := 0
  /-- cycle count at the last good edge (R204) -/
  goodCyc : Nat := 0
  holdAt : DWord := 0#64
  /-- the holdover time of this HOLDOVER in ms (R197, R204, R214) -/
  holdMs : Nat := 100
deriving DecidableEq, Repr

/-- The 1588 clock (R436): seconds, and the part of the second in units of 2^-39 ns; the servo's state. -/
structure Tod where
  sec : BitVec 48 := 0#48
  sub : Nat := 0
  /-- rate correction in units of 2^-40 -/
  adj : Int := 0
  /-- 0 disabled, 1 listening, 2 uncalibrated, 3 locked, 4 holdover -/
  st : Nat := 0
  /-- consecutive Sync messages with an offset below 100 ns -/
  run : Nat := 0
  offset : Word := 0#32
  /-- the house tick of the last Announce message -/
  annAt : DWord := 0#64
deriving DecidableEq, Repr

/-- One phase alarm (R205). -/
structure Alarm where
  cfg : Word := 0#32
  val : DWord := 0#64
  per : Word := 0#32
  fires : Nat := 0
  missed : Bool := false
  /-- turn or cycle of the last firing of a periodic alarm; number of the last internal firing -/
  last : Option Nat := none
deriving DecidableEq, Repr

/-! ### Pantry and Chutes (chapter 12) -/

/-- One Pantry bank, as far as its registers do not hold it. -/
structure Bank where
  /-- rows that a spare row has replaced (R367) -/
  rows : List Nat := []
  /-- rows whose copy to a spare runs or waits, the running one first (R367) -/
  remap : List Nat := []
  /-- the spare bank in its place, and the one it is being copied to (R368) -/
  onSpare : Option Nat := none
  mig : Option Nat := none
  withdrawn : Bool := false
  /-- a full BIST is running (R369) -/
  full : Bool := false
  fullResult : Nat := 0
  /-- the posting buffer is empty from this tick on (R375) -/
  postEnd : Option DWord := none
  /-- the next word of the patrol (R360), and of the online BIST in regions of 64 words (R370) -/
  patrol : Nat := 0
  region : Nat := 0
deriving DecidableEq, Repr

/-- A region borrowed by the online BIST, since a tick (R370). -/
structure Borrow where
  bank : Nat
  region : Nat
  start : DWord
deriving DecidableEq, Repr

/-- One Chute (R372 to R380): both copies of its pointers, and what happened to it in one house tick. -/
structure Chute where
  w : BitVec 17 := 0#17
  w2 : BitVec 17 := 0#17
  r : BitVec 17 := 0#17
  r2 : BitVec 17 := 0#17
  /-- start of the stale timer while it runs (R380) -/
  stale : Option DWord := none
  /-- stale_us of the running timer; 0 where it was disabled (R380, R214) -/
  staleUs : Nat := 0
  staleLive : Bool := false
  /-- the tick of the last push, pop or flush, and the level and w at its start (R374, R376) -/
  tk : DWord := 0#64
  lvl0 : Nat := 0
  w0 : BitVec 17 := 0#17
  /-- the unit that pushed, popped in that tick (R373) -/
  pushed : Option Nat := none
  popped : Option Nat := none
  /-- the word that found the Chute full in that tick, and whether overflow was set before it (R374) -/
  ovf : Option (DWord × Bool) := none
  /-- a flush acted in that tick (R376) -/
  flush : Bool := false
deriving DecidableEq, Repr

/-! ### Cellar (chapter 16) -/

/-- One programmed NAND page: its tag (R452), its data, and whether a codeword of it is beyond correction. -/
structure NPage where
  region : Nat
  role : Nat
  item : Nat
  lblk : Nat
  copy : Nat
  gen : Nat
  ec : Nat
  data : List Byte
  lost : Bool := false
deriving DecidableEq, Repr

/-- One physical block: erase count, marker (0 good, 1 factory-bad, 2 grown-bad), reads since the erase, and its
programmed pages in order; none where it is erased. -/
structure NBlk where
  erases : Nat := 0
  bad : Nat := 0
  reads : Nat := 0
  pages : List NPage := []
deriving DecidableEq, Repr

/-- The kinds of request, in the order in which the Cellar serves them (R462). -/
inductive CelKind where
  | cal | unitRead | unitStore | history | refresh | compact | scan
deriving DecidableEq, Repr

/-- A request to the Cellar and how far it has come. `who` is the requester: 0 the Cellar, 1 the configuration engine,
2 boot, 3 the Keeper mailbox, 4 the calibration sequencer. -/
structure CelReq where
  id : Nat
  kind : CelKind
  who : Nat := 0
  region : Nat := 0
  item : Nat := 0
  lblk : Nat := 0
  data : List Byte := []
  /-- the commit record that follows a calibration slot (R262) -/
  follow : List Byte := []
  gen : Nat := 0
  started : Bool := false
  /-- blocks written or read, in order -/
  blks : List Nat := []
  /-- pages to be copied, for refreshes and compactions -/
  src : List NPage := []
  /-- next page -/
  page : Nat := 0
  tries : Nat := 0
  /-- the store is confirmed, and the blocks it leaves to be erased -/
  confirmed : Bool := false
  erase : List Nat := []
deriving DecidableEq, Repr

/-- A NAND operation. -/
inductive NOp where
  | prog (blk : Nat) (pg : NPage)
  | erase (blk : Nat)
  | read (blk page : Nat)
deriving DecidableEq, Repr

/-- The NAND operation under way. -/
structure CelCur where
  id : Nat
  op : NOp
  start : DWord
deriving DecidableEq, Repr

/-- The result of a request, until its requester takes it. -/
structure CelRes where
  who : Nat
  region : Nat
  item : Nat
  ok : Bool
  data : List Byte
deriving DecidableEq, Repr

/-- The Cellar and the medium it keeps. -/
structure Cel where
  /-- 0 not mounted, 1 mounting, 2 mounted, 3 failed -/
  mount : Nat := 0
  lgPage : Nat := 0
  lgPpb : Nat := 0
  /-- blocks used per target, spare bytes, targets, timing mode -/
  blocks : Nat := 0
  spare : Nat := 0
  targets : Nat := 0
  mode : Nat := 0
  nand : Tbl NBlk := []
  queue : List CelReq := []
  nextId : Nat := 0
  cur : Option CelCur := none
  results : List CelRes := []
  /-- next sequence number of the calibration journal -/
  jseq : Nat := 0
  /-- history: buffered entries, the tick of the oldest one, entries dropped, the boot number -/
  hist : List (List Byte) := []
  histAt : DWord := 0#64
  /-- hist_flush_s of the running timer (R459, R214) -/
  histSecs : Nat := 10
  histLost : Nat := 0
  boot : Nat := 0
  /-- retention scan: next page, and the tick of the last read -/
  scanPage : Nat := 0
  scanAt : DWord := 0#64
  fenced : Bool := false
deriving DecidableEq, Repr

/-! ### Hearth (chapter 10) -/

/-- The configuration of a fault source (R310, R313, R322). -/
structure SrcCfg where
  cls : Nat := 1
  react : Nat := 0
  n : Nat := 1
  w : Nat := 1000000
  injCause : Nat := 0
deriving DecidableEq, Repr

/-- One fault source. The triple-redundant copies of Grave and fence always agree after the vote (R305). -/
structure Src where
  cfg : SrcCfg := {}
  /-- the configuration as it stood before a write in that tick (R328) -/
  prev : Option (DWord × SrcCfg) := none
  /-- window start while it runs, and count (R310) -/
  win : Option DWord := none
  count : Nat := 0
  grave : Bool := false
  fenced : Bool := false
  force : Bool := false
  /-- real-cause and inj latches (R323) -/
  real : Bool := false
  inj : Bool := false
  occ : Nat := 0
  lost : Nat := 0
  last : Nat := 0
  /-- arrival tick of the last report -/
  lastAt : Option DWord := none
deriving DecidableEq, Repr

/-- A report pending on the record path (R309, R314). -/
structure PendRep where
  src : Nat
  c1 : Nat
  cN : Nat
  t1 : DWord
  tN : DWord
  n : Nat
  cls : Nat
  real : Bool
  inj : Bool
deriving DecidableEq, Repr

/-- One record of the queue (R314), and a report merged into it in a tick (R318). -/
structure HrtRec where
  src : Nat
  c1 : Nat
  cN : Nat
  merges : Nat
  t1 : DWord
  tN : DWord
  cls : Nat
  real : Bool
  inj : Bool
  fenced : Bool
  merged : Option (DWord × PendRep) := none
deriving DecidableEq, Repr

/-- A SAFE request on its way to the mode control (R313). -/
structure SafeReq where
  wings : BitVec 8
  now : Bool
deriving DecidableEq, Repr

/-! ### Stairwell (chapter 05) -/

/-- The states of a sweep context (Table "Context states"). -/
inductive SwpSt where
  | idle | checking | armed | running | paused | done | aborted
deriving DecidableEq, Repr

/-- What a RUNNING context does: dwell, aperture, the end of an aperture that lost its time base, the off phase, or the
wait for a step trigger (R167, R171, R172, R181). -/
inductive SwpPhase where
  | none | dwell | aper | lost | off | wait
deriving DecidableEq, Repr

/-- One sweep context (R164 to R185). -/
structure Ctx where
  st : SwpSt := .idle
  phase : SwpPhase := .none
  /-- step running or last run (R159, R170): index, write tick W, reference edge D, end of the dwell, setpoint, profile
  kind, flags, return leg, run count, an abort event was masked -/
  step : Nat := 0
  w : DWord := 0#64
  d : DWord := 0#64
  ed : DWord := 0#64
  setpt : B32 := 0#32
  kind : Nat := 3
  flags : Nat := 0
  leg : Bool := false
  run : Nat := 0
  masked : Bool := false
  /-- run counts of the steps of this sweep -/
  runs : Tbl Nat := []
  /-- the aperture as the Stairwell follows it (R171) -/
  ap : Aper := {}
  /-- tick at which the present off phase, or a step that lost its time base, ends -/
  endAt : DWord := 0#64
  /-- tick at which the present wait or pause began -/
  since : DWord := 0#64
  /-- start level v0 (R166, R178) -/
  v0 : B32 := 0#32
  /-- PAUSE is asked for; the pause is held by the host, a domain (0 machine, 1 mains), lost triggers -/
  pauseReq : Bool := false
  pHost : Bool := false
  pTb : Option Nat := none
  pTrg : Bool := false
  /-- step to be written when the pause ends -/
  resume : Nat := 0
  /-- events of the triggers' relock, and the tick of the last one (R184) -/
  trgN : Nat := 0
  trgAt : DWord := 0#64
  /-- trg_tmo of the running count in µs (R184, R214) -/
  tmo : Nat := 0
  /-- start tick T (R174) -/
  t : Option (BitVec 48) := none
  /-- tick of the abort (R177) -/
  abortAt : DWord := 0#64
deriving DecidableEq, Repr

/-! ### Configuration (chapter 11) -/

/-- A template image in the template store: its length and its head requirement (R335). -/
structure TplInfo where
  count : Nat := 0
  reqClass : Nat := 0
  reqModes : Nat := 0
deriving DecidableEq, Repr

/-- What the Foundation has set that no register holds. -/
structure Found where
  /-- window address of the checkpoint area (R121) -/
  ckptBase : Option Nat := none
  /-- template store bank and the images in it -/
  tplBank : Nat := 0
  tpls : Tbl (Option TplInfo) := []
deriving DecidableEq, Repr

/-- A request to apply an overlay (R343): the wing, the image, the mode whose entry it belongs to (none for ops 2 and
3), and the op. -/
structure ApReq where
  wing : Nat
  image : List Byte
  entry : Option Nat := none
  op : Nat := 0
deriving DecidableEq, Repr

/-- An apply under way (R344): the tiles loaded (channel, tile, template), and the registers and fault sources it has
written, as they stood before it. -/
structure Apply where
  req : ApReq
  start : DWord := 0#64
  tiles : List (Nat × Nat × Nat) := []
  undo : List (Nat × Word) := []
  undoSrc : List (Nat × SrcCfg) := []
deriving DecidableEq, Repr

/-- What the configuration engine waits for from the Cellar (ops 3, 4, 5, and 8 for GLB_BOOT_CMD store). -/
structure CfgJob where
  op : Nat
  wing : Nat := 0
  slot : Nat := 0
  image : List Byte := []
deriving DecidableEq, Repr

/-- The configuration engine and the scrub engine. -/
structure Cfg where
  job : Option CfgJob := none
  /-- a checked Foundation that waits for its tick C, and its source (R340) -/
  commit : Option (List Byte × Nat) := none
  /-- Foundation slots A and B as read at boot: outer none while not yet read -/
  bootA : Option (Option (List Byte)) := none
  bootB : Option (Option (List Byte)) := none
  /-- the committed Foundation that a host delivered, until the engine's next operation (R480) -/
  hostImg : Option (List Byte) := none
  apply : Option Apply := none
  wait : Option ApReq := none
  /-- overlay cache by library slot (R342) -/
  cache : Tbl (Option (List Byte)) := []
  /-- library slot of wing w and mode m, by 8 w + m (OVLTAB) -/
  ovltab : Tbl (Option Nat) := []
  /-- key whose signature the active Foundation carried and that verified -/
  sigKey : Option Nat := none
  /-- scrubbed items (region, index) whose reference is lost (R354) -/
  refBad : List (Nat × Nat) := []
deriving DecidableEq, Repr

/-! ### Pantry operations (R363, R369, R370) -/

/-- Owner handovers that drain, the online BIST's position, and the full BIST under way. -/
structure PanOps where
  /-- banks whose new owner waits for the acknowledge, with the tick of the write -/
  drain : Tbl (Option DWord) := []
  /-- banks among them that go to the Study: their first word is read once acknowledged (R408) -/
  toStudy : List Nat := []
  bistAt : DWord := 0#64
  /-- bank of the running or last BIST -/
  bistBank : Nat := 0
  full : Option (Nat × DWord) := none
deriving DecidableEq, Repr

/-! ### Hallway (chapter 13) -/

/-- One Hallway channel. Its watch, rate-hit and mute bits are registers. -/
structure HwyCh where
  /-- producer and task-input slots; a slot not listed is unused, as 0xFFFF -/
  prods : List Nat := []
  tis : List Nat := []
  /-- refr in units of 4 ns, and rate_en -/
  refr : Nat := 5
  rateEn : Bool := true
  /-- the last route write: its tick, and the route before it (R398) -/
  old : Option (DWord × List Nat × List Nat) := none
  /-- the edge that started the guard: house tick and second half of the tick; none once the guard has ended (R386) -/
  guard : Option (DWord × Bool) := none
  /-- refr of the running guard (R386, R214) -/
  grefr : Nat := 5
  /-- rate window (R391): its start while it runs, the limits latched at it, and its count -/
  win : Option DWord := none
  winMax : Nat := 0
  winUs : Nat := 0
  winN : Nat := 0
  count : Word := 0#32
  absorb : Nat := 0
  hits : Nat := 0
  ts : DWord := 0#64
  /-- the last tick in which each count moved, and by how much (R14) -/
  evAt : DWord × Nat := (0#64, 0)
  absAt : DWord × Nat := (0#64, 0)
  hitAt : DWord × Nat := (0#64, 0)
deriving DecidableEq, Repr

/-- One Hallway task input (R388, R389). -/
structure HwyTi where
  coinc : Bool := false
  merges : Nat := 0
  pend : Nat := 0
  /-- the last arrival -/
  last : Option (DWord × Bool) := none
  /-- the last tick with a merge, and how many (R14) -/
  mergeAt : DWord × Nat := (0#64, 0)
deriving DecidableEq, Repr

/-! ### Study (chapter 14) -/

/-- A word that an engine has popped: its value, its poison mark, the tick at which it reaches the engine, and the
generation of the Chute around the pop (R378, R401). -/
structure PopWord where
  v : DWord
  poison : Bool
  at_ : DWord
  gen : Nat
deriving DecidableEq, Repr

/-- One Study engine. -/
structure Eng where
  /-- active descriptor (empty: kernel 0) and pending one -/
  act : List Byte := []
  pend : Option (List Byte) := none
  loadCode : Nat := 0
  /-- words held, oldest first (R406) -/
  words : List PopWord := []
  /-- the running item (V, I, x, timestamp, head temperature), and the tick its cost ends at -/
  run : Option (List DWord × DWord) := none
  /-- an item was skipped since the last kept record or histogram reset, and the valid items taken since the last skip -/
  skipped : Bool := false
  skipAge : Nat := 1048576
  outSeq : Nat := 0
  /-- triggers that wait for the item boundary (R414) -/
  closeDue : Bool := false
  resetDue : Bool := false
  /-- kernel state: recent x values newest first with their timestamps; items counted; segment points (V, I) newest
  first; kept records newest first; hits; verdict or alarm latched; sum of the counted x -/
  xs : List B64 := []
  tss : List DWord := []
  n : Nat := 0
  seg : List (B64 × B64) := []
  kept : List (B64 × B64) := []
  hits : Nat := 0
  latched : Bool := false
  sum : B64 := 0#64
  lastTs : DWord := 0#64
deriving DecidableEq, Repr

/-! ### Porch, Side Door and Keeper (chapter 15) -/

/-- What a port hands to the MAC: replies of R420, the announcements of a failover (R438), a Claondea message. -/
inductive NetOut where
  | arpReply (ip : Word) (mac : BitVec 48)
  | neighborAdv (ip : BitVec 128) (mac : BitVec 48)
  | echo4 (ip : Word) (data : List Byte)
  | echo6 (ip : BitVec 128) (data : List Byte)
  | report4 (groups : List Word)
  | report6 (groups : List (BitVec 128))
  | announce (ip : Word) (ip6 : BitVec 128) (mac : BitVec 48)
  | message (dst : List Byte) (udp : Nat) (bytes : List Byte)
deriving DecidableEq, Repr

/-- One Porch port (R419, R438). -/
structure Port where
  linkUp : Bool := false
  at25g : Bool := false
  /-- start of the present try of auto speed, and whether it is the 10G one -/
  tryAt : DWord := 0#64
  try10 : Bool := false
  downAt : DWord := 0#64
  /-- fo_ms of the present outage (R438, R214) -/
  foMs : Nat := 10
  /-- also serves the other port; its own traffic has moved away -/
  serving : Bool := false
  moved : Bool := false
  /-- what the port last handed to the MAC -/
  sent : List NetOut := []
deriving DecidableEq, Repr

/-- One session entry (R424). -/
structure Session where
  live : Bool := false
  src : List Byte := []
  udp : Nat := 0
  sid : Nat := 0
  /-- highest accepted sequence number, those executed and those executing among the 16 up to it (bit i: h - i) -/
  h : Nat := 0
  done : BitVec 16 := 0#16
  doing : BitVec 16 := 0#16
  /-- responses in the cache, newest first: sequence number and bytes (R425) -/
  cache : List (Nat × List Byte) := []
  idleAt : DWord := 0#64
deriving DecidableEq, Repr

/-- A message accepted and not yet carried out (R423). -/
structure NetReq where
  port : Nat
  sess : Nat
  op : Nat
  tag : Nat
  seq : Nat
  noReply : Bool
  /-- key of its MAC, for the response -/
  key : Option Nat
  /-- its tag is claimed (R426) -/
  claimed : Bool
  body : List Byte
deriving DecidableEq, Repr

/-- A response on its way to the MAC (R426). -/
structure NetRsp where
  port : Nat
  sess : Nat
  /-- tag to be released, and the sequence number that counts as executed -/
  tag : Option Nat
  seq : Nat
  /-- it goes into the response cache -/
  keep : Bool
  bytes : List Byte
deriving DecidableEq, Repr

/-- The open datagram of a stream subscription and a Chute (R430). -/
structure Dgram where
  num : Nat := 0
  words : List DWord := []
  items : Nat := 0
  m : Nat := 1
  first : DWord := 0#64
  dropped : Nat := 0
deriving DecidableEq, Repr

/-- A stream subscription (R429, R430). -/
structure StreamSub where
  on : Bool := false
  sess : Nat := 0
  /-- the port on which it was requested -/
  port : Nat := 0
  key : Option Nat := none
  flushUs : Nat := 0
  maxWords : Nat := 0
  dest : Nat := 0
  mask : Nat := 0
  drops : Nat := 0
  grams : Tbl Dgram := []
deriving DecidableEq, Repr

/-- An event subscription (R432). -/
structure EventSub where
  on : Bool := false
  sess : Nat := 0
  /-- the port on which it was requested -/
  port : Nat := 0
  key : Option Nat := none
  autoClr : Bool := false
  holdUs : Nat := 0
  mask : Nat := 0
  lastAt : Option DWord := none
  /-- the notify not yet acknowledged (the whole message), its sends and the last of them -/
  body : List Byte := []
  sends : Nat := 0
  sentAt : DWord := 0#64
deriving DecidableEq, Repr

/-- The Porch. -/
structure Net where
  ports : Tbl Port := []
  sess : Tbl Session := []
  reqs : List NetReq := []
  rsps : List NetRsp := []
  subs : Tbl StreamSub := []
  evs : Tbl EventSub := []
  /-- key words by 8 × slot + word -/
  keys : Tbl Word := []
deriving DecidableEq, Repr

/-- A mailbox command (R443): op, arguments, owner path, start; whether it waits for the Cellar. -/
structure KprCmd where
  op : Nat
  args : List Word
  owner : Path
  start : DWord
  /-- result and res words once known -/
  result : Option (Nat × List Word) := none
deriving DecidableEq, Repr

/-- The Keeper. -/
structure Kpr where
  /-- it runs, halted only by a fence or before its start; it has reported ready -/
  running : Bool := false
  ready : Bool := false
  startAt : DWord := 0#64
  /-- image in use (0 A, 1 B), the image that last reported ready -/
  image : Nat := 0
  boot : Nat := 0
  /-- the inactive image is loaded and checked (R350) -/
  loaded : Bool := false
  /-- an activation is in progress -/
  activating : Bool := false
  cmd : Option KprCmd := none
deriving DecidableEq, Repr

/-- The reply to the last access of a path (R428): status code and data. -/
structure Reply where
  status : Nat := 0
  data : Word := 0#32
deriving DecidableEq, Repr

/-! ### Power, reset and modes (chapter 17) -/

/-- The requests of one wing (R487, R488): the one that runs, the one that waits, a SAFE request not yet acted on (its
flag: immediate), whether the entry waits for the wing's wake, its overlay or neither. -/
structure ModeReq where
  run : Option Nat := none
  wait : Option Nat := none
  safe : Option Bool := none
  /-- the clocks restart since this tick (R492) -/
  waking : Option DWord := none
  /-- the sleep level at which the wing went to sleep (R490) -/
  slept : Nat := 0
  /-- an overlay applies for the entry -/
  overlay : Bool := false
deriving DecidableEq, Repr

/-- Power, reset and boot. -/
structure Pwr where
  /-- a reset is held: 1 power-on reset, 2 device reset; and the tick it was taken -/
  held : Nat := 0
  heldAt : DWord := 0#64
  /-- house tick of the last release -/
  relAt : DWord := 0#64
  modes : Tbl ModeReq := []
  /-- consecutive die readings at or above 115 °C -/
  hot : Nat := 0
  hotWarn : Bool := false
  hotShut : Bool := false
  hrefLost : Bool := false
  /-- an EXTEST-class instruction is current (R515) -/
  extest : Bool := false
  /-- the levels that the boundary cells give ERR_N (bit 8) and WTRIP (bits 7 to 0) meanwhile: 1 drives low (R515) -/
  cells : BitVec 9 := 0#9
deriving DecidableEq, Repr

/-! ### The state -/

structure State where
  /-- commands waiting, first in first out (the model's queue) -/
  pending : List Instr := []
  /-- the house tick counter (R45) -/
  htick : DWord := 0#64
  /-- the model's own counter of free values (log 2) -/
  freeCtr : Nat := 0
  /-- register words by byte address; a register of which each path has its own copy by
  (path + 1) * 2^32 + address (R519, R522) -/
  regs : Tbl Word := []
  /-- committed copies of the shadow registers (R31) -/
  active : Tbl Word := []
  /-- flags that hardware set in the present house tick (R12) -/
  tickSet : Tbl Word := []
  /-- registers that were written in the present house tick, as they stood before it (R31) -/
  tickOld : Tbl Word := []
  /-- bits of shadow registers that the Stairwell wrote in the present house tick (R173) -/
  tickSwp : Tbl Word := []
  /-- counters that hardware incremented in the present house tick (R14) -/
  tickInc : List TickInc := []
  holds : Holds := {}
  /-- the reply to each path's last access (R428) -/
  replies : Tbl Reply := []
  launched : List Launch := []
  reports : List Report := []
  pins : Pins := {}
  ctl : Tbl ChCtl := []
  gpg : Tbl Gpg := []
  /-- channels that took a transition in the present house tick (R61) -/
  snaps : Tbl (Option TickSnap) := []
  /-- supplies out of their operating range, bits as in GLB_PWR (R469) -/
  supplyOut : BitVec 7 := 0#7
  loop : Tbl ChLoop := []
  tiles : Tbl Tile := []
  trk : Tbl Trk := []
  meas : Tbl Meas := []
  rng : Tbl Rng := []
  mon : Tbl Mon := []
  link : Tbl Link := []
  chcal : Tbl ChCal := []
  mach : Mach := {}
  tod : Tod := {}
  mains : Mains := {}
  alarms : Tbl Alarm := []
  /-- alarm entries written in the present house tick, as they stood before it (R210) -/
  almOld : Tbl (Option Alarm) := []
  /-- the data of the Pantry's 64 banks, by byte offset from the window's start (R357) -/
  pan : Mem := []
  /-- poisoned words, by bank * 65,536 + word (R359) -/
  poison : Tbl Bool := []
  banks : Tbl Bank := []
  borrow : Option Borrow := none
  chutes : Tbl Chute := []
  srcs : Tbl Src := []
  /-- reports pending on the record path, in order of service (R309) -/
  pendReps : List PendRep := []
  /-- the record queue, head first (R314) -/
  hrtQueue : List HrtRec := []
  /-- fence events on their way to the units, by source number (R313) -/
  fences : List Nat := []
  /-- sources whose unit has taken its fence (R304); tiles, banks and channels hold theirs themselves -/
  fencedUnits : List Nat := []
  safeReqs : List SafeReq := []
  found : Found := {}
  cfg : Cfg := {}
  /-- the security fuses (R338); 0 (DESIGN CHOICE, log 6) -/
  fuses : BitVec 2048 := 0#2048
  panOps : PanOps := {}
  hwy : Tbl HwyCh := []
  hwyTi : Tbl HwyTi := []
  engs : Tbl Eng := []
  /-- banks whose descriptor set the Study is to read (R408) -/
  stdLoads : List Nat := []
  net : Net := {}
  kpr : Kpr := {}
  /-- status of the Side Door's last read or write (R442) -/
  sdLast : Nat := 0
  /-- what the last Side Door frame answered on MISO, from the status byte on (R440) -/
  sdOut : List Byte := []
  pwr : Pwr := {}
  cal : Cal := {}
  /-- the 4 KiB of OTP (R242); 0 (DESIGN CHOICE, log 6) -/
  otp : Mem := []
  cel : Cel := {}
  ctxs : Tbl Ctx := []
  /-- tags held by network commands (R162) -/
  netTags : List Nat := []
deriving DecidableEq, Repr

/-- The block right after reset (R468, R520): every field at its reset value; what the spec gives no reset value is 0
or none (log 4). -/
def State.reset : State := {}

end Sys2Proof.Machine
end

