-- ==== Sys2Proof/Machine/Regs.lean ====
section
/-!
DEFINITION. Register addresses (chapter 19), reset values (R520), and reading and writing register words and their
fields; setting flags and counting, with the same-tick rules R12 and R14.
-/

namespace Sys2Proof.Machine

/-! ### Addresses (R519, R521) -/

def GLB : Nat := 0x0
def HRT : Nat := 0x1000
def PHS : Nat := 0x2000
def CAL : Nat := 0x3000
def CFG : Nat := 0x4000
def HWY : Nat := 0x5000
def PAN : Nat := 0x6000
def PRC : Nat := 0xA000
def CEL : Nat := 0xB000
def STD : Nat := 0xC000
def SDR : Nat := 0xD000
def SWP : Nat := 0xE000

/-- Register at offset `o` of channel `n`. -/
def chA (n o : Nat) : Nat := 0x100000 + n * 0x1000 + o
/-- Register at offset `o` of wing `w`. -/
def wgA (w o : Nat) : Nat := 0x10000 + w * 0x1000 + o
/-- Register at offset `o` of tile `t`. -/
def tlA (t o : Nat) : Nat := 0x200000 + t * 0x1000 + o
/-- Register at offset `o` of Chute `c`. -/
def chuA (c o : Nat) : Nat := 0x8000 + c * 0x20 + o
/-- Register at offset `o` of Study engine `e`. -/
def engA (e o : Nat) : Nat := 0xC100 + e * 0x20 + o
/-- Register at offset `o` of Stairwell context `c`. -/
def ctxA (c o : Nat) : Nat := 0xE800 + c * 0x40 + o
/-- Register at offset `o` of Porch port `p`. -/
def prcA (p o : Nat) : Nat := 0xA000 + p * 0x100 + o

/-- The order of the paths (R37). -/
def Path.idx : Path → Nat
  | .keeper => 0
  | .sideDoor => 1
  | .porch0 => 2
  | .porch1 => 3

/-- The key of a register of which each path has its own copy (R522). -/
def pkey (p : Path) (a : Nat) : Nat := (Path.idx p + 1) * 0x100000000 + a

/-- Reset value of a register of one channel, by offset (R520). -/
def chReset (o : Nat) : Nat :=
  if o = 0x014 then 0x1F4 else if o = 0x018 then 0x7D0 else if o = 0x01C then 0x402
  else if o = 0x024 then 0x3E8 else if o = 0x100 then 3
  else if o = 0x200 then 0x3203 else if o = 0x204 then 0x28 else if o = 0x208 then 0x64
  else if o = 0x20C then 0x10000 else if o = 0x210 then 0x100
  else if o = 0x300 then 0x1000F2 else if o = 0x304 then 0x5003B6 else if o = 0x308 then 0x81001
  else if o = 0x30C then 0xC8 else if o = 0x530 then 1 else if o = 0x600 then 1 else if o = 0x61C then 0x8000
  else if o = 0x700 then 0x60 else if o = 0x708 then 0x20 else if o = 0x70C then 0x40 else if o = 0x710 then 1
  else if 0x800 ≤ o ∧ o < 0xB00 then
    (if o % 0x20 = 0 then 0x3F800000 else if o % 0x20 = 0x14 then 0x41C80000 else 0)
  else 0

/-- Reset value of a register of one wing, by offset (R520). -/
def wgReset (o : Nat) : Nat :=
  if o = 0x20C then 0x640000 else if o = 0x210 then 0x3E8 else if o = 0x380 then 0x80
  else if o = 0x404 then 0x402 else 0

/-- Reset value of a register below 0x1_0000 (R520). -/
def lowReset (a : Nat) : Nat :=
  if a < 0x1000 then
    (if a = 0x000 then 0x19128 else if a = 0x040 then 0x5555 else if a = 0x044 then 0x249249
     else if a = 0x05C then 0x69 else 0)
  else if a < 0x2000 then
    (if a = 0x1104 then 0x101 else if a = 0x1108 then 0xF4240 else if a = 0x1040 then 0x7FF else 0)
  else if a < 0x3000 then
    (if a = 0x2000 then 0x208 else if a = 0x2004 then 0xFFFFF else if a = 0x2008 then 0x640064 else 0)
  else if a < 0x4000 then
    (if a = 0x3000 then 0x643C03 else if a = 0x3004 then 0xC8 else if a = 0x3008 then 0x1388
     else if a = 0x300C then 0x0A0A0A0A else if a = 0x3010 then 0x8140064 else if a = 0x3014 then 0x461C4000
     else if a = 0x3018 then 0x40A00000 else 0)
  else if a < 0x5000 then (if a = 0x4080 then 0xFFFFFF else if a = 0x4090 then 1 else 0)
  else if a < 0x6000 then
    (if a = 0x5004 then 0x3E82710 else if a = 0x5108 then 0x105
     else if 0x510C ≤ a ∧ a < 0x513C then 0xFFFFFFFF else 0)
  else if a < 0x7000 then
    (if a = 0x6020 then 0xFFFFFFFF else if a = 0x6024 then 0xFFFFFFFF else if a = 0x6050 then 0x200 else 0)
  else if a < 0x8000 then 0
  else if a < 0xA000 then (if a % 0x20 = 0x10 then 0x20000 else 0)
  else if a < 0xB000 then
    (if a = 0xA000 then 1 else if a = 0xA100 then 1 else if a = 0xA034 then 0xBFE8 else if a = 0xA134 then 0xBFE8
     else if a = 0xA404 then 0x2A else if a = 0xA440 then 0xEF5B2800 else 0)
  else if a < 0xC000 then
    (if a = 0xB000 then 0x3D else if a = 0xB020 then 0x7D01418 else if a = 0xB024 then 0x186A0
     else if a = 0xB040 then 0xA else 0)
  else if a < 0xE000 then 0
  else if a < 0xF000 then (if 0xE100 ≤ a ∧ a < 0xE180 ∧ a % 8 = 0 then 3 else 0)
  else 0

/-- Reset value of the register of a key (R520): 0 unless its table of non-zero reset values names it. -/
def regReset (k : Nat) : Word :=
  let a := k % 0x100000000
  BitVec.ofNat 32 (if a < 0x10000 then lowReset a
    else if a < 0x18000 then wgReset (a % 0x1000)
    else if 0x100000 ≤ a ∧ a < 0x180000 then chReset (a % 0x1000)
    else 0)

/-! ### Words and fields -/

/-- The word of a register. -/
def State.rd (s : State) (k : Nat) : Word := Tbl.get (regReset k) s.regs k
/-- Hardware stores a register word. -/
def State.wr (s : State) (k : Nat) (v : Word) : State := { s with regs := Tbl.put s.regs k v }
/-- A field of a register. -/
def State.rf (s : State) (k lo w : Nat) : Nat := bits (s.rd k) lo w
/-- Hardware stores a field of a register. -/
def State.wf (s : State) (k lo w v : Nat) : State := s.wr k (setBits (s.rd k) lo w v)
/-- A flag of a register. -/
def State.rb (s : State) (k i : Nat) : Bool := bit (s.rd k) i
/-- Hardware stores a one-bit field. -/
def State.wb (s : State) (k i : Nat) (b : Bool) : State := s.wr k (putBit (s.rd k) i b)
/-- A register pair, the low word at the lower address (R18). -/
def State.rd64 (s : State) (k : Nat) : DWord := s.rd (k + 4) ++ s.rd k
/-- Hardware stores a register pair. -/
def State.wr64 (s : State) (k : Nat) (v : DWord) : State :=
  (s.wr k (v.setWidth 32)).wr (k + 4) ((v >>> 32).setWidth 32)

/-- The committed copy of a shadow register (R31). -/
def State.act (s : State) (k : Nat) : Word := Tbl.get (regReset k) s.active k
/-- A field of a committed copy. -/
def State.actf (s : State) (k lo w : Nat) : Nat := bits (s.act k) lo w
/-- A flag of a committed copy. -/
def State.actb (s : State) (k i : Nat) : Bool := bit (s.act k) i
/-- The committed copy is stored. -/
def State.setAct (s : State) (k : Nat) (v : Word) : State := { s with active := Tbl.put s.active k v }

/-- Hardware sets a flag; a host clear in the same tick does not clear it (R12). -/
def State.flag (s : State) (k i : Nat) : State :=
  let t := s.wb k i true
  { t with tickSet := Tbl.put t.tickSet k (setBit (Tbl.get 0#32 t.tickSet k) i) }

/-- A note that hardware added `n` to the counter of `w` bits at bit `lo` of register `k` in this tick (R14). -/
def State.noteInc (s : State) (k lo w n : Nat) (wrap : Bool) : State :=
  { s with tickInc := ⟨k, lo, w, n, wrap⟩ :: s.tickInc }

/-- Hardware adds to a saturating counter (R7). -/
def State.addSat (s : State) (k lo w n : Nat) : State :=
  if n = 0 then s else (s.wf k lo w (min (s.rf k lo w + n) (2 ^ w - 1))).noteInc k lo w n false

/-- Hardware increments a saturating counter (R7). -/
def State.incSat (s : State) (k lo w : Nat) : State := s.addSat k lo w 1

/-- Hardware increments a wrapping counter (R7). -/
def State.incWrap (s : State) (k lo w : Nat) : State := (s.wf k lo w (s.rf k lo w + 1)).noteInc k lo w 1 true

/-! ### Time -/

/-- House ticks passed since tick `t`, by the wrapping counter (R45). -/
def State.since (s : State) (t : DWord) : Nat := (s.htick - t).toNat

/-- The house tick count lies on the 256 ns frame grid (R30). -/
def State.onGrid (s : State) : Bool := s.htick.toNat % 128 == 0

/-! ### Free values (log 2) -/

/-- A fresh free word. -/
def State.freeW (s : State) : State × Word := ({ s with freeCtr := s.freeCtr + 1 }, Config.freeWord s.freeCtr)
/-- A fresh free double word. -/
def State.freeD (s : State) : State × DWord := ({ s with freeCtr := s.freeCtr + 1 }, Config.freeDWord s.freeCtr)
/-- A fresh free bit. -/
def State.freeB (s : State) : State × Bool := ({ s with freeCtr := s.freeCtr + 1 }, Config.freeBit s.freeCtr)

/-! ### Outboxes (log 3) -/

/-- A producer launches an edge on its line (R384, R394). -/
def State.launch (s : State) (p : Nat) : State := { s with launched := s.launched ++ [⟨p, s.htick⟩] }
/-- A block raises a report for a source (R307). -/
def State.report (s : State) (source cause : Nat) : State :=
  { s with reports := s.reports ++ [⟨source, cause, s.htick⟩] }

/-! ### Channel records -/

def State.ch (s : State) (n : Nat) : ChCtl := Tbl.get {} s.ctl n
def State.setCh (s : State) (n : Nat) (c : ChCtl) : State := { s with ctl := Tbl.put s.ctl n c }
def State.modCh (s : State) (n : Nat) (f : ChCtl → ChCtl) : State := s.setCh n (f (s.ch n))
def State.gp (s : State) (n : Nat) : Gpg := Tbl.get {} s.gpg n
def State.setGp (s : State) (n : Nat) (g : Gpg) : State := { s with gpg := Tbl.put s.gpg n g }
def State.modGp (s : State) (n : Nat) (f : Gpg → Gpg) : State := s.setGp n (f (s.gp n))
def State.lp (s : State) (n : Nat) : ChLoop := Tbl.get {} s.loop n
def State.setLp (s : State) (n : Nat) (l : ChLoop) : State := { s with loop := Tbl.put s.loop n l }
def State.modLp (s : State) (n : Nat) (f : ChLoop → ChLoop) : State := s.setLp n (f (s.lp n))
def State.tile (s : State) (t : Nat) : Tile := Tbl.get {} s.tiles t
def State.setTile (s : State) (t : Nat) (x : Tile) : State := { s with tiles := Tbl.put s.tiles t x }
def State.wtrk (s : State) (w : Nat) : Trk := Tbl.get {} s.trk w
def State.setTrk (s : State) (w : Nat) (x : Trk) : State := { s with trk := Tbl.put s.trk w x }
def State.ms (s : State) (n : Nat) : Meas := Tbl.get {} s.meas n
def State.setMs (s : State) (n : Nat) (m : Meas) : State := { s with meas := Tbl.put s.meas n m }
def State.modMs (s : State) (n : Nat) (f : Meas → Meas) : State := s.setMs n (f (s.ms n))
def State.rg (s : State) (n : Nat) : Rng := Tbl.get {} s.rng n
def State.setRg (s : State) (n : Nat) (r : Rng) : State := { s with rng := Tbl.put s.rng n r }
def State.modRg (s : State) (n : Nat) (f : Rng → Rng) : State := s.setRg n (f (s.rg n))
def State.mo (s : State) (n : Nat) : Mon := Tbl.get {} s.mon n
def State.setMo (s : State) (n : Nat) (m : Mon) : State := { s with mon := Tbl.put s.mon n m }
def State.lk (s : State) (n : Nat) : Link := Tbl.get {} s.link n
def State.setLk (s : State) (n : Nat) (l : Link) : State := { s with link := Tbl.put s.link n l }
def State.modLk (s : State) (n : Nat) (f : Link → Link) : State := s.setLk n (f (s.lk n))
def State.cc (s : State) (n : Nat) : ChCal := Tbl.get {} s.chcal n
def State.setCc (s : State) (n : Nat) (c : ChCal) : State := { s with chcal := Tbl.put s.chcal n c }

/-- Comparator `i` of a channel. -/
def Mon.cmp (m : Mon) (i : Nat) : Cmp := if i = 0 then m.c0 else if i = 1 then m.c1 else if i = 2 then m.c2 else m.c3
/-- The comparators with comparator `i` replaced. -/
def Mon.setCmp (m : Mon) (i : Nat) (c : Cmp) : Mon :=
  if i = 0 then { m with c0 := c } else if i = 1 then { m with c1 := c }
  else if i = 2 then { m with c2 := c } else { m with c3 := c }

/-- The wing of a channel (Table "Defined terms"). -/
def wingOf (n : Nat) : Nat := n / 16

/-- The offset of the flag register that a channel's cause code names by bits [7:5] (R308). -/
def chFlagOff (i : Nat) : Nat :=
  if i = 0 then 0x00C else if i = 1 then 0x410 else if i = 2 then 0x220
  else if i = 3 then 0x314 else if i = 4 then 0x534 else 0x608

/-- A channel sets the flag that cause code `c` names (R308). -/
def State.chFlag (s : State) (n c : Nat) : State := s.flag (chA n (chFlagOff (c / 32))) (c % 32)
/-- A channel sets the flag that cause code `c` names and raises its error line with that cause (R307, R308). -/
def State.chFault (s : State) (n c : Nat) : State := (s.chFlag n c).report n c

end Sys2Proof.Machine
end

