-- ==== Sys2Proof/Machine/Chan.lean ====
section
/-!
DEFINITION. What a channel's commands share: the head descriptor's fields (R290), the transition table of R60 with the
ranks of R61, entering a state with all it does, and the GATE pin (R75).
-/

namespace Sys2Proof.Machine

/-! ### The head descriptor (R290) -/

/-- Descriptor byte `i` of the channel's valid descriptor; 0 without one. -/
def State.descB (s : State) (n i : Nat) : Nat :=
  let l := s.lk n
  if l.descValid then (l.desc.getD i 0#8).toNat else 0

/-- `w` descriptor bytes from `i` on, little-endian. -/
def State.descLE (s : State) (n i : Nat) : Nat → Nat
  | 0 => 0
  | w + 1 => s.descB n i + 256 * State.descLE s n (i + 1) w

/-- A range record's word at offset `o`: voltage ranges in frames 2 to 9, current ranges in frames 10 to 25. -/
def State.vrec (s : State) (n r o w : Nat) : Nat := s.descLE n ((2 + r) * 28 + o) w
def State.irec (s : State) (n r o w : Nat) : Nat := s.descLE n ((10 + r) * 28 + o) w

/-- The range is declared. -/
def State.declV (s : State) (n r : Nat) : Bool := s.descB n 28 / 2 ^ r % 2 == 1 && decide (r < 8)
def State.declI (s : State) (n r : Nat) : Bool := s.descLE n 30 2 / 2 ^ r % 2 == 1 && decide (r < 16)

/-- Full scales; 0 while no descriptor is valid (DESIGN CHOICE, log 9). -/
def State.fsV (s : State) (n r : Nat) : B32 := BitVec.ofNat 32 (if s.declV n r then s.vrec n r 0 4 else 0)
def State.fsI (s : State) (n r : Nat) : B32 := BitVec.ofNat 32 (if s.declI n r then s.irec n r 0 4 else 0)

/-- The over-range factor; 1.0 while no descriptor is valid (DESIGN CHOICE, log 9). -/
def State.ovr (s : State) (n : Nat) : B32 :=
  if (s.lk n).descValid then BitVec.ofNat 32 (s.descLE n 24 4) else 0x3F800000#32

/-- The quadrant mask; every quadrant while no descriptor is valid (DESIGN CHOICE, log 9). -/
def State.quadrants (s : State) (n : Nat) : Nat := if (s.lk n).descValid then s.descB n 22 else 15
def State.capDual (s : State) (n : Nat) : Bool := s.descB n 23 % 2 == 1
def State.headEpoch (s : State) (n : Nat) : Nat := s.descLE n 6 2
def State.headSerial (s : State) (n : Nat) : Nat := s.descLE n 8 8
def State.headMaker (s : State) (n : Nat) : Nat := s.descLE n 16 2
def State.headClass (s : State) (n : Nat) : Nat := s.descLE n 20 2
def State.headModes (s : State) (n : Nat) : Nat := s.descLE n 40 4
def State.tSwitch (s : State) (n : Nat) : Nat := s.descLE n 34 2
def State.acqTicks (s : State) (n : Nat) : Nat := s.descLE n 36 2

/-- Nearest declared current range above, below (chapter 04, "adjacent"). -/
def State.adjUp (s : State) (n r : Nat) : Option Nat := (rangeFrom (r + 1) (15 - r)).find? (s.declI n)
def State.adjDown (s : State) (n r : Nat) : Option Nat := ((rangeFrom 0 r).reverse).find? (s.declI n)

/-! ### Channel settings in force -/

/-- Force mode committed (R48). -/
def State.mode (s : State) (n : Nat) : Nat := s.actf (chA n 0x100) 0 2
/-- vrange_act and irange_act (R51). -/
def State.vact (s : State) (n : Nat) : Nat := s.rf (chA n 0x104) 0 3
def State.iact (s : State) (n : Nat) : Nat := s.rf (chA n 0x104) 8 4
def State.setVact (s : State) (n r : Nat) : State := s.wf (chA n 0x104) 0 3 r
def State.setIact (s : State) (n r : Nat) : State := s.wf (chA n 0x104) 8 4 r
/-- Autorange committed on, with its floor and ceiling (R53, R151). -/
def State.autoOn (s : State) (n : Nat) : Bool := s.actb (chA n 0x300) 0
def State.arFloor (s : State) (n : Nat) : Nat := s.actf (chA n 0x300) 8 4
def State.arCeil (s : State) (n : Nat) : Nat := s.actf (chA n 0x300) 4 4
/-- Declared current ranges in [autorange_floor, autorange_ceiling], rising. -/
def State.arRanges (s : State) (n : Nat) : List Nat :=
  (rangeFrom 0 16).filter (fun r => s.declI n r && decide (s.arFloor n ≤ r) && decide (r ≤ s.arCeil n))
/-- Loop period in frames, k (R127); 0 before the Foundation loads it. -/
def State.kOf (s : State) (n : Nat) : Nat := s.rf (chA n 0x404) 0 22
/-- The house tick is a period boundary of the channel (R30). -/
def State.atBoundary (s : State) (n : Nat) : Bool :=
  let k := s.kOf n
  k != 0 && s.htick.toNat % (128 * k) == 0

/-- REGULATING or COMPLIANCE. -/
def ChState.reg : ChState → Bool
  | .regulating => true
  | .compliance => true
  | _ => false
/-- A live state (R74). -/
def ChState.live : ChState → Bool
  | .quenched => false
  | .fenced => false
  | _ => true
/-- The code of a state (Table "Channel states"). -/
def ChState.code : ChState → Nat
  | .quenched => 0
  | .arming => 1
  | .regulating => 2
  | .compliance => 3
  | .hold => 4
  | .rampdown => 5
  | .fenced => 6

/-! ### GATE (R75) -/

/-- state_enable: high in the live states, in ARMING from the rise of GATE on (R60, R75). -/
def ChCtl.enable (c : ChCtl) : Bool :=
  match c.st with
  | .quenched => false
  | .fenced => false
  | .arming => c.gateUp
  | _ => true

/-- guard_trip: a Guard latch of the channel is set, or VDD_ANA is outside its operating range (R224, R232). -/
def State.guardTrip (s : State) (n : Nat) : Bool :=
  (s.mo n).c0.latched || (s.mo n).c1.latched || bit s.supplyOut 3

/-- notch: the pulse generator holds GATE low for an edge marker (R75, R78). -/
def State.notchOn (s : State) (n : Nat) : Bool :=
  match (s.gp n).notchEnd with
  | none => false
  | some e => decide (0 < (e - s.htick).toNat ∧ (e - s.htick).toNat ≤ 12)

/-- The level of the GATE pin (R75); low while VDD_IO is outside its operating range (R59, R232), and while an
EXTEST-class instruction is current (R515). -/
def State.gateOut (s : State) (n : Nat) : Bool :=
  (s.ch n).enable && !s.guardTrip n && !s.notchOn n && !bit s.supplyOut 4 && !s.pwr.extest

/-! ### The transition table (R60) and its ranks (R61) -/

/-- The state to which a cause code takes a channel from a state, where R60 has the transition. -/
def nextSt (code : Nat) (st : ChState) : Option ChState :=
  if code = 0x01 ∨ code = 0x02 then (if st = .quenched then some .arming else none)
  else if code = 0x03 then (if st = .arming then some .regulating else none)
  else if code = 0x04 then (if st = .arming then some .quenched else none)
  else if code = 0x05 then (if st = .regulating then some .compliance else none)
  else if code = 0x06 then (if st = .compliance then some .regulating else none)
  else if code = 0x07 then (if st = .compliance then some .rampdown else none)
  else if code = 0x08 ∨ code = 0x09 then
    (if st = .arming then some .quenched else if st.reg then some .hold else none)
  else if code = 0x0A ∨ code = 0x19 then (if st.reg then some .hold else none)
  else if code = 0x0B ∨ code = 0x0C ∨ code = 0x1A then (if st = .hold then some .regulating else none)
  else if code = 0x0D then (if st = .hold then some .rampdown else none)
  else if code = 0x0E then (if st.reg ∨ st = .hold then some .rampdown else none)
  else if code = 0x0F ∨ code = 0x13 ∨ code = 0x14 then
    (if st = .arming then some .quenched else if st.reg ∨ st = .hold then some .rampdown else none)
  else if code = 0x10 ∨ code = 0x1B ∨ code = 0x15 ∨ code = 0x12 ∨ code = 0x16 then
    (if st.live then some .quenched else none)
  else if code = 0x11 then (if st = .rampdown then some .quenched else none)
  else if code = 0x17 then (if st = .fenced then none else some .fenced)
  else if code = 0x18 then (if st = .fenced then some .quenched else none)
  else none

/-- Rank of a cause, 1 the highest (R61). -/
def causeRank (code : Nat) : Nat :=
  if code = 0x17 then 1
  else if code = 0x12 then 2
  else if code = 0x10 ∨ code = 0x1B ∨ code = 0x15 then 3
  else if code = 0x16 then 4
  else if code = 0x0D ∨ code = 0x0E ∨ code = 0x04 then 5
  else if code = 0x08 ∨ code = 0x09 ∨ code = 0x0A then 6
  else if code = 0x0F ∨ code = 0x13 ∨ code = 0x14 ∨ code = 0x07 then 7
  else if code = 0x19 then 8
  else if code = 0x0B ∨ code = 0x0C ∨ code = 0x1A ∨ code = 0x03 ∨ code = 0x11 ∨ code = 0x18 then 9
  else if code = 0x05 ∨ code = 0x06 then 10
  else 11

/-! ### Entering a state -/

/-- A status bit of the open aperture is set (Table "Record status"). -/
def State.apMark (s : State) (n b : Nat) : State :=
  let m := s.ms n
  if m.ap.phase = .opened then s.setMs n { m with ap := { m.ap with stat := setBit m.ap.stat b } } else s

/-- End of a current-range change: irange_act takes r_to (R148, R149, R150, R146). After a crossfade the 64 periods of
R147 count from the swap; after another change the secondary is chosen anew at once where it is not next to the new range
(DEDUCED, log 22). -/
def State.rangeDone (s : State) (n : Nat) : State :=
  let r := s.rg n
  let s := s.setIact n r.to_
  let near := s.adjUp n r.to_ == some r.sec || s.adjDown n r.to_ == some r.sec
  let s := s.setRg n { r with kind := .none, bx := none, j := 0, finish := false, echo := 0, want := none,
                              settle := 0, arSettle := bits (s.act (chA n 0x308)) 16 8, sec := if r.kind = .xfade then r.from_ else r.sec, secRun := 0,
                              secPer := if r.kind = .xfade then 0 else if near then r.secPer else 64,
                              upRun := 0, downRun := 0 }
  ((s.apMark n 5).incWrap (chA n 0x318) 0 16).launch (16 * n + 12)

/-- The first period j with j / K at least one half (R148). -/
def jSwitch (k : Nat) : Nat := (k + 1) / 2

/-- A state change ends a running crossfade (R149); a crossfade that has not started waits as a request. -/
def State.cancelXf (s : State) (n : Nat) : State :=
  let r := s.rg n
  if r.kind = .xfade then
    match r.bx with
    | none => s.setRg n { r with kind := .none, want := if s.autoOn n then some r.to_ else none }
    | some _ =>
      let s := s.flag (chA n 0x314) 2
      if r.j < jSwitch (s.actf (chA n 0x300) 16 6) then s.setRg n { r with kind := .none, bx := none, j := 0, finish := false }
      else
        let s := s.rangeDone n
        s.setRg n { s.rg n with settleLate := true }
  else s

/-- A make-before-break change whose HOLD is lost: the active ranges are named again, and the change stands for the
next period boundary (R527). -/
def State.loseMbb (s : State) (n : Nat) : State :=
  let c := s.ch n
  let s := if c.vChange.isSome then s.setCh n { c with vChange := none, vStand := true } else s
  let r := s.rg n
  if r.kind = .mbb then s.setRg n { r with kind := .none, echo := 0, want := if s.autoOn n then some r.to_ else none } else s

/-- An end notch starts now (R78, R80): GATE low for `notch` ticks, in_pulse falls. -/
def State.endNotch (s : State) (n : Nat) : State :=
  let g := s.gp n
  let past := match g.past with
    | (a, none) :: t => (a, some s.htick) :: t
    | p => p
  (s.setGp n { g with inPulse := false, notchEnd := some (s.htick + BitVec.ofNat 64 g.notch), past := past }).launch (16 * n + 7)

/-- The generator stops without an end notch: GATE is low already (R80). -/
def State.stopTrain (s : State) (n : Nat) : State :=
  let g := s.gp n
  let past := match g.past with
    | (a, none) :: t => (a, some s.htick) :: t
    | p => p
  s.setGp n { g with running := false, inPulse := false, notchEnd := none, past := past }

/-- What a channel does on leaving REGULATING and COMPLIANCE for another state: a crossfade is cancelled (R149), the
pulse train ends (R80), and a pass whose output is not yet delivered is abandoned (R111, R120). -/
def State.leaveReg (s : State) (n : Nat) (tgt : ChState) : State :=
  let s := s.cancelXf n
  let s := if tgt = .hold ∨ tgt = .rampdown then
      (let g := s.gp n
       let s := if g.inPulse then s.endNotch n else s
       s.modGp n (fun g => { g with running := false }))
    else s.stopTrain n
  s.modLp n (fun l => { l with passEnd := none, out := none, outBad := false })

/-- 256 ns in seconds, binary64. -/
def frameSec : B64 := F64.ofFrac 256 1000000000

/-- The ramp of RAMPDOWN at its start: the level to start from and the step d per frame (R68). -/
def State.rampStart (s : State) (n : Nat) : B64 × B64 :=
  let l0 := if s.mode n = 2 then 0#64 else F64.of32 (s.ch n).level
  let rdMax := F64.ofFrac (s.rf (chA n 0x024) 0 16) 1000
  let sl := F64.max (F64.of32 (s.act (chA n 0x118))) (F64.div (F64.abs l0) rdMax)
  (l0, F64.mul sl frameSec)

/-- At ARM with autorange on, the range that irange_act starts at (R152). -/
def State.arStart (s : State) (n : Nat) : Nat :=
  let i := s.actf (chA n 0x100) 8 4
  let l := s.arRanges n
  if l.contains i then i
  else l.foldl (fun b r => if (max r i - min r i) < (max b i - min b i) then r else b) (l.headD i)

/-- GATE may rise: it has been low for 1,024 house ticks (R60). -/
def State.gateMayRise (s : State) (n : Nat) : Bool :=
  match (s.ch n).gateFell with
  | none => true
  | some t => decide (1024 ≤ s.since t)

/-- The channel record on entry to state `to` with cause `code` (R60): what each state starts with.
A timer that starts here takes its setting now (R214). -/
def State.entered (s : State) (n : Nat) (tgt : ChState) (code : Nat) : ChCtl :=
  let c := s.ch n
  let fell := if c.enable && !s.guardTrip n && (tgt == .quenched || tgt == .fenced) then some s.htick else c.gateFell
  let b := { c with st := tgt, prev := c.st, cause := code, transTs := s.htick, gateFell := fell, edge := none,
                    holdExp := false, holdMet := none }
  match tgt with
  | .quenched => { b with level := 0#32, gateUp := false, clampRun := 0, freeRun := 0 }
  | .fenced => { b with level := 0#32, gateUp := false, clampRun := 0, freeRun := 0 }
  | .arming =>
    { b with level := 0#32, gateUp := s.gateMayRise n, armStart := s.htick, armLim := s.rf (chA n 0x014) 0 16, readyRun := 0, badRun := 0, frozenRun := 0 }
  | .regulating =>
    if c.st = .arming then { b with setptEff := 0#64, clampRun := 0, freeRun := 0 } else { b with clampRun := 0, freeRun := 0 }
  | .compliance => { b with compPeriods := 0, compActed := false, compLim := s.rf (chA n 0x020) 0 24, clampRun := 0, freeRun := 0 }
  | .hold => { b with holdStart := s.htick, holdLim := s.rf (chA n 0x018) 0 13, clampRun := 0, freeRun := 0 }
  | .rampdown =>
    let r := s.rampStart n
    { b with rampLvl := r.1, rampD := r.2, zeroFrames := 0, rampEdge := none }

/-- The loop record on entry to a state: the pass kinds that the next pass meets (R111, R112). -/
def ChLoop.entered (l : ChLoop) (fromSt tgt : ChState) (code : Nat) : ChLoop :=
  if tgt = .regulating then
    (if fromSt = .arming then { l with kArming := true, outLast := 0#32, outFrom := none, kResume := false }
     else if code = 0x0B ∨ code = 0x1A then { l with kResume := true } else l)
  else if tgt = .quenched ∨ tgt = .fenced ∨ tgt = .rampdown then
    { l with kMode := none, kReplace := none, kXfade := false, kCoef := false, kResume := false }
  else l

/-- Flags, counters, producer events and reports of an entry (R60, R85, R86, R87). -/
def State.announce (s : State) (n : Nat) (tgt : ChState) (code : Nat) : State :=
  let s :=
    match tgt with
    | .quenched => s.launch (16 * n + 3)
    | .regulating => s.launch (16 * n)
    | .compliance =>
      let l := s.lp n
      let s := if l.clampPos then s.chFlag n 0 else s
      let s := if l.clampNeg then s.chFlag n 1 else s
      (s.incWrap (chA n 0x028) 0 16).launch (16 * n + 1)
    | .hold => ((s.incWrap (chA n 0x028) 16 16).launch (16 * n + 2)).chFault n 4
    | .fenced =>
      let l := s.lk n
      let s := s.wr (chA n 0x038) (BitVec.ofNat 32 (l.epoch % 65536 + 65536 * leNat ((l.desc.drop 16).take 2)))
      (s.wr64 (chA n 0x040) (BitVec.ofNat 64 (leNat ((l.desc.drop 8).take 8)))).launch (16 * n + 4)
    | _ => s
  if code = 0x04 then s.chFault n 6
  else if code = 0x16 then s.chFlag n 11
  else if code = 0x12 then s.chFlag n 2
  else if code = 0x13 ∨ code = 0x1B then s.chFlag n 3
  else s

/-- The channel takes the transition to `to` with cause `code` (R60). -/
def State.enter (s : State) (n : Nat) (tgt : ChState) (code : Nat) : State :=
  let c := s.ch n
  let s := if c.st.reg && !tgt.reg then s.leaveReg n tgt else s
  let s := if c.st == .hold && code != 0x1A && code != 0x0D then s.loseMbb n else s
  let s := if !tgt.live then s.stopTrain n else s
  let rec' := s.entered n tgt code
  let s := s.setCh n rec'
  let s := s.modLp n (fun l => l.entered c.st tgt code)
  let s := if tgt == .arming && s.autoOn n then s.setIact n (s.arStart n) else s
  s.announce n tgt code

/-- A transition of lower rank taken in this tick is undone (R61): the control record and the flags and counts it
wrote go back, and its events and reports are withdrawn. -/
def State.undo (s : State) (n : Nat) (sn : TickSnap) : State :=
  let lost := (s.ch n).vChange.isSome && sn.ctl.vChange.isNone
  let s := s.setCh n { sn.ctl with vStand := sn.ctl.vStand || lost }
  let s := (s.wr (chA n 0x00C) sn.status).wr (chA n 0x028) sn.count
  let s := s.loseMbb n
  { s with
    launched := s.launched.filter (fun e => !(e.at_ == s.htick && decide (16 * n ≤ e.prod) && decide (e.prod ≤ 16 * n + 4)))
    reports := s.reports.filter (fun r => !(r.at_ == s.htick && r.source == n && (r.cause == 4 || r.cause == 6))) }

/-- The channel takes a cause from its present state, if R60 has the transition, and remembers what it was before. -/
def State.tryCause (s : State) (n code : Nat) (snap : Option TickSnap) : State :=
  match nextSt code (s.ch n).st with
  | none => s
  | some tgt =>
    let sn : TickSnap := match snap with
      | some x => { x with rank := min x.rank (causeRank code) }
      | none => ⟨causeRank code, s.ch n, s.rd (chA n 0x00C), s.rd (chA n 0x028)⟩
    let s := s.enter n tgt code
    { s with snaps := Tbl.put s.snaps n (some sn) }

/-- A cause acts on a channel (R60, R61): of the causes of one house tick the highest takes its transition; causes of
one rank lead to one state and the lowest code is recorded; a lower cause is evaluated from the new state. -/
def State.cause (s : State) (n code : Nat) : State :=
  match Tbl.get none s.snaps n with
  | none => s.tryCause n code none
  | some sn =>
    if causeRank code < sn.rank then
      (match nextSt code sn.ctl.st with
       | none => s
       | some _ => (s.undo n sn).tryCause n code (some sn))
    else if causeRank code = sn.rank then
      (match nextSt code sn.ctl.st with
       | none => s.tryCause n code (some sn)
       | some _ => s.modCh n (fun c => { c with cause := min c.cause code }))
    else s.tryCause n code (some sn)

/-- A cause that acts at the next frame-grid edge is latched; of several the highest waits (R60, R61). -/
def State.latchCause (s : State) (n code : Nat) : State :=
  let c := s.ch n
  match nextSt code c.st with
  | none => s
  | some _ =>
    let code' := match c.edge with
      | none => code
      | some e =>
        if causeRank code < causeRank e.code then code
        else if causeRank code = causeRank e.code then min code e.code else e.code
    let since := match c.edge with
      | none => s.htick
      | some e => e.since
    s.setCh n { c with edge := some ⟨code', since⟩ }

/-- Ticks from `t` to the next frame-grid edge after it (R60). -/
def toEdge (t : DWord) : Nat := 128 - t.toNat % 128

/-- The latched causes whose frame-grid edge comes within the next `dt` ticks take their transitions, each at its
edge (R60). -/
def State.takeEdges (s : State) (dt : Nat) : State :=
  let here := s.htick
  s.ctl.foldl (fun s e =>
    match e.2.edge with
    | none => s
    | some x =>
      let at_ := x.since + BitVec.ofNat 64 (toEdge x.since)
      if (at_ - here).toNat ≤ dt then
        (let s := { s with htick := at_ }
         let s := s.modCh e.1 (fun c => { c with edge := none })
         let s := s.cause e.1 x.code
         { s with htick := here })
      else s) s

/-! ### Driving the pins -/

/-- In the safe state the pulse generator is stopped (R59). -/
def State.safeGpg (s : State) : Tbl Gpg :=
  s.gpg.map (fun e => if (s.ch e.1).st.live then e else (e.1, { e.2 with running := false, inPulse := false }))

/-- A latched Watch comparator of wing `w` with its output enabled drives WTRIP (R228); `ev`: one that produces
ev_wtrip, which a power-up latch does not (R231). -/
def State.watchDrives (s : State) (w : Nat) (ev : Bool) : Bool :=
  s.mon.any (fun e => wingOf e.1 == w && s.actb (chA e.1 0x530) 0
    && ((e.2.c2.latched && !(ev && e.2.c2.puPending)) || (e.2.c3.latched && !(ev && e.2.c3.puPending))))

/-- The levels that the Watch logic drives on WTRIP (R228). -/
def State.wtripNow (s : State) : Tbl Bool := (rangeFrom 0 8).map (fun w => (w, s.watchDrives w false))

/-- ev_wtrip of the wings whose Watch logic begins to drive WTRIP (R228). -/
def State.tripEvents (s : State) : List Launch :=
  ((rangeFrom 0 8).filter (fun w => !Tbl.get false s.pins.watch w && s.watchDrives w true)).map
    (fun w => ⟨0x800 + 8 * w + 4, s.htick⟩)

/-- The pins as the state drives them: GATE by R75, WTRIP by R228, ERR_N by R320; WTRIP and ERR_N follow their boundary
cells under EXTEST (R515). -/
def State.pinsNow (s : State) : Pins :=
  let lim := s.rd 0x1000 &&& ~~~(clrBit (s.rd 0x1010) 27)
  { gate := s.ctl.map (fun e => (e.1, s.gateOut e.1))
    watch := s.wtripNow
    wtrip := if s.pwr.extest then (rangeFrom 0 8).map (fun w => (w, bit s.pwr.cells w)) else s.wtripNow
    errN := if s.pwr.extest then bit s.pwr.cells 8 else lim != 0#32 || (s.srcs.any (fun e => e.1 == 0x425 && e.2.grave)) }

/-- The outputs follow the state. -/
def State.settle (s : State) : State :=
  { s with gpg := s.safeGpg, launched := s.launched ++ s.tripEvents, pins := s.pinsNow }

/-- The end of every command: the pins follow, and the block goes on. -/
def State.done (s : State) : Host.Outcome State Fault Refusal := .next s.settle

end Sys2Proof.Machine
end

