-- ==== Sys2Proof/Machine/Phase.lean ====
section
/-!
DEFINITION. The Phase block (chapter 06): the machine and mains counters with their flywheels, the 1588 clock, the
domain states and the alarms; and the passing of time, which every command begins with.
-/

namespace Sys2Proof.Machine

/-! ### Settings -/

/-- turn_len (R191). -/
def State.turnLen (s : State) : Nat := s.rf 0x2004 0 20 + 1
/-- mark_tol and step_tol, in machine ticks (R192, R199). -/
def State.markTol (s : State) : Nat := s.rf 0x2000 3 2
def State.stepTol (s : State) : Nat := s.rf 0x2000 8 8
def State.machEn (s : State) : Bool := s.rb 0x2000 0
def State.mainsEn (s : State) : Bool := s.rb 0x2000 1

/-- A domain is usable in LOCKED and HOLDOVER (R190). -/
def DomSt.usable : DomSt → Bool
  | .locked => true
  | .holdover => true
  | _ => false
/-- The code of a domain state (R190). -/
def DomSt.code : DomSt → Nat
  | .none => 0
  | .acquiring => 1
  | .locked => 2
  | .holdover => 3
  | .frozen => 4

/-- The machine counters advance on the flywheel (R190, R195). -/
def Mach.onFly (m : Mach) : Bool := !m.present && (m.st == .holdover || m.st == .frozen)

/-! ### The counters -/

/-- The machine counters move `n` ticks on, with turns of `len` ticks (R191). -/
def Mach.count (m : Mach) (len n : Nat) : Mach :=
  { m with tick := m.tick + BitVec.ofNat 48 n, tit := (m.tit + n) % len, turn := m.turn + BitVec.ofNat 32 ((m.tit + n) / len) }

/-- The machine counters at house tick `h`, with `e` real edges since the last command: input edges while MCLK is
present, one tick each P_est otherwise (R190, R195); the last 4,200 house ticks of counter values are kept. -/
def Mach.pass (m : Mach) (len : Nat) (h : DWord) (e : Nat) : Mach :=
  let m' :=
    if m.st = .none then m
    else if m.onFly then
      (match m.fly with
       | none => m
       | some f =>
         let total := (h - f).toNat * 65536 / (max m.pEst 1)
         { m.count len (total - m.flyDone) with flyDone := total })
    else if m.present then m.count len e
    else m
  { m' with markEdges := m'.markEdges + e
            hist := (h, m'.tit) :: m.hist.takeWhile (fun x => decide ((h - x.1).toNat ≤ 4200)) }

/-- Sum of the last four consistent mains periods: four times P_mains (R202). -/
def Mains.sum4 (m : Mains) : Nat := (m.periods.take 4).foldl (· + ·) 0

/-- The mains position at house tick `h`: the flywheel goes on at 2^16 / P_mains a tick in LOCKED, HOLDOVER and
FROZEN (R190, R202). -/
def Mains.at_ (m : Mains) (h : DWord) : BitVec 48 :=
  if (m.st.usable || m.st == .frozen) && m.sum4 != 0 then
    m.pos + BitVec.ofNat 48 ((h - m.posAt).toNat * 262144 / m.sum4)
  else m.pos

/-- One second of the 1588 clock in units of 2^-39 ns. -/
def todSecond : Nat := 1000000000 * 2 ^ 39

/-- The 1588 clock `dt` house ticks on: 2 ns × (1 + adj) each (R436). -/
def Tod.pass (t : Tod) (dt : Nat) : Tod :=
  let x := t.sub + ((dt : Int) * (2 ^ 40 + t.adj)).toNat
  { t with sec := t.sec + BitVec.ofNat 48 (x / todSecond), sub := x % todSecond }

/-- The nanoseconds of the 1588 clock (R436). -/
def Tod.ns (t : Tod) : Nat := t.sub / 2 ^ 39

/-- The mains position at house tick `t`, as far as the flywheel has run (R202). -/
def State.mainsPos (s : State) (t : DWord) : BitVec 48 := s.mains.at_ t

/-- The tick-in-turn at a recent house tick `t`, by the counter values kept (R137). -/
def State.titAt (s : State) (t : DWord) : Nat :=
  match s.mach.hist.find? (fun x => decide ((s.htick - x.1).toNat ≥ (s.htick - t).toNat)) with
  | some x =>
    let back := (t - x.1).toNat
    if back = 0 ∨ s.mach.pEst = 0 then x.2 else (x.2 + back * 65536 / s.mach.pEst) % s.turnLen
  | none =>
    if s.mach.pEst = 0 then s.mach.tit
    else
      let back := (s.htick - t).toNat * 65536 / s.mach.pEst % s.turnLen
      (s.mach.tit + s.turnLen - back) % s.turnLen

/-- Time passes (R45): `e.ticks` house ticks with `e.mclk` rising edges of MCLK. Causes latched for a frame-grid edge
act at it (R60), the counters and the 1588 clock move on, and what was noted of the present tick is forgotten. -/
def State.advance (s : State) (e : Elapse) : State :=
  let s :=
    if e.ticks = 0 then s
    else
      let h := s.htick + BitVec.ofNat 64 e.ticks
      let s := { s with snaps := [], tickSet := [], tickInc := [], tickOld := [], tickSwp := [], almOld := [] }
      let s := s.takeEdges e.ticks
      let snaps := s.snaps.filter (fun x => (s.ch x.1).transTs == h)
      { s with htick := h, snaps := snaps, tod := s.tod.pass e.ticks }
  { s with mach := s.mach.pass s.turnLen s.htick e.mclk }

/-! ### Flags -/

/-- The Phase block sets a flag of PHS_FLAGS, and raises its error line where R215 says so. -/
def State.phsFlag (s : State) (b : Nat) : State := s.flag 0x2010 b
def State.phsFault (s : State) (b : Nat) : State := (s.phsFlag b).report 0x401 b

/-! ### Alarms (R205 to R211) -/

def State.alarm (s : State) (i : Nat) : Alarm := Tbl.get {} s.alarms i
/-- An entry is stored; as it stood before this tick, it is kept for a firing in the same tick (R210). -/
def State.setAlarm (s : State) (i : Nat) (a : Alarm) : State := { s with alarms := Tbl.put s.alarms i a }
def Alarm.enabled (a : Alarm) : Bool := bit a.cfg 0
def Alarm.domain (a : Alarm) : Nat := bits a.cfg 1 2
def Alarm.periodic (a : Alarm) : Bool := bit a.cfg 3
def Alarm.line (a : Alarm) : Nat := bits a.cfg 4 6
def Alarm.div (a : Alarm) : Nat := bits a.cfg 16 16

/-- How far the counter of a one-shot alarm's domain is past its position, modulo the counter's width (R209). -/
def State.almPast (s : State) (a : Alarm) : Nat :=
  if a.domain = 0 then (s.mach.tick - a.val.setWidth 48).toNat
  else if a.domain = 1 then (s.mainsPos s.htick - a.val.setWidth 48).toNat
  else (s.htick - a.val).toNat

/-- The position of a one-shot alarm has passed (R209). -/
def State.almPassed (s : State) (a : Alarm) : Bool :=
  decide (s.almPast a < if a.domain = 2 then 2 ^ 63 else 2 ^ 47)

/-- The alarm's domain is usable; the internal domain always is (R208). -/
def State.almUsable (s : State) (a : Alarm) : Bool :=
  if a.domain = 0 then s.mach.st.usable else if a.domain = 1 then s.mains.st.usable else a.domain == 2

/-- An alarm is missed: no event, enable cleared, PHS_ALM_MISS, alm_missed and the error line (R209). -/
def State.almMiss (s : State) (i : Nat) : State :=
  let a := s.alarm i
  let s := s.setAlarm i { a with cfg := clrBit a.cfg 0, missed := true }
  (s.flag (0x2200 + 4 * (i / 32)) (i % 32)).phsFault 10

/-- Every enabled one-shot alarm of domain `d` whose position is `strict`ly passed is missed (R207 to R209). -/
def State.almSweep (s : State) (d : Nat) (strict : Bool) : State :=
  s.alarms.foldl (fun s e =>
    let a := e.2
    if a.enabled && !a.periodic && a.domain == d && s.almPassed a && (!strict || s.almPast a != 0) then s.almMiss e.1 else s) s

/-- The turn or cycle a periodic alarm of a machine or mains domain is in. -/
def State.almCycle (s : State) (a : Alarm) : Nat :=
  if a.domain = 0 then s.mach.turn.toNat else (s.mainsPos s.htick).toNat / 65536

/-- The position of a periodic machine or mains alarm in its turn or cycle is reached, with the residue met (R205). -/
def State.almReached (s : State) (a : Alarm) : Bool :=
  let lo := bits a.val 0 (if a.domain = 0 then 20 else 16)
  let now := if a.domain = 0 then s.mach.tit else (s.mainsPos s.htick).toNat % 65536
  (if a.domain = 0 then now == lo else decide (lo ≤ now))
    && a.div != 0 && s.almCycle a % a.div == bits a.val 32 16 && a.last != some (s.almCycle a)

/-- The index of the internal periodic firing due at this tick: VAL + m × PER (R205). -/
def State.almInternal (s : State) (a : Alarm) : Option Nat :=
  let d := (s.htick - a.val).toNat
  if a.per.toNat ≠ 0 ∧ d < 2 ^ 63 ∧ d % a.per.toNat = 0 then some (d / a.per.toNat) else none

/-- The event of an alarm line; alarms of one line in one tick make one event (R206). -/
def State.almEvent (s : State) (l : Nat) : State :=
  if s.launched.contains ⟨0x900 + l, s.htick⟩ then s else s.launch (0x900 + l)

/-- An alarm fires: event, count, and a one-shot clears its enable (R206, R207). -/
def State.almFire (s : State) (i : Nat) (a : Alarm) (last : Option Nat) : State :=
  let cur := s.alarm i
  let s :=
    if (Tbl.get none s.almOld i).isSome then s
    else s.setAlarm i { cur with cfg := if a.periodic then cur.cfg else clrBit cur.cfg 0
                                 fires := (cur.fires + 1) % 65536, last := if a.periodic then last else cur.last }
  s.almEvent a.line

/-- ALARM_FIRE (R205, R206, R210): the entry as it stood before the tick fires when its position is reached. -/
def State.almTry (s : State) (i : Nat) : State :=
  let a := match Tbl.get none s.almOld i with
    | some old => old
    | none => s.alarm i
  if !a.enabled || !s.almUsable a then s
  else if a.domain = 2 then
    (if a.periodic then
       (match s.almInternal a with
        | some m => if a.last = some m then s else s.almFire i a (some m)
        | none => s)
     else if s.htick = a.val then s.almFire i a none else s)
  else if a.periodic then (if s.almReached a then s.almFire i a (some (s.almCycle a)) else s)
  else if s.almPast a = 0 ∨ (a.domain = 1 ∧ s.almPassed a) then s.almFire i a none
  else s

/-- The flywheel fill passed the position of machine alarm `a` among its last `n` ticks (R207). -/
def State.almFilled (s : State) (a : Alarm) (n : Nat) : Bool :=
  if a.periodic then
    (let len := s.turnLen
     let lo := bits a.val 0 20
     let back := (s.mach.tit + len - lo) % len
     let turn := if lo ≤ s.mach.tit then s.mach.turn.toNat else (s.mach.turn - 1#32).toNat
     decide (lo < len) && decide (back < n) && a.div != 0 && turn % a.div == bits a.val 32 16 && a.last != some turn)
  else decide (s.almPast a < n)

/-- Machine alarms passed by a fill of `n` ticks fire at the fill tick, with alm_late (R207). -/
def State.almFill (s : State) (n : Nat) : State :=
  if !s.mach.st.usable then s
  else s.alarms.foldl (fun s e =>
    let a := e.2
    if a.enabled && a.domain == 0 && s.almFilled a n then (s.almFire e.1 a (some (s.almCycle a))).phsFault 11 else s) s

/-! ### The machine domain (R192 to R200) -/

/-- mach_lost: flag, count, event and error line of a loss (R197, R198). -/
def State.machLost (s : State) (tgt : DomSt) (cause : Nat) : State :=
  let m := s.mach
  let s := { s with mach := { m with st := tgt, cause := cause, holdAt := s.htick, holdMs := s.rf 0x2008 0 16, marked := false, run := 0 } }
  let s := if tgt = .holdover then s.incSat 0x2014 0 8 else s
  (s.phsFault 0).launch 0x943

/-- P_est: the mean period of the turns kept, rounded to the nearest 2^-16 tick (R195). -/
def pMean (turns : List (Nat × Nat)) : Nat :=
  let h := turns.foldl (fun n t => n + t.1) 0
  let e := turns.foldl (fun n t => n + t.2) 0
  (2 * h * 65536 + e) / (2 * max e 1)

/-- The turn that ends now is consistent (R193). -/
def State.turnOk (s : State) : Bool :=
  let m := s.mach
  let len := s.turnLen
  let h := (s.htick - m.markAt).toNat
  m.marked && !m.markGap && decide (m.markEdges ≤ len + s.markTol) && decide (len ≤ m.markEdges + s.markTol)
    && (if m.st = .acquiring then decide (h ≤ 50 * len) && decide (25 * len ≤ 4 * h)
        else decide (1000 * h * 65536 ≤ 1001 * len * m.pEst) && decide (999 * len * m.pEst ≤ 1000 * h * 65536))

/-- A consistent turn is added: run and, outside acquisition, P_est (R195). -/
def State.turnAdd (s : State) : State :=
  let m := s.mach
  let t := ((s.htick - m.markAt).toNat, m.markEdges) :: (if m.run = 0 && m.st == .acquiring then [] else m.turns)
  let t := t.take 16
  { s with mach := { m with run := m.run + 1, turns := t, pEst := if m.st = .locked then pMean t else m.pEst } }

/-- With auto_len, four equal spacings in a row load turn_len (R193). -/
def State.autoTurn (s : State) : State :=
  let m := s.mach
  let same := match m.turns with
    | t :: _ => m.run != 0 && t.2 == m.markEdges
    | [] => false
  let ok := m.marked && !m.markGap && decide (m.markEdges ≤ 2 ^ 20) && decide (16 ≤ m.markEdges)
  let n := if !ok then 0 else if same then m.run + 1 else 1
  let t := if !ok then [] else ((s.htick - m.markAt).toNat, m.markEdges) :: (if same then m.turns else [])
  let s := { s with mach := { m with run := n, turns := t.take 16 } }
  if n = 4 then
    (let s := s.wf 0x2004 0 20 (m.markEdges - 1)
     { s with mach := { s.mach with tit := 0 } })
  else s

/-- The next turn is measured from this MARK. -/
def State.markStart (s : State) : State :=
  { s with mach := { s.mach with marked := true, markEdges := 0, markAt := s.htick, markGap := !s.mach.present } }

/-- The domain locks: event, and alarms of the domain whose position has passed are missed (R197, R208). -/
def State.machLock (s : State) : State :=
  let s := { s with mach := { s.mach with st := .locked, pEst := pMean s.mach.turns } }
  s.launch 0x942

/-- The relock step of R199 at this MARK. -/
def State.machRelock (s : State) : State :=
  let m := s.mach
  let len := s.turnLen
  let step : Int := if 2 * m.tit < len then -(m.tit : Int) else (len : Int) - m.tit
  let s := { s with mach := { m with tick := m.tick + BitVec.ofInt 48 step, tit := 0,
                                     turn := if 2 * m.tit < len then m.turn else m.turn + 1#32 } }
  let s := { s with mach := { s.mach with goodAt := s.mach.tick } }
  let sat := max (-8388607) (min 8388607 step)
  let s := s.wf 0x2018 0 24 (BitVec.ofInt 24 sat).toNat
  let s := s.phsFlag 2
  let s := if step.natAbs > s.stepTol then s.phsFault 8 else s
  s.machLock.almSweep 0 true

/-- An armed load acts at a good MARK in LOCKED (R200). -/
def State.machLoad (s : State) : State :=
  let m := s.mach
  let due := match m.load with
    | .off => false
    | .nextMark => true
    | .afterSec => decide ((s.rd64 0x2054).toNat % 2 ^ 48 ≤ s.tod.sec.toNat)
  if due then
    (let tick := (s.rd64 0x2048).setWidth 48
     let s := { s with mach := { m with tick := tick, turn := s.rd 0x2050, tit := 0, load := .off, goodAt := tick } }
     (s.phsFlag 9).almSweep 0 true)
  else s

/-- The MARK capture group (R212). -/
def State.markCapture (s : State) : State :=
  ((s.wr64 0x20C0 s.htick).wr64 0x20C8 (s.mach.tick.setWidth 64)).wr 0x20D0 s.mach.turn

/-- A MARK in LOCKED is good or bad (R192): good records its offset and counts as a turn; bad is flagged and otherwise
ignored. -/
def State.markLocked (s : State) : State :=
  let m := s.mach
  let len := s.turnLen
  let tol := s.markTol
  let err : Option Int := if m.tit ≤ tol then some m.tit else if len - m.tit ≤ tol then some ((m.tit : Int) - len) else none
  match err with
  | none => (s.incSat 0x2014 16 16).phsFault 6
  | some d =>
    let s := s.wf 0x2018 24 8 (BitVec.ofInt 8 d).toNat
    let s := s.launch 0x940
    let s := if s.turnOk then s.turnAdd else { s with mach := { s.mach with run := 0 } }
    let s := { s with mach := { s.mach with goodAt := s.mach.tick - BitVec.ofInt 48 d } }
    s.markStart.machLoad

/-- MARK_ACCEPTED, with its capture left to the caller (R192, R193, R197, R199). -/
def State.markIn (s : State) : State :=
  match s.mach.st with
  | .none =>
    if s.machEn && s.mach.present then
      { s with mach := { s.mach with st := .acquiring, tit := 0, run := 0, turns := [] } }.markStart
    else s
  | .acquiring =>
    if s.rb 0x2000 2 then
      (let s := s.autoTurn.markStart
       if s.mach.run = 4 then
         { s with mach := { s.mach with goodAt := s.mach.tick } }.machLock.almSweep 0 true
       else s)
    else
      (let s := if s.turnOk then s.turnAdd else { s with mach := { s.mach with run := 0 } }
       let s := s.markStart
       if s.mach.run = 4 then
         (let off : Int := if 2 * s.mach.tit < s.turnLen then s.mach.tit else (s.mach.tit : Int) - s.turnLen
          { s with mach := { s.mach with goodAt := s.mach.tick - BitVec.ofInt 48 off } }.machLock.almSweep 0 true)
       else s)
  | .locked => s.markLocked
  | _ =>
    let s := if s.turnOk then s.turnAdd else { s with mach := { s.mach with run := 0 } }
    let s := s.markStart
    if s.mach.run = 4 then s.machRelock else s

/-- MCLK is declared missing (R194, R195): the flywheel fills the ticks missed since the last edge, and a machine
domain in ACQUIRING or LOCKED is lost (R197, R198). -/
def State.mclkGone (s : State) : State :=
  let m := s.mach
  let gap := if m.pEst = 0 then 400 else 8 * m.pEst / 65536
  let was := m.st
  let s := { s with mach := { m with present := false, markGap := true } }
  if was = .acquiring then s.machLost .none 2
  else if was = .locked ∨ was = .holdover ∨ was = .frozen then
    (let edge := s.htick - BitVec.ofNat 64 gap
     let n := (gap * 65536 - 1) / (max m.pEst 1)
     let late := decide ((m.tick - m.goodAt).toNat ≥ 2 * s.turnLen + s.markTol)
     let s := { s with mach := { s.mach.count s.turnLen n with fly := some edge, flyDone := n, fillAt := some s.htick, fillN := n } }
     let s := if was = .locked then s.machLost .holdover (if late then 3 else 2) else s
     s.almFill n)
  else s

/-- MCLK is present again (R194): the counters follow real edges from this one on, without a step. -/
def State.mclkBack (s : State) : State :=
  { s with mach := { s.mach with present := true, fly := none, flyDone := 0 } }

/-- Loss by MARK is due: two turns and the tolerance have passed since the last good wrap (R198). -/
def State.markLossDue (s : State) : Bool :=
  s.mach.st == .locked && decide ((s.mach.tick - s.mach.goodAt).toNat ≥ 2 * s.turnLen + s.markTol)

/-- The machine domain is switched off (R197). -/
def State.machOff (s : State) : State :=
  { s with mach := { s.mach with st := .none, marked := false, run := 0, fly := none, flyDone := 0 } }

/-! ### The mains domain (R202 to R204) -/

/-- mains_lost: flag, count, event and error line (R204). -/
def State.mainsLost (s : State) (tgt : DomSt) : State :=
  let s := { s with mains := { s.mains with st := tgt, pos := s.mainsPos s.htick, posAt := s.htick, holdAt := s.htick, holdMs := s.rf 0x2008 16 16, run := 0 } }
  let s := if tgt = .holdover then s.incSat 0x2014 8 8 else s
  (s.phsFault 3).launch 0x946

/-- The mains step (R203): phase to 0, on the nearer cycle boundary; its signed change is recorded. -/
def State.mainsStep (s : State) : State :=
  let p := s.mainsPos s.htick
  let ph := p.toNat % 65536
  let up := decide (32768 ≤ ph)
  let step : Int := if up then min 32767 (65536 - (ph : Int)) else -(ph : Int)
  let p' := BitVec.ofNat 48 ((p.toNat / 65536 + (if up then 1 else 0)) * 65536)
  let s := { s with mains := { s.mains with pos := p', posAt := s.htick, goodCyc := p'.toNat / 65536 } }
  s.wf 0x201C 0 16 (BitVec.ofInt 16 step).toNat

/-- The domain locks (R197, R204). -/
def State.mainsLock (s : State) : State :=
  { s with mains := { s.mains with st := .locked } }.launch 0x945

/-- A period within 15.385 ms to 22.222 ms (R202). -/
def perOk (p : Nat) : Bool := decide (7692500 ≤ p) && decide (p ≤ 11111000)

/-- MAINS_EDGE: an edge at least 4 ms after the one before it (R202 to R204). -/
def State.mainsEdgeIn (s : State) : State :=
  let m := s.mains
  let per := s.since m.edgeAt
  if !s.mainsEn || (m.edged && decide (per < 2000000)) then s
  else
    let cons := m.edged && perOk per && m.lastPer != 0 && decide (99 * m.lastPer ≤ 100 * per) && decide (100 * per ≤ 101 * m.lastPer)
    let book (s : State) : State :=
      { s with mains := { s.mains with edged := true, edgeAt := s.htick, lastPer := if m.edged then per else 0,
                                       run := if cons then m.run + 1 else 0,
                                       periods := if cons then (per :: m.periods).take 4 else m.periods } }
    match m.st with
    | .none =>
      let s := { s with mains := { m with st := .acquiring, pos := BitVec.ofNat 48 (m.pos.toNat / 65536 * 65536), posAt := s.htick,
                                          run := 0, periods := [], edged := true, edgeAt := s.htick, lastPer := 0 } }
      s
    | .acquiring =>
      let s := book s
      let s := { s with mains := { s.mains with pos := BitVec.ofNat 48 ((m.pos.toNat / 65536 + 1) * 65536), posAt := s.htick } }
      if s.mains.run = 4 then
        { s with mains := { s.mains with goodCyc := s.mains.pos.toNat / 65536 } }.mainsLock.almSweep 1 true
      else s
    | .locked =>
      let ph := (s.mainsPos s.htick).toNat % 65536
      let good := decide (ph ≤ 0xCCC) || decide (65536 - 0xCCC ≤ ph)
      let s := if good then (s.mainsStep.launch 0x941).almSweep 1 true else s.phsFault 7
      let s := { s with mains := { s.mains with pos := s.mainsPos s.htick, posAt := s.htick } }
      let s := book s
      if perOk per then s else s.mainsLost .holdover
    | _ =>
      let s := { s with mains := { s.mains with pos := s.mainsPos s.htick, posAt := s.htick } }
      let s := book s
      if s.mains.run = 4 then (s.mainsStep.phsFlag 5).mainsLock.almSweep 1 true else s

/-- Two cycles have passed without a good edge (R204). -/
def State.mainsLossDue (s : State) : Bool :=
  s.mains.st == .locked && decide ((s.mainsPos s.htick).toNat ≥ (s.mains.goodCyc + 2) * 65536 + 0xCCC)

/-- The snapshot group (R212). -/
def State.snapshot (s : State) : State :=
  let s := (s.wr64 0x2080 s.htick).wr64 0x2088 (s.mach.tick.setWidth 64)
  let s := s.wr 0x2090 s.mach.turn
  let s := s.wr 0x2094 (BitVec.ofNat 32 (s.mach.tit + 2 ^ 24 * ((s.rf 0x2094 24 8 + 1) % 256)))
  let p := s.mainsPos s.htick
  let s := (s.wr 0x2098 (BitVec.ofNat 32 (p.toNat / 65536))).wr 0x209C (BitVec.ofNat 32 (p.toNat % 65536))
  (s.wr64 0x20A0 (s.tod.sec.setWidth 64)).wr 0x20A8 (BitVec.ofNat 32 s.tod.ns)

end Sys2Proof.Machine
end

