-- ==== Sys2Proof/Machine/History.lean ====
section
/-!
DEFINITION. The history buffer of the Cellar (R459): entries that the other blocks make.
-/

namespace Sys2Proof.Machine

/-- A flag of CEL_FLAGS, and one with the Cellar's error line (R465). -/
def State.celFlag (s : State) (i : Nat) : State := s.flag (CEL + 8) i
def State.celFault (s : State) (i : Nat) : State := (s.celFlag i).report 0x408 i

/-- The 32 bytes of a history entry (R459). -/
def State.histEntry (s : State) (kind cls num cause arg : Nat) : List Byte :=
  let b := leBytes 8 s.htick.toNat ++ leBytes 6 s.tod.sec.toNat ++ leBytes 2 s.cel.boot ++ leBytes 1 kind ++ leBytes 1 cls
    ++ leBytes 2 num ++ leBytes 1 cause ++ leBytes 3 arg ++ leBytes 4 (s.rd (CEL + 0x30)).toNat
  b ++ leBytes 4 (crc32c b).toNat

/-- An entry is buffered, or dropped and counted when 256 are there (R459). -/
def State.history (s : State) (kind cls num cause arg : Nat) : State :=
  if s.cel.hist.length < 256 then
    let e := s.histEntry kind cls num cause arg
    let s := s.wr (CEL + 0x30) (s.rd (CEL + 0x30) + 1)
    let first := s.cel.hist.isEmpty
    let secs := if first then s.rf (CEL + 0x40) 0 8 else s.cel.histSecs
    { s with cel := { s.cel with hist := s.cel.hist ++ [e], histAt := if first then s.htick else s.cel.histAt, histSecs := secs } }
  else { s.celFault 6 with cel := { s.cel with histLost := s.cel.histLost + 1 } }

end Sys2Proof.Machine
end

