-- ==== Sys2Proof/Machine/Pantry.lean ====
section
/-!
DEFINITION. Pantry banks and Chutes (chapter 12): words with their check bits, owners, rows and banks out of service,
pushes, pops and flushes.
-/

namespace Sys2Proof.Machine

/-! ### Banks -/

/-- The key of a bank register at offset `o` of the PAN block (R382). -/
def bkA (b o : Nat) : Nat := 0x10080000000 + b * 0x100 + o

def State.bank (s : State) (b : Nat) : Bank := Tbl.get {} s.banks b
def State.setBank (s : State) (b : Nat) (x : Bank) : State := { s with banks := Tbl.put s.banks b x }
def State.modBank (s : State) (b : Nat) (f : Bank → Bank) : State := s.setBank b (f (s.bank b))

/-- Owner code of a bank (R361). -/
def State.owner (s : State) (b : Nat) : Nat := s.rf (PAN + 4 * (b / 8)) (4 * (b % 8)) 3
/-- The owner of a bank is acknowledged (R363). -/
def State.ownAck (s : State) (b : Nat) : Bool := s.rb (PAN + 0x20 + 4 * (b / 32)) (b % 32)

/-- A bank sets a flag of PAN_BANK_FLAGS and raises its error line (R381). -/
def State.bankFlag (s : State) (b i : Nat) : State := s.flag (bkA b 0x068) i
def State.bankFault (s : State) (b i : Nat) : State := (s.bankFlag b i).report (0x240 + b) i
/-- The arbiter sets a flag of PAN_FLAGS and raises its error line (R381). -/
def State.arbFault (s : State) (i : Nat) : State := (s.flag (PAN + 0x030) i).report 0x280 i

/-- The two spare banks not in use (R368). -/
def State.sparesFree (s : State) : List Nat :=
  [64, 65].filter (fun p => !s.banks.any (fun e => e.2.onSpare == some p || e.2.mig == some p))

/-- A row needs a spare row: its copy starts or waits, or no spare is free (R367). -/
def State.rowRemap (s : State) (b row : Nat) : State :=
  let k := s.bank b
  if k.remap.contains row then s
  else if k.rows.length + k.remap.length < 4 then s.setBank b { k with remap := k.remap ++ [row] }
  else s.bankFault b 3

/-- The bank is migrated to a free spare bank (R368). -/
def State.migrate (s : State) (b p : Nat) : State := s.modBank b (fun k => { k with mig := some p })

/-! ### Words -/

/-- The byte offset of word `i` of bank `b` (R357). -/
def panAt (b i : Nat) : Nat := b * 0x80000 + 8 * (i % 65536)

/-- The stored data of a word. -/
def State.panWord (s : State) (b i : Nat) : DWord := BitVec.ofNat 64 (leNat (Mem.bytes s.pan (panAt b i) 8))
def State.poisoned (s : State) (b i : Nat) : Bool := Tbl.get false s.poison (b * 65536 + i % 65536)

/-- A word is written with valid check bits and is no longer poisoned (R358, R359); into a withdrawn bank nothing is
written (R368). -/
def State.panPut (s : State) (b i : Nat) (v : DWord) : State :=
  if (s.bank b).withdrawn then s.arbFault 2
  else { s with pan := Mem.putBytes s.pan (panAt b i) (leBytes 8 v.toNat)
                poison := s.poison.filter (fun e => e.1 != b * 65536 + i % 65536) }

/-- An access reaches a region that the online BIST has borrowed: the borrow ends and the access is delayed (R371). -/
def State.panTouch (s : State) (b i : Nat) : State :=
  match s.borrow with
  | none => s
  | some w =>
    if s.since w.start ≥ 768 then { s with borrow := none }
    else if w.bank = b ∧ w.region = i / 64 then
      (({ s.modBank b (fun k => { k with region := w.region }) with borrow := none }).incSat (bkA b 0x070) 0 16).bankFlag b 5
    else s

/-- The check of a word at a read, with what the check bits show (R359): corrected, or poisoned. A double-bit
correction or a poisoned word has its row remapped (R367). -/
def State.eccCheck (s : State) (b i : Nat) (e : Ecc) : State :=
  if s.poisoned b i then s
  else
    match e with
    | .clean => s
    | .single => s.incSat (bkA b 0x06C) 0 16
    | .double => ((s.bankFault b 0).incSat (bkA b 0x06C) 16 8).rowRemap b (i / 256)
    | .more =>
      let s := { s with poison := Tbl.put s.poison (b * 65536 + i % 65536) true }
      let s := (s.bankFault b 1).incSat (bkA b 0x06C) 24 8
      (s.wf (bkA b 0x074) 0 16 i).rowRemap b (i / 256)

/-- All ones, what a poisoned word delivers (R359). -/
def allOnes : DWord := 0xFFFFFFFFFFFFFFFF#64

/-- A word is read: the data, and whether it carries the poison mark (R359, R368). -/
def State.panRead (s : State) (b i : Nat) (e : Ecc) : State × DWord × Bool :=
  if (s.bank b).withdrawn then (s.arbFault 2, allOnes, true)
  else
    let s := (s.panTouch b i).eccCheck b i e
    if s.poisoned b i then (s, allOnes, true) else (s, s.panWord b i, false)

/-- A unit that is not the bank's owner starts an access: it is refused (R362). -/
def State.ownViol (s : State) (code b : Nat) : State :=
  ((s.wr (PAN + 0x038) (BitVec.ofNat 32 (code + 256 * b))).incSat (PAN + 0x03C) 16 16).arbFault 1

/-- Words of a bank read by a unit with owner code `code`; none where it is refused. -/
def State.unitRead (s : State) (code b i : Nat) : State × Option (DWord × Bool) :=
  if s.owner b = code then
    (let r := s.panRead b i .clean
     (r.1, some r.2))
  else (s.ownViol code b, none)

/-- A unit with owner code `code` writes a word. -/
def State.unitWrite (s : State) (code b i : Nat) (v : DWord) : State :=
  if s.owner b = code then (s.panTouch b i).panPut b i v else s.ownViol code b

/-- `n` words from word `i` of bank `b` on, as stored, a poisoned word as all ones; used by checks that read whole
images. -/
def State.panWords (s : State) (b i : Nat) : Nat → List DWord
  | 0 => []
  | n + 1 => (if s.poisoned b i then allOnes else s.panWord b i) :: State.panWords s b (i + 1) n

/-- `n` bytes from byte `o` of bank `b` on, into the banks that follow; bytes of poisoned words read as ones. -/
def State.panBytes (s : State) (b o n : Nat) : List Byte :=
  if s.poison.isEmpty then Mem.bytes s.pan (b * 0x80000 + o) n
  else (rangeFrom (b * 0x80000 + o) n).map (fun a =>
    if s.poisoned (a / 0x80000) (a % 0x80000 / 8) then 0xFF#8 else Mem.get s.pan a)

/-! ### Chutes -/

def State.chute (s : State) (c : Nat) : Chute := Tbl.get {} s.chutes c
def State.setChute (s : State) (c : Nat) (x : Chute) : State := { s with chutes := Tbl.put s.chutes c x }
/-- Depth of a Chute in words; 0 when it is not configured (R372). -/
def State.chuDepth (s : State) (c : Nat) : Nat :=
  let d := s.rf (chuA c 0) 0 5
  if d = 0 then 0 else 2 ^ d
def State.chuBank (s : State) (c : Nat) : Nat := s.rf (chuA c 0) 8 6
def State.chuBase (s : State) (c : Nat) : Nat := s.rf (chuA c 0) 16 16
def State.chuGen (s : State) (c : Nat) : Nat := s.rf (chuA c 0x18) 0 16
/-- The level of a Chute (R372). -/
def Chute.level (x : Chute) : Nat := (x.w - x.r).toNat
def State.chuLevel (s : State) (c : Nat) : Nat := (s.chute c).level
/-- Free words of a Chute. -/
def State.chuFree (s : State) (c : Nat) : Nat := s.chuDepth c - s.chuLevel c
/-- A Chute sets a flag of CHU_FLAGS and raises its error line (R381). -/
def State.chuFault (s : State) (c i : Nat) : State := (s.flag (chuA c 0x14) i).report (0x300 + c) i

/-- The record of the Chute for the present tick: the level at its start, and what has happened in it (R374). -/
def State.chuTick (s : State) (c : Nat) : Chute :=
  let x := s.chute c
  if x.tk = s.htick then x
  else { x with tk := s.htick, lvl0 := x.level, w0 := x.w, pushed := none, popped := none, ovf := none, flush := false }

/-- The stale timer follows the level (R380): it starts when the Chute becomes non-empty, with the setting
`us` (R214), and stops when it is empty. -/
def Chute.timer (x : Chute) (h : DWord) (us was : Nat) : Chute :=
  if x.level = 0 then { x with stale := none }
  else if was = 0 then { x with stale := some h, staleUs := us }
  else x

/-- A word is written at `w` and `w` advances (R374, R375). -/
def State.chuStore (s : State) (c : Nat) (x : Chute) (v : DWord) : State :=
  let b := s.chuBank c
  let i := s.chuBase c + x.w.toNat % s.chuDepth c
  let s := s.unitWrite 5 b i v
  let k := s.bank b
  let used := match k.postEnd with
    | none => 0
    | some e => if (e - s.htick).toNat < 2 ^ 63 then (e - s.htick).toNat else 0
  let s := s.setBank b { k with postEnd := some (s.htick + BitVec.ofNat 64 (used + 1)) }
  s.setChute c ({ x with w := x.w + 1#17, w2 := x.w + 1#17 }.timer s.htick (s.rf (chuA c 4) 0 24) x.level)

/-- A push is dropped as an overflow (R374). -/
def State.chuOvf (s : State) (c : Nat) (x : Chute) (v : DWord) : State :=
  let was := s.rb (chuA c 0x14) 0
  let s := s.setChute c { x with ovf := some (v, was) }
  (s.incSat (chuA c 0x1C) 0 16).chuFault c 0

/-- The posting buffer of the Chute's bank is full (R375). -/
def State.postFull (s : State) (c : Nat) : Bool :=
  match (s.bank (s.chuBank c)).postEnd with
  | none => false
  | some e => decide ((e - s.htick).toNat < 2 ^ 63) && decide (1024 ≤ (e - s.htick).toNat)

/-- Unit `u` pushes a word into Chute `c` (R373 to R376); the flag says that the push was taken. Further words that one
unit pushes in one command stand for pushes in the ticks that follow (R143). -/
def State.chuPush (s : State) (c u : Nat) (v : DWord) : State × Bool :=
  let x := s.chuTick c
  if x.flush then (s.setChute c { x with pushed := some u }, s.chuDepth c != 0)
  else
    match (if x.pushed = some u then none else x.pushed) with
    | some u0 =>
      let s := s.chuFault c 4
      if u < u0 ∧ x.ovf.isNone then
        (let b := s.chuBank c
         let i := s.chuBase c + (x.w - 1#17).toNat % (max (s.chuDepth c) 1)
         ((s.unitWrite 5 b i v).setChute c { x with pushed := some u }, true))
      else (s, false)
    | none =>
      let x := { x with pushed := some u }
      if s.chuDepth c = 0 then (s.chuOvf c x v, false)
      else if x.level ≥ s.chuDepth c then (s.chuOvf c x v, false)
      else if s.postFull c then ((s.chuOvf c { x with ovf := none } v).arbFault 3, false)
      else (s.chuStore c x v, true)

/-- The word that found the Chute full is stored after all, because a pop acts in the same tick (R374). -/
def State.chuUndoOvf (s : State) (c : Nat) (x : Chute) : State :=
  match x.ovf with
  | none => s.setChute c x
  | some (v, was) =>
    let s := s.wf (chuA c 0x1C) 0 16 (s.rf (chuA c 0x1C) 0 16 - 1)
    let s := if was then s else
      { s.wb (chuA c 0x14) 0 false with reports := s.reports.filter (fun r => !(r.at_ == s.htick && r.source == 0x300 + c && r.cause == 0)) }
    s.chuStore c { x with ovf := none } v

/-- Unit `u` pops Chute `c` (R373, R374, R378, R380): the word delivered, with its poison mark, or nothing. -/
def State.chuPop (s : State) (c u : Nat) (e : Ecc) : State × Option (DWord × Bool) :=
  let x := s.chuTick c
  if x.flush then (s.setChute c { x with popped := some u }, none)
  else if x.popped.isSome then (s.chuFault c 5, none)
  else
    let x := { x with popped := some u }
    if x.lvl0 = 0 ∨ s.chuDepth c = 0 then (((s.setChute c x).incSat (chuA c 0x1C) 16 16).chuFault c 1, none)
    else
      let b := s.chuBank c
      let i := s.chuBase c + x.r.toNat % s.chuDepth c
      let y := { x with r := x.r + 1#17, r2 := x.r + 1#17, staleLive := false }
      let y := if y.level = 0 then { y with stale := none } else { y with stale := some s.htick, staleUs := s.rf (chuA c 4) 0 24 }
      let s := s.chuUndoOvf c y
      if s.owner b = 5 then
        (let rd := s.panRead b i e
         let s := if rd.2.2 then rd.1.chuFault c 6 else rd.1
         (s, some rd.2))
      else (s.ownViol 5 b, some (allOnes, true))

/-- Chute `c` is flushed (R376): every stored word and, where `back` says so, the words pushed in this tick are
discarded; gen advances, flushed is set. -/
def State.chuFlush (s : State) (c : Nat) (back : Bool) : State :=
  let x := s.chuTick c
  let w := if back then x.w0 else x.w
  let s := s.setChute c { x with w := w, r := w, r2 := w, w2 := w, stale := none, staleLive := false, flush := true, ovf := none }
  let s := s.wf (chuA c 0x18) 0 16 (s.chuGen c + 1)
  s.flag (chuA c 0x14) 7

end Sys2Proof.Machine
end

