-- ==== Sys2Proof/Machine/Hearth.lean ====
section
/-!
DEFINITION. Hearth (chapter 10): sources and groups, counting and classes, records, the status word, injection and
release.
-/

namespace Sys2Proof.Machine

/-! ### Sources and groups (R304) -/

/-- The group of a source; none for a reserved number. -/
def srcGroup (k : Nat) : Option Nat :=
  if k < 0x80 then some (k / 16)
  else if k < 0x88 then some (k - 0x80)
  else if 0x100 ≤ k ∧ k < 0x210 then some 8
  else if k = 0x210 then some 9
  else if 0x240 ≤ k ∧ k ≤ 0x280 then some 10
  else if 0x300 ≤ k ∧ k < 0x400 then some 11
  else if 0x400 ≤ k ∧ k ≤ 0x408 then some (k - 0x400 + 12)
  else if 0x410 ≤ k ∧ k < 0x420 then some 21
  else if 0x420 ≤ k ∧ k ≤ 0x425 then some (k - 0x420 + 22)
  else none

/-- The source has a fence action. -/
def srcFences (k : Nat) : Bool :=
  decide (k < 0x80) || (decide (0x100 ≤ k) && decide (k < 0x210)) || (decide (0x240 ≤ k) && decide (k < 0x280))
    || k == 0x402 || k == 0x403 || (decide (0x405 ≤ k) && decide (k ≤ 0x408)) || (decide (0x410 ≤ k) && decide (k ≤ 0x421))

/-- How Grave is left: by host release, or by a device reset. -/
def srcHostRelease (k : Nat) : Bool :=
  (srcGroup k).isSome && !(decide (k < 0x80)) && !(decide (0x100 ≤ k) && decide (k < 0x210))
    && !(decide (0x240 ≤ k) && decide (k < 0x280)) && k != 0x403 && !(decide (0x405 ≤ k) && decide (k ≤ 0x408)) && k != 0x425
def srcResetRelease (k : Nat) : Bool := k == 0x403 || (decide (0x405 ≤ k) && decide (k ≤ 0x408)) || k == 0x425

/-- The wing of a source whose unit belongs to a wing (R39, R313). -/
def srcWing (k : Nat) : Option Nat :=
  if k < 0x80 then some (k / 16)
  else if k < 0x88 then some (k - 0x80)
  else if 0x100 ≤ k ∧ k < 0x200 then some ((k - 0x100) / 32)
  else if 0x200 ≤ k ∧ k < 0x210 then some ((k - 0x200) / 2)
  else none

def State.src (s : State) (k : Nat) : Src := Tbl.get {} s.srcs k
def State.setSrc (s : State) (k : Nat) (x : Src) : State := { s with srcs := Tbl.put s.srcs k x }

/-- The unit of a source has taken its fence. -/
def State.unitFenced (s : State) (k : Nat) : Bool := s.fencedUnits.contains k
/-- The unit of a source takes its fence event (R304, R313). -/
def State.takeFence (s : State) (k : Nat) : State :=
  { s with fences := s.fences.filter (fun u => u != k), fencedUnits := k :: s.fencedUnits.filter (fun u => u != k) }

/-- The mode code of a wing (R483): 0 SAFE, 1 STANDBY, 2 BIAS, 3 SWEEP, 4 CALIBRATE, 5 SERVICE. -/
def State.wingMode (s : State) (w : Nat) : Nat := s.rf 0x034 (3 * w) 3
def State.allService (s : State) : Bool := (rangeFrom 0 8).all (fun w => s.wingMode w == 5)
def State.anyService (s : State) : Bool := (rangeFrom 0 8).any (fun w => s.wingMode w == 5)

/-! ### Counting and classes (R310 to R313) -/

/-- The group bit is set and HRT_CLASS follows (R319, R321). -/
def State.groupSet (s : State) (k cls : Nat) : State :=
  match srcGroup k with
  | none => s
  | some g =>
    let a := if g < 16 then 0x1020 else 0x1024
    let old := if s.rb 0x1000 g then s.rf a (2 * (g % 16)) 2 else 0
    (s.wf a (2 * (g % 16)) 2 (max old cls)).flag 0x1000 g

/-- A source enters Grave: its reaction fences the unit and may request SAFE (R313). -/
def State.graveEntry (s : State) (k : Nat) : State :=
  let x := s.src k
  let fence := decide (1 ≤ x.cfg.react) && srcFences k
  let s := s.setSrc k { x with grave := true, win := none, fenced := x.fenced || fence }
  let s := (s.launch 0xB11).history 2 3 k x.last 0
  let s := if fence then
      { s with fences := s.fences ++ [k], hrtQueue := s.hrtQueue.map (fun r => if r.src = k then { r with fenced := true } else r) }
    else s
  if 2 ≤ x.cfg.react then
    let wings : BitVec 8 := match srcWing k with
      | some w => BitVec.ofNat 8 (2 ^ w)
      | none => 0xFF#8
    { s with safeReqs := s.safeReqs ++ [⟨wings, x.cfg.react == 3⟩] }
  else s

/-- A report is put on the record path, or merged into the one pending for its source (R309, R314). -/
def pendAdd (p : PendRep) : List PendRep → List PendRep
  | [] => [p]
  | q :: t =>
    if q.src = p.src then
      { q with cN := p.cN, tN := p.tN, n := q.n + 1, cls := max q.cls p.cls, real := q.real || p.real, inj := q.inj || p.inj } :: t
    else if q.t1 = p.t1 ∧ p.src < q.src ∧ !(t.any (fun x => x.src = p.src)) then p :: q :: t
    else q :: pendAdd p t

/-- A second report of one tick joins the first (R307, R323): one count, the real or the lowest cause, both latches. -/
def State.joinReport (s : State) (k cause : Nat) (real : Bool) : State :=
  let x := s.src k
  let c := if real && !x.real then cause else if real then min x.last cause else x.last
  let s := s.setSrc k { x with real := x.real || real, inj := x.inj || !real, last := c }
  { s with pendReps := s.pendReps.map (fun q =>
      if q.src = k then { q with cN := c, c1 := if q.n = 1 then c else q.c1, real := q.real || real, inj := q.inj || !real } else q) }

/-- A report arrives (R309 to R311): counting path, class, group bit, record path. -/
def State.hearthReport (s : State) (k cause : Nat) (real : Bool) : State :=
  let x := s.src k
  if (srcGroup k).isNone then s
  else if x.lastAt = some s.htick then s.joinReport k cause real
  else
    let cfg := match x.prev with
      | some (t, c) => if t = s.htick then c else x.cfg
      | none => x.cfg
    let x := { x with occ := min (x.occ + 1) 65535, last := cause, lastAt := some s.htick,
                      real := x.real || real, inj := x.inj || !real }
    if cfg.cls = 0 then s.setSrc k x
    else
      let expired := match x.win with
        | some t => decide (s.since t ≥ cfg.w * 500)
        | none => true
      let count := if expired then 1 else min (x.count + 1) 255
      let grave := x.grave || cfg.cls == 3 || decide (count ≥ cfg.n)
      let s :=
        if x.grave then s.setSrc k x
        else if grave then (s.setSrc k { x with count := count, win := none }).graveEntry k
        else s.setSrc k { x with count := count, win := if expired then some s.htick else x.win }
      let cls := if grave then 3 else cfg.cls
      let s := s.groupSet k cls
      { s with pendReps := pendAdd ⟨k, cause, cause, s.htick, s.htick, 1, cls, real, !real⟩ s.pendReps }

/-! ### Records (R314 to R318) -/

/-- A record for a pending report opens at the tail of the queue. -/
def State.openRec (s : State) (p : PendRep) : State :=
  { s with hrtQueue := s.hrtQueue ++ [(⟨p.src, p.c1, p.cN, min (p.n - 1) 65535, p.t1, p.tN, p.cls, p.real, p.inj, (s.src p.src).fenced, none⟩ : HrtRec)] }.launch 0xB10

/-- The report merges into the open record of its source (R314). -/
def HrtRec.merge (r : HrtRec) (p : PendRep) (t : DWord) : HrtRec :=
  { r with cN := p.cN, tN := p.tN, merges := min (r.merges + p.n) 65535, cls := max r.cls p.cls,
           real := r.real || p.real, inj := r.inj || p.inj, merged := some (t, p) }

/-- The first-error and last-error registers take a report served (R317). -/
def State.firstLast (s : State) (p : PendRep) : State :=
  let w (c : Nat) := p.src + c * 2 ^ 11 + p.cls * 2 ^ 19
  let s := if s.rb 0x1060 21 then s
    else (s.wr 0x1060 (BitVec.ofNat 32 (w p.c1 + 2 ^ 21))).wr64 0x1064 p.t1
  (s.wr 0x1070 (BitVec.ofNat 32 (w p.cN))).wr64 0x1074 p.tN

/-- RECORD_SERVE (R314, R316, R317). -/
def State.recordServe (s : State) : State :=
  match s.pendReps with
  | [] => s
  | p :: t =>
    let s := { s with pendReps := t }.firstLast p
    if s.hrtQueue.any (fun r => r.src == p.src) then
      { s with hrtQueue := s.hrtQueue.map (fun r => if r.src = p.src then r.merge p s.htick else r) }
    else if s.hrtQueue.length < 64 then s.openRec p
    else
      let x := s.src p.src
      let s := s.setSrc p.src { x with lost := min (x.lost + 1) 65535 }
      ((s.incSat 0x1030 16 16).flag 0x1030 7).launch 0xB12

/-- HRT_CMD pop (R315, R318). -/
def State.hrtPop (s : State) : State :=
  match s.hrtQueue with
  | [] => s
  | r :: t =>
    let s := { s with hrtQueue := t }
    match r.merged with
    | some (at_, p) => if at_ = s.htick then s.openRec p else s
    | none => s

/-- A source leaves Grave (R311): count 0, window stopped, fence undone. -/
def State.leaveGrave (s : State) (k : Nat) : State :=
  let x := s.src k
  let s := if x.grave then s.history 3 3 k 0 0 else s
  { s.setSrc k { x with grave := false, fenced := false, count := 0, win := none } with
    fencedUnits := s.fencedUnits.filter (fun u => u != k), fences := s.fences.filter (fun u => u != k) }

/-! ### Host commands (R322 to R328) -/

/-- Injection of source `k` is allowed (R322). -/
def State.injOk (s : State) (k : Nat) : Bool :=
  match srcWing k with
  | some w => s.wingMode w == 5
  | none => s.allService

/-- The staged source number of a path, and its staged configuration. -/
def State.srcIdx (s : State) (p : Path) : Nat := s.rf (pkey p 0x1100) 0 11
def State.srcStaged (s : State) (p : Path) : SrcCfg :=
  let c := s.rd (pkey p 0x1104)
  ⟨bits c 0 2, bits c 2 2, bits c 8 8, s.rf (pkey p 0x1108) 0 30, bits c 16 8⟩

/-- cmd = 1: the staged configuration is written into the source (R327, R328). -/
def State.srcWriteCfg (s : State) (p : Path) : State :=
  let k := s.srcIdx p
  let x := s.src k
  s.setSrc k { x with cfg := s.srcStaged p, prev := some (s.htick, x.cfg) }

/-- cmd = 2: configuration and state of the source into the path's registers (R327). -/
def State.srcRead (s : State) (p : Path) (live : Bool) : State :=
  let k := s.srcIdx p
  let x := s.src k
  let s := s.wr (pkey p 0x1104) (BitVec.ofNat 32 (x.cfg.cls + 4 * x.cfg.react + 256 * x.cfg.n + 65536 * x.cfg.injCause))
  let s := s.wr (pkey p 0x1108) (BitVec.ofNat 32 x.cfg.w)
  let run := match x.win with
    | some t => decide (s.since t < x.cfg.w * 500)
    | none => false
  let count := if x.win.isSome && !run then 0 else x.count
  let st := count + 2 ^ 8 * b2n run + 2 ^ 9 * b2n x.grave + 2 ^ 10 * b2n x.fenced + 2 ^ 11 * b2n live + 2 ^ 12 * b2n x.force
    + 2 ^ 13 * b2n x.real + 2 ^ 14 * b2n x.inj + 2 ^ 15 * b2n (s.hrtQueue.any (fun r => r.src == k)) + 65536 * x.lost
  (s.wr (pkey p 0x110C) (BitVec.ofNat 32 st)).wr (pkey p 0x1110) (BitVec.ofNat 32 (x.occ + 65536 * x.last))

/-- cmd = 3: one injected report and the force bit, with the staged cause (R322). -/
def State.forceSet (s : State) (p : Path) : State :=
  let k := s.srcIdx p
  if s.injOk k then
    let s := s.setSrc k { s.src k with force := true }
    s.hearthReport k (s.srcStaged p).injCause false
  else s

/-- cmd = 4. -/
def State.forceClear (s : State) (k : Nat) : State := s.setSrc k { s.src k with force := false }

/-- cmd = 6: occ_count, lost_count, real and inj are cleared; a report of the same tick stays (R328). -/
def State.occClear (s : State) (p : Path) : State :=
  let k := s.srcIdx p
  let x := s.src k
  let now := x.lastAt == some s.htick
  let real := s.pendReps.any (fun q => q.src == k && q.tN == s.htick && q.real)
  let inj := s.pendReps.any (fun q => q.src == k && q.tN == s.htick && q.inj)
  s.setSrc k { x with occ := if now then 1 else 0, lost := 0, real := now && real, inj := now && inj }

end Sys2Proof.Machine
end

