-- ==== Sys2Proof/Machine/Cellar.lean ====
section
/-!
DEFINITION. The Cellar (chapter 16): the medium, units, the calibration journal, history pages, refreshes and the order
of work. A request runs one NAND operation at a time; the operations of both targets run one after the other (log 20).
-/

namespace Sys2Proof.Machine

/-! ### The medium (R450, R453 to R457) -/

def State.modCel (s : State) (f : Cel → Cel) : State := { s with cel := f s.cel }
def State.nblk (s : State) (b : Nat) : NBlk := Tbl.get {} s.cel.nand b
def State.setNblk (s : State) (b : Nat) (x : NBlk) : State := s.modCel (fun c => { c with nand := Tbl.put c.nand b x })

/-- Page bytes, pages and bytes of a block. -/
def Cel.pageB (c : Cel) : Nat := 2 ^ c.lgPage
def Cel.ppb (c : Cel) : Nat := 2 ^ c.lgPpb
def Cel.blkB (c : Cel) : Nat := c.pageB * c.ppb

/-- Whole number at or above a / b. -/
def ceilDiv (a b : Nat) : Nat := if b = 0 then 0 else (a + b - 1) / b

/-- Blocks of one unit of `n` bytes (R455). -/
def Cel.unitBlks (c : Cel) (n : Nat) : Nat := ceilDiv (n + c.pageB) c.blkB
def Cel.calBlks (c : Cel) : Nat := ceilDiv (1024 * c.pageB) c.blkB + 2
def Cel.histBlks (c : Cel) : Nat := max 4 (ceilDiv (4 * 2 ^ 20) c.blkB)
/-- Blocks that the Cellar needs (R455). -/
def Cel.need (c : Cel) : Nat :=
  3 * c.unitBlks (2 ^ 20) + 2 * c.unitBlks (512 * 1024) + 48 * c.unitBlks (16 * 1024) + c.calBlks + c.histBlks + c.unitBlks (2 ^ 20) + 16

/-- The physical blocks used (R453). -/
def Cel.allBlks (c : Cel) : List Nat := (rangeFrom 0 c.targets).flatMap (fun t => rangeFrom (2048 * t) c.blocks)
def Cel.get (c : Cel) (b : Nat) : NBlk := Tbl.get {} c.nand b
def Cel.goodBlks (c : Cel) : List Nat := c.allBlks.filter (fun b => (c.get b).bad == 0)
/-- The free pool: erased good blocks that no request has taken (R460). -/
def Cel.pool (c : Cel) : List Nat :=
  c.goodBlks.filter (fun b => (c.get b).pages.isEmpty && !c.queue.any (fun r => r.kind != .unitRead && r.blks.contains b))
/-- The free block with the lowest erase count. -/
def Cel.takeFree (c : Cel) : Option Nat :=
  c.pool.foldl (fun o b => match o with
    | none => some b
    | some a => if (c.get b).erases < (c.get a).erases then some b else some a) none
/-- The most worn free block. -/
def Cel.takeWorn (c : Cel) : Option Nat :=
  c.pool.foldl (fun o b => match o with
    | none => some b
    | some a => if (c.get a).erases < (c.get b).erases then some b else some a) none
/-- Written blocks. -/
def Cel.written (c : Cel) : List Nat := c.goodBlks.filter (fun b => !(c.get b).pages.isEmpty)

/-- `n` free blocks, or none. -/
def Cel.takeN (c : Cel) : Nat → List Nat → Option (List Nat)
  | 0, acc => some acc.reverse
  | n + 1, acc =>
    let p := c.pool.filter (fun b => !acc.contains b)
    match p.foldl (fun (o : Option Nat) b => match o with
      | none => some b
      | some a => if (c.get b).erases < (c.get a).erases then some b else some a) none with
    | none => none
    | some b => Cel.takeN c n (b :: acc)

/-- Sequence or generation `a` is newer than `b` (R263). -/
def newer (a b : Nat) : Bool := 1 ≤ (a + 2 ^ 32 - b % 2 ^ 32) % 2 ^ 32 && (a + 2 ^ 32 - b % 2 ^ 32) % 2 ^ 32 < 2 ^ 31

/-- The unit commit record (R454). -/
def commitRec (region item gen len crc : Nat) : List Byte :=
  let b := leBytes 4 0x43554B44 ++ leBytes 2 region ++ leBytes 2 item ++ leBytes 4 gen ++ leBytes 4 len ++ leBytes 4 crc ++ leBytes 8 0
  b ++ leBytes 4 (crc32c b).toNat

/-- A commit page is valid for its unit and generation. -/
def commitOk (p : NPage) : Bool :=
  p.role == 1 && !p.lost && p.data.take 4 == leBytes 4 0x43554B44 && leNat ((p.data.drop 28).take 4) == (crc32c (p.data.take 28)).toNat
    && leNat ((p.data.drop 4).take 1) == p.region && leNat ((p.data.drop 6).take 2) == p.item && leNat ((p.data.drop 8).take 4) == p.gen

/-- A block belongs to a unit: its first page says so. -/
def NBlk.ofUnit (x : NBlk) (region item : Nat) : Bool :=
  match x.pages with
  | p :: _ => decide (p.role < 2) && p.region == region && p.item == item
  | [] => false
def NBlk.gen (x : NBlk) : Nat := match x.pages with
  | p :: _ => p.gen
  | [] => 0
def NBlk.lblk (x : NBlk) : Nat := match x.pages with
  | p :: _ => p.lblk
  | [] => 0

/-- The blocks of a unit. -/
def Cel.unitBlocks (c : Cel) (region item : Nat) : List Nat := c.goodBlks.filter (fun b => (c.get b).ofUnit region item)

/-- The committed length of generation `gen` of a unit whose blocks are all present, with its blocks in order (R457). -/
def Cel.unitGen (c : Cel) (region item gen : Nat) : Option (List Nat × Nat × Nat) :=
  let bs := (c.unitBlocks region item).filter (fun b => (c.get b).gen == gen)
  match (bs.flatMap (fun b => (c.get b).pages)).find? (fun p => commitOk p && p.gen == gen) with
  | none => none
  | some p =>
    let len := leNat ((p.data.drop 12).take 4)
    let ord := (rangeFrom 0 (c.unitBlks len)).filterMap (fun i => bs.find? (fun b => (c.get b).lblk == i))
    if ord.length = c.unitBlks len then some (ord, len, leNat ((p.data.drop 16).take 4)) else none

/-- The generation in use of a unit (R457). -/
def Cel.unitCur (c : Cel) (region item : Nat) : Option Nat :=
  (c.unitBlocks region item).foldl (fun o b =>
    let g := (c.get b).gen
    if (c.unitGen region item g).isNone then o
    else match o with
      | none => some g
      | some h => if newer g h then some g else some h) none

/-- A committed unit: blocks, length, CRC. -/
def Cel.unitFind (c : Cel) (region item : Nat) : Option (List Nat × Nat × Nat) :=
  match c.unitCur region item with
  | none => none
  | some g => c.unitGen region item g

/-- The data that a unit holds: none where it has no committed generation, where a page cannot be read or its CRC fails
(R457). -/
def Cel.unitData (c : Cel) (region item : Nat) : Option (List Byte) :=
  match c.unitFind region item with
  | none => none
  | some (bs, len, crc) =>
    let ps := (bs.flatMap (fun b => (c.get b).pages)).filter (fun p => p.role == 0)
    let d := (ps.flatMap (fun p => p.data)).take len
    if !ps.any (fun p => p.lost) && d.length == len && (crc32c d).toNat == crc then some d else none

/-- The newest readable journal page of a channel and item code (R458). -/
def Cel.journal (c : Cel) (ch code : Nat) : Option NPage :=
  (c.goodBlks.flatMap (fun b => (c.get b).pages)).foldl (fun o p =>
    if p.region = 4 ∧ p.role = 2 ∧ p.item = ch ∧ p.lblk = code ∧ !p.lost then
      (match o with
       | none => some p
       | some q => if newer p.gen q.gen then some p else some q)
    else o) none

/-- Every page that mount would take. -/
def Cel.liveJournal (c : Cel) : List NPage :=
  (c.goodBlks.flatMap (fun b => (c.get b).pages)).filter (fun p => p.region == 4 && p.role == 2 && c.journal p.item p.lblk == some p)

/-- The blocks of a journal, the one that takes the next page, and the erased pages left in it (R458). -/
def Cel.chain (c : Cel) (region : Nat) : List Nat :=
  c.goodBlks.filter (fun b => match (c.get b).pages with
    | p :: _ => p.region == region && p.role == 2
    | [] => false)
def Cel.openBlk (c : Cel) (region : Nat) : Option Nat := (c.chain region).find? (fun b => decide ((c.get b).pages.length < c.ppb))
def Cel.journalLeft (c : Cel) : Nat :=
  c.calBlks * c.ppb - (c.chain 4).foldl (fun n b => n + (c.get b).pages.length) 0

/-! ### Requests (R462, R464) -/

/-- The rank of a request (R462). -/
def CelKind.rank : CelKind → Nat
  | .cal => 1
  | .unitRead => 2
  | .unitStore => 3
  | .history => 4
  | .refresh => 5
  | .compact => 6
  | .scan => 7

def CelKind.store : CelKind → Bool
  | .cal => true
  | .unitStore => true
  | .history => true
  | _ => false

/-- A request ends, with its result for the requester. -/
def State.celEnd (s : State) (r : CelReq) (ok : Bool) (d : List Byte) : State :=
  let s := s.modCel (fun c => { c with queue := c.queue.filter (fun q => q.id != r.id) })
  let s := if !ok && r.kind.store then s.celFault 7 else s
  if r.who = 0 then s else s.modCel (fun c => { c with results := c.results ++ [⟨r.who, r.region, r.item, ok, d⟩] })

/-- The next operation of a request that has started. -/
def Cel.nextOp (c : Cel) (r : CelReq) : Option NOp :=
  let pagesData := ceilDiv r.data.length c.pageB
  let blk (i : Nat) : Nat := r.blks.getD (i / c.ppb) 0
  match r.kind with
  | .cal => r.blks.head?.map (fun b => .prog b ⟨4, 2, r.item, r.lblk, 0, r.gen, (c.get b).erases, r.data, false⟩)
  | .history => r.blks.head?.map (fun b => .prog b ⟨5, 2, 0, 0, 0, r.gen, (c.get b).erases, r.data, false⟩)
  | .unitRead => some (.read (blk r.page) (r.page % c.ppb))
  | .unitStore =>
    if r.confirmed then r.erase.head?.map .erase
    else if r.page < pagesData then
      some (.prog (blk r.page) ⟨r.region, 0, r.item, r.page / c.ppb, 0, r.gen, (c.get (blk r.page)).erases,
        (r.data.drop (r.page * c.pageB)).take c.pageB, false⟩)
    else some (.prog (blk r.page) ⟨r.region, 1, r.item, r.page / c.ppb, 0, r.gen, (c.get (blk r.page)).erases,
        commitRec r.region r.item r.gen r.data.length (crc32c r.data).toNat, false⟩)
  | .refresh =>
    if r.confirmed then r.erase.head?.map .erase
    else match r.src with
      | p :: _ => r.blks.head?.map (fun b => .prog b { p with copy := (p.copy + 1) % 65536, ec := (c.get b).erases })
      | [] => none
  | .compact =>
    if r.confirmed then r.erase.head?.map .erase
    else match r.src with
      | p :: _ => r.blks.head?.map (fun b => .prog b { p with ec := (c.get b).erases })
      | [] => none
  | .scan => r.blks.head?.map (fun b => .read b r.page)

/-- A request is replaced by what it has become. -/
def State.setReq (s : State) (r : CelReq) : State := s.modCel (fun c => { c with queue := c.queue.map (fun q => if q.id = r.id then r else q) })

/-- The request takes what it needs when the Cellar first serves it; false where it has ended instead (R456, R458 to
R462). -/
def State.celBegin (s : State) (r : CelReq) : State × Bool :=
  let c := s.cel
  if r.started then (s, true)
  else
    match r.kind with
    | .unitStore =>
      (match c.takeN (c.unitBlks r.data.length) [] with
       | none => ((s.celFault 4).celEnd r false [], false)
       | some bs =>
         let g := match c.unitCur r.region r.item with
           | some g => (g + 1) % 2 ^ 32
           | none => 1
         (s.setReq { r with started := true, blks := bs, gen := g }, true))
    | .unitRead =>
      (match c.unitFind r.region r.item with
       | none => (s.celEnd r false [], false)
       | some (bs, _, _) => (s.setReq { r with started := true, blks := bs, gen := (c.unitCur r.region r.item).getD 0 }, true))
    | .cal =>
      (match (match c.openBlk 4 with
        | some b => some b
        | none => c.takeFree) with
       | none => ((s.celFault 4).celEnd r false [], false)
       | some b => ((s.setReq { r with started := true, blks := [b], gen := c.jseq }).modCel (fun c => { c with jseq := (c.jseq + 1) % 2 ^ 32 }), true))
    | .history =>
      (match (match c.openBlk 5 with
        | some b => some b
        | none => if (c.chain 5).length < c.histBlks then c.takeFree else none) with
       | none => ((s.celFault 4).celEnd r false [], false)
       | some b => (s.setReq { r with started := true, blks := [b] }, true))
    | .refresh =>
      (match (if r.item = 1 then c.takeWorn else c.takeFree) with
       | none => (s.celEnd r false [], false)
       | some b => (s.setReq { r with started := true, blks := [b], src := (c.get r.lblk).pages, erase := [r.lblk] }, true))
    | .compact =>
      (match c.takeFree with
       | none => (s.celEnd r false [], false)
       | some b => (s.setReq { r with started := true, blks := [b], src := c.liveJournal, erase := c.chain 4 }, true))
    | .scan => (s.setReq { r with started := true }, true)

/-- A store's erases wait for every read of the older generation (R456). -/
def Cel.mayRun (c : Cel) (r : CelReq) : Bool :=
  !(r.kind == .unitStore && r.confirmed && c.queue.any (fun q => q.kind == .unitRead && q.started && q.region == r.region
    && q.item == r.item && q.gen != r.gen))

/-- The next request by rank, the oldest first; stores to one unit in the order they came (R462). -/
def Cel.choose (c : Cel) : Option CelReq :=
  c.queue.foldl (fun o r =>
    if !c.mayRun r then o
    else match o with
      | none => some r
      | some q => if r.kind.rank < q.kind.rank then some r else some q) none

/-- While no operation runs, the Cellar starts the next one; `fuel` bounds the requests that end without one. -/
def State.celNext (s : State) : Nat → State
  | 0 => s
  | fuel + 1 =>
    if s.cel.cur.isSome || s.cel.mount != 2 || s.cel.fenced then s
    else
      match s.cel.choose with
      | none => s
      | some r =>
        let b := s.celBegin r
        if !b.2 then State.celNext b.1 fuel
        else
          match (b.1.cel.queue.find? (fun q => q.id == r.id)) with
          | none => State.celNext b.1 fuel
          | some r =>
            match b.1.cel.nextOp r with
            | some op => b.1.modCel (fun c => { c with cur := some ⟨r.id, op, s.htick⟩ })
            | none => State.celNext (b.1.celEnd r true []) fuel

/-- A request arrives; without a mounted medium, or fenced, it fails at once (R463, R464). -/
def State.celRequest (s : State) (r : CelReq) : State :=
  let r := { r with id := s.cel.nextId }
  let s := s.modCel (fun c => { c with nextId := c.nextId + 1 })
  if s.cel.mount != 2 || s.cel.fenced then
    (if r.who = 0 then s
     else
       let s := if s.cel.fenced && r.kind.store then s.celFault 7 else s
       s.modCel (fun c => { c with results := c.results ++ [⟨r.who, r.region, r.item, false, []⟩] }))
  else (s.modCel (fun c => { c with queue := c.queue ++ [r] })).celNext 8

/-- A block is to be refreshed (R461); once is enough. `mig` moves it to the most worn free block (R460). -/
def State.wantRefresh (s : State) (b mig : Nat) : State :=
  if s.cel.queue.any (fun r => r.kind == .refresh && r.lblk == b) then s
  else s.celRequest { id := 0, kind := .refresh, lblk := b, item := mig }

/-! ### Operations end (R449, R451, R453) -/

def State.errBlk (s : State) (b p : Nat) : State := s.wr (CEL + 0x38) (BitVec.ofNat 32 (b % 8192 + 65536 * (p % 512)))

/-- A block becomes grown-bad (R453). -/
def State.grownBad (s : State) (b : Nat) : State := (s.setNblk b { s.nblk b with bad := 2 }).history 6 0 0 0 b

/-- Bits corrected are recorded, and the block is queued for refresh beyond the threshold (R451, R461). -/
def State.corrected (s : State) (b p n : Nat) : State :=
  let s := (s.wf (CEL + 0x2C) 0 6 n).wf (CEL + 0x2C) 8 6 (max (s.rf (CEL + 0x2C) 8 6) n)
  if 40 < n then
    let x := s.nblk b
    let s := s.setNblk b { x with pages := List.zipWith (fun i (q : NPage) => if i = p then { q with lost := true } else q) (rangeFrom 0 x.pages.length) x.pages }
    (((s.celFault 0).incSat (CEL + 0x28) 16 16).errBlk b p).wantRefresh b 0
  else if s.rf (CEL + 0x20) 0 6 < n then s.wantRefresh b 0
  else s

/-- A program or erase fails: the block is grown-bad (R453). -/
def State.opFails (s : State) (b p : Nat) (erase : Bool) : State :=
  (((s.celFault (if erase then 2 else 1)).errBlk b p).grownBad b)

/-- A page store fails in its block: it is repeated in a fresh block, three blocks at most (R453). -/
def State.storeAgain (s : State) (r : CelReq) (b : Nat) : State :=
  if 2 ≤ r.tries then s.celEnd r false []
  else
    match s.cel.takeFree with
    | none => (s.celFault 4).celEnd r false []
    | some f =>
      let i := r.page / s.cel.ppb
      s.setReq { r with tries := r.tries + 1, blks := r.blks.map (fun x => if x = b then f else x),
                        page := if r.kind = .unitStore then i * s.cel.ppb else 0,
                        src := if r.kind = .refresh then (s.nblk r.lblk).pages else r.src }

/-- A page is programmed. -/
def State.programmed (s : State) (b : Nat) (pg : NPage) : State :=
  let x := s.nblk b
  s.setNblk b { x with pages := x.pages ++ [pg] }

/-- The calibration journal is compacted when fewer than 64 erased pages remain (R458). -/
def State.wantCompact (s : State) : State :=
  if s.cel.journalLeft < 64 && !s.cel.queue.any (fun r => r.kind == .compact) then s.celRequest { id := 0, kind := .compact } else s

/-- A program has been confirmed: what it means to its request (R456, R458, R459, R461). -/
def State.progDone (s : State) (r : CelReq) : State :=
  match r.kind with
  | .cal =>
    let s := if r.follow.isEmpty then s.history 4 0 r.item 0 0 else s
    let s := if r.follow.isEmpty then s.celEnd r true []
      else (s.modCel (fun c => { c with queue := c.queue.filter (fun q => q.id != r.id) })).celRequest
        { id := 0, kind := .cal, who := r.who, region := 4, item := r.item, lblk := r.lblk + 2, data := r.follow }
    s.wantCompact
  | .history => s.celEnd r true []
  | .unitStore =>
    if r.page < ceilDiv r.data.length s.cel.pageB then s.setReq { r with page := r.page + 1, tries := 0 }
    else
      let old := (s.cel.unitBlocks r.region r.item).filter (fun b => (s.nblk b).gen != r.gen)
      let s := s.history 5 0 0 0 (r.region + 256 * r.item)
      let s := if r.who = 0 then s else s.modCel (fun c => { c with results := c.results ++ [⟨r.who, r.region, r.item, true, []⟩] })
      if old.isEmpty then s.celEnd { r with who := 0 } true [] else s.setReq { r with confirmed := true, erase := old, who := 0 }
  | .refresh =>
    let rest := r.src.drop 1
    s.setReq { r with src := rest, tries := 0, confirmed := rest.isEmpty }
  | .compact =>
    let rest := r.src.drop 1
    let full := match r.blks with
      | b :: _ => decide (s.cel.ppb ≤ (s.nblk b).pages.length)
      | [] => true
    let bs := if full && !rest.isEmpty then (match s.cel.takeFree with
      | some f => f :: r.blks
      | none => r.blks) else r.blks
    s.setReq { r with src := rest, blks := bs, confirmed := rest.isEmpty }
  | _ => s.celEnd r true []

/-- An erase has ended: the request goes on with its next one. -/
def State.eraseDone (s : State) (r : CelReq) : State :=
  let rest := r.erase.drop 1
  if rest.isEmpty then
    let s := if r.kind = .refresh ∧ r.item = 0 then ((s.celFlag 3).incSat (CEL + 0x28) 0 16).history 7 0 0 0 r.lblk else s
    s.celEnd r true []
  else s.setReq { r with erase := rest }

/-- A read has ended (R457, R461). -/
def State.readDone (s : State) (r : CelReq) (b : Nat) : State :=
  let x := s.nblk b
  let s := s.setNblk b { x with reads := x.reads + 1 }
  let s := if s.rf (CEL + 0x24) 0 24 ≤ x.reads + 1 then s.wantRefresh b 0 else s
  match r.kind with
  | .unitRead =>
    let len := match s.cel.unitGen r.region r.item r.gen with
      | some (_, n, _) => n
      | none => 0
    if r.page + 1 < ceilDiv len s.cel.pageB then s.setReq { r with page := r.page + 1 }
    else
      match s.cel.unitData r.region r.item with
      | some d => s.celEnd r true d
      | none => s.celEnd r false []
  | _ => s.celEnd r true []

/-- The operation under way ends with outcome `o` (R449, R451, R453); then the next request is chosen (R462). -/
def State.nandDone (s : State) (o : NandOut) : State :=
  match s.cel.cur with
  | none => s
  | some k =>
    let s := s.modCel (fun c => { c with cur := none })
    match s.cel.queue.find? (fun q => q.id == k.id) with
    | none => s.celNext 8
    | some r =>
      let s := match k.op with
        | .prog b pg =>
          let verify := s.rb CEL 3
          let s := if verify && o.pass then s.corrected b (s.nblk b).pages.length (min o.corr.val 40) else s
          if o.pass && (!verify || decide (o.corr.val ≤ 4)) then (s.programmed b pg).progDone r
          else (s.opFails b (s.nblk b).pages.length false).storeAgain r b
        | .erase b =>
          if o.pass then (s.setNblk b { s.nblk b with erases := min ((s.nblk b).erases + 1) (2 ^ 32 - 1), reads := 0, pages := [] }).eraseDone r
          else (s.opFails b 0 true).eraseDone r
        | .read b p => (s.corrected b p (if o.pass then o.corr.val else 63)).readDone r b
      if s.cel.fenced then
        s.cel.queue.foldl (fun s r => s.celEnd r false []) s
      else s.celNext 8

/-- The limit of an operation in house ticks (R449). -/
def NOp.limit : NOp → Nat
  | .prog _ _ => 5000000
  | .erase _ => 10000000
  | .read _ _ => 500000

/-- NAND_OP_TIMEOUT: the operation counts as failed (R449). -/
def State.nandTimeout (s : State) : State :=
  match s.cel.cur with
  | none => s
  | some k => if k.op.limit ≤ s.since k.start then s.nandDone ⟨false, 0⟩ else s

/-- The requests of one kind run to their end: the outcomes of their operations are given in order, and operations
beyond them pass. -/
def State.celRun (s : State) (kind : CelKind) : List NandOut → Nat → State
  | _, 0 => s
  | outs, fuel + 1 =>
    match s.cel.cur with
    | none => s
    | some k =>
      match s.cel.queue.find? (fun q => q.id == k.id) with
      | none => s
      | some r =>
        if r.kind = kind then State.celRun (s.nandDone (outs.headD ⟨true, 0⟩)) kind (outs.drop 1) fuel else s

/-- CELLAR_FENCE (R464): the operation under way ends first; pending and later requests fail. -/
def State.celFence (s : State) : State :=
  let s := s.takeFence 0x408
  let s := s.modCel (fun c => { c with fenced := true })
  s.cel.queue.foldl (fun s r => if s.cel.cur.any (fun k => k.id == r.id) then s else s.celEnd r false []) s

/-! ### History pages (R459) -/

/-- Buffered entries are written as a page, padded with entries of all ones, an entry of kind 0x08 first where some
were lost; the ring's oldest block is erased when it is full. -/
def State.histWrite (s : State) : State :=
  let c := s.cel
  let lost := if c.histLost = 0 then [] else [s.histEntry 8 0 0 0 c.histLost]
  let per := c.pageB / 32
  let es := (lost ++ c.hist).take per
  if c.hist.isEmpty ∨ c.mount ≠ 2 ∨ c.queue.any (fun r => r.kind == .history) then s
  else
    let s := if c.histLost = 0 then s else s.wr (CEL + 0x30) (s.rd (CEL + 0x30) + 1)
    let d := es.flatMap (fun e => e) ++ List.replicate (32 * (per - es.length)) 0xFF#8
    let rest := c.hist.drop (per - lost.length)
    let s := s.modCel (fun c => { c with hist := rest, histLost := 0, histAt := BitVec.ofNat 64 (leNat ((rest.headD []).take 8)), histSecs := s.rf (CEL + 0x40) 0 8 })
    let full := (c.openBlk 5).isNone && decide (c.histBlks ≤ (c.chain 5).length)
    let s := if full then
        (match (c.chain 5).foldl (fun (o : Option Nat) b => match o with
           | none => some b
           | some a => if newer ((c.get a).gen) ((c.get b).gen) then some b else some a) none with
         | some b => s.setNblk b { s.nblk b with erases := (s.nblk b).erases + 1, reads := 0, pages := [] }
         | none => s)
      else s
    s.celRequest { id := 0, kind := .history, data := d, gen := (s.rd (CEL + 0x30)).toNat }

/-- A page of entries is buffered (R459). -/
def State.histFull (s : State) : Bool := s.cel.pageB / 32 ≤ s.cel.hist.length && s.cel.mount == 2

/-- HIST_FLUSH_TIMER (R459). -/
def State.histTimer (s : State) : State :=
  let t := s.cel.histSecs
  if t ≠ 0 ∧ !s.cel.hist.isEmpty ∧ 500000000 * t ≤ s.since s.cel.histAt then s.histWrite else s

/-! ### Retention, wear, commands (R460, R461, R466) -/

/-- The written page that the scan reads next: at or after its position, in order; the flag says the pass wraps. -/
def State.scanNext (s : State) : Option (Nat × Nat × Bool) :=
  let b0 := s.rf (CEL + 0x3C) 0 13
  let ws := s.cel.written
  if decide (s.cel.scanPage < (s.nblk b0).pages.length) && ws.contains b0 then some (b0, s.cel.scanPage, false)
  else match ws.find? (fun b => decide (b0 < b)) with
    | some b => some (b, 0, false)
    | none => match ws with
      | b :: _ => some (b, 0, true)
      | [] => none

/-- RETENTION_SCAN_READ (R461): one written page every scan_ms. -/
def State.scanRead (s : State) : State :=
  let ms := s.rf (CEL + 0x20) 8 8
  if !s.rb CEL 4 || ms == 0 || s.cel.mount != 2 || decide (s.since s.cel.scanAt < 500000 * ms) then s
  else
    match s.scanNext with
    | none => s
    | some (b, p, wrap) =>
      let s := s.wf (CEL + 0x3C) 0 13 b
      let s := if wrap then s.incWrap (CEL + 0x3C) 16 16 else s
      let s := s.modCel (fun c => { c with scanPage := p + 1, scanAt := s.htick })
      s.celRequest { id := 0, kind := .scan, blks := [b], page := p }

/-- op 1: a retention pass starts at the first block. -/
def State.scanStart (s : State) : State := (s.wf (CEL + 0x3C) 0 13 0).modCel (fun c => { c with scanPage := 0 })

/-- WEAR_MIGRATION (R460). -/
def State.wearMove (s : State) : State :=
  let c := s.cel
  let ws := c.written.filter (fun b => !(c.get b).ofUnit 0 0)
  let cold := ws.foldl (fun (o : Option Nat) b => match o with
    | none => some b
    | some a => if (c.get b).erases < (c.get a).erases then some b else some a) none
  let hi := ws.foldl (fun m b => max m (c.get b).erases) 0
  match cold with
  | none => s
  | some b => if s.rb CEL 5 && decide (s.rf (CEL + 0x20) 16 16 < hi - (c.get b).erases) then s.wantRefresh b 1 else s

/-- op 4: a block is marked bad (R466). -/
def State.markBad (s : State) (b : Nat) : State :=
  if s.cel.allBlks.contains b && (s.nblk b).bad == 0 then s.grownBad b else s

/-! ### Mount (R449, R450, R453, R455, R457, R463) -/

/-- The part meets R450. -/
def nandPartOk (p : NandPart) : Bool :=
  [2048, 4096, 8192, 16384].contains p.pageBytes && [32, 64, 128, 256, 512].contains p.pagesPerBlock
    && decide (2 + 86 * (p.pageBytes / 1024) ≤ p.spareBytes)

/-- The medium after a mount: units keep one generation, and of two copies of a block one (R457). -/
def Cel.tidyUnit (c : Cel) (region item : Nat) : Cel :=
  let keep := match c.unitFind region item with
    | some (bs, _, _) => bs
    | none => []
  let drop := (c.unitBlocks region item).filter (fun b => !keep.contains b)
  { c with nand := c.nand.map (fun e => if drop.contains e.1 then
      (e.1, { e.2 with erases := e.2.erases + 1, pages := [], reads := 0 }) else e) }

/-- Of two blocks of one unit, generation and lblk, the lower copy stays unless every page it holds is valid in the higher
one (R457): the one not kept is emptied. -/
def Cel.tidyCopies (c : Cel) : Cel :=
  let pairs := c.written.flatMap (fun a => (c.written.filter (fun b => decide (a ≠ b))).map (fun b => (a, b)))
  pairs.foldl (fun c e =>
    match (c.get e.1).pages, (c.get e.2).pages with
    | p :: ps, q :: qs =>
      if p.region = q.region ∧ p.item = q.item ∧ p.gen = q.gen ∧ p.lblk = q.lblk ∧ p.role < 2 ∧ q.role < 2 ∧ p.copy < q.copy then
        let whole := decide ((p :: ps).length ≤ (q :: qs).length) && (q :: qs).all (fun x => !x.lost)
        let drop := if whole then e.1 else e.2
        { c with nand := Tbl.put c.nand drop { c.get drop with erases := (c.get drop).erases + 1, pages := [], reads := 0 } }
      else c
    | _, _ => c) c

/-- The newest boot number, and the newest entry number, in the history pages. -/
def Cel.histScan (c : Cel) : Nat × Nat :=
  let es := (c.chain 5).flatMap (fun b => (c.get b).pages.flatMap (fun p => (rangeFrom 0 (p.data.length / 32)).map (fun i => (p.data.drop (32 * i)).take 32)))
  es.foldl (fun (m : Nat × Nat) e =>
    if leNat ((e.drop 28).take 4) = (crc32c (e.take 28)).toNat then
      (if leNat ((e.drop 16).take 1) = 1 then max m.1 (leNat ((e.drop 14).take 2)) else m.1, max m.2 (leNat ((e.drop 24).take 4) + 1))
    else m) (0, 0)

/-- CELLAR_MOUNT: the parameter page, the markers, the units, the journals; or a failed mount. -/
def State.celMount (s : State) (p : NandPart) : State :=
  let c := s.cel
  let bad : Tbl NBlk := p.factoryBad.foldl (fun (t : Tbl NBlk) b => Tbl.upd {} t b.val (fun x => if x.bad = 0 then { x with bad := 1, pages := [] } else x)) c.nand
  let c : Cel := { c with lgPage := Nat.log2 p.pageBytes, lgPpb := Nat.log2 p.pagesPerBlock, blocks := min p.blocks 2048, spare := p.spareBytes,
                          targets := p.targets.val, mode := min p.mode.val (s.rf CEL 0 3), nand := bad.map (fun (e : Nat × NBlk) => (e.1, { e.2 with reads := 0 })) }
  if p.targets.val = 0 ∨ !nandPartOk p ∨ c.goodBlks.length < c.need then
    (s.modCel (fun c => { c with mount := 3, targets := p.targets.val })).celFault 5
  else
    let c := c.tidyCopies
    let units := (1, 0) :: (1, 1) :: (2, 0) :: (2, 1) :: (rangeFrom 0 48).map (fun i => (3, i))
    let c := units.foldl (fun c u => c.tidyUnit u.1 u.2) c
    let h := c.histScan
    let seq := (c.goodBlks.flatMap (fun b => (c.get b).pages)).foldl (fun (m : Nat) (q : NPage) => if q.region = 4 ∧ newer (q.gen + 1) m then (q.gen + 1) % 2 ^ 32 else m) 0
    let s := s.modCel (fun _ => { c with mount := 2, jseq := seq, boot := (h.1 + 1) % 65536, scanAt := s.htick, scanPage := 0 })
    ((s.wr (CEL + 0x30) (BitVec.ofNat 32 h.2)).history 1 0 0 0 0)

end Sys2Proof.Machine
end

