-- ==== Sys2Proof/Machine/Monitor.lean ====
section
/-!
DEFINITION. Threshold monitors (chapter 07): codes and their hold, trips, releases and latches.
-/

namespace Sys2Proof.Machine

def State.modMo (s : State) (n : Nat) (f : Mon → Mon) : State := s.setMo n (f (s.mo n))
def State.modCmp (s : State) (n c : Nat) (f : Cmp → Cmp) : State := s.modMo n (fun m => m.setCmp c (f (m.cmp c)))

/-! ### Settings (R239) -/

def State.monCfg (s : State) (n c : Nat) : Word := s.act (chA n (0x500 + 4 * c))
def State.monEn (s : State) (n c : Nat) : Bool := bit (s.monCfg n c) 0
def State.monUnit (s : State) (n c : Nat) : Bool := !bit (s.monCfg n c) 8

/-! ### Codes (R218 to R221) -/

/-- The code of a threshold with the gain of range `r` (R219), and whether it clips; none when the gain is not
declared (R220). A threshold that is no number has an open code. -/
def State.cmpCode (s : State) (n c r : Nat) : State × Option (Nat × Bool) :=
  let th := s.act (chA n (0x510 + 4 * c))
  if !s.monUnit n c then (s, some (bits th 0 12, false))
  else if !(s.lk n).descValid || !(if c < 2 then s.declI n r else s.declV n r) then (s, none)
  else if !F32.isFin th then
    (let f := s.freeW
     (f.1, some (f.2.toNat % 4096, false)))
  else
    let g := F32.frac (BitVec.ofNat 32 (if c < 2 then s.irec n r 4 4 else s.vrec n r 4 4))
    let x := Frac.mul g (F32.frac th)
    let z := (Frac.mul (Frac.add x ⟨750, 1000⟩) ⟨40960, 15⟩).round
    (s, some ((max 0 (min 4095 z)).toNat, decide (z < 0) || decide (4095 < z)))

/-- The less restrictive of two codes (R221). -/
def lessRestr (c a b : Nat) : Nat := if c = 1 ∨ c = 3 then max a b else min a b

/-- The comparator starts tripped (R231). -/
def Cmp.restart (k : Cmp) (h : DWord) : Cmp :=
  { k with raw := true, filt := true, latched := true, puPending := true, modeAt := some h }

/-- A code reaches the DAC; MON_RB_n no longer shows a readback of it (R237). -/
def State.setCode (s : State) (n c code : Nat) : State :=
  if (s.mo n |>.cmp c).code = code then s
  else (s.modCmp n c (fun k => { k with code := code, codeAt := s.htick })).wb (chA n (0x540 + 4 * c)) 16 false

/-- The code of comparator `c` is computed again (R219 to R221); th_clip is set on a clip. Without the gain it needs,
an enabled unit-mode comparator is held tripped (R220), and restarts when the gain is there (R231). -/
def State.cmpRefresh (s : State) (n c : Nat) : State :=
  let m := s.mo n
  let (pin, nw) := if c < 2 then (m.pinI, m.iNew) else (m.pinV, m.vNew)
  let r1 := s.cmpCode n c pin
  let r2 := match nw with
    | some r => r1.1.cmpCode n c r
    | none => r1
  let s := r2.1
  match r1.2, r2.2 with
  | some a, some b =>
    let s := if a.2 || b.2 then s.flag (chA n 0x534) 16 else s
    let s := s.setCode n c (lessRestr c a.1 b.1)
    if (m.cmp c).noDesc then
      s.modCmp n c (fun k => { (if s.monEn n c then k.restart s.htick else k) with noDesc := false })
    else s
  | _, _ =>
    if s.monEn n c then s.modCmp n c (fun k => { k.restart s.htick with noDesc := true }) else s

/-- All four codes of a channel. -/
def State.cmpRefreshAll (s : State) (n : Nat) : State := (rangeFrom 0 4).foldl (fun s c => s.cmpRefresh n c) s

/-- A LEVEL frame names ranges at the head: a hold starts where they differ from those at the pins (R221). -/
def State.monNamed (s : State) (n i v : Nat) : State :=
  let m := s.mo n
  let m1 := match m.iNew with
    | some r => if r = i then m else { m with iNew := some i, iEcho := 0 }
    | none => if m.pinI = i then m else { m with iNew := some i, iEcho := 0 }
  let m2 := match m1.vNew with
    | some r => if r = v then m1 else { m1 with vNew := some v, vEcho := 0 }
    | none => if m1.pinV = v then m1 else { m1 with vNew := some v, vEcho := 0 }
  if m2 = m then s else (s.setMo n m2).cmpRefreshAll n

/-- A frame shows the ranges in force; the second good echo in a row of a new range ends its hold (R221). -/
def State.monEcho (s : State) (n : Nat) (good : Bool) (i v : Nat) : State :=
  let m := s.mo n
  let m1 := match m.iNew with
    | none => m
    | some r => if !good || r != i then { m with iEcho := 0 }
      else if m.iEcho = 1 then { m with iNew := none, iEcho := 0, pinI := r } else { m with iEcho := 1 }
  let m2 := match m1.vNew with
    | none => m1
    | some r => if !good || r != v then { m1 with vEcho := 0 }
      else if m1.vEcho = 1 then { m1 with vNew := none, vEcho := 0, pinV := r } else { m1 with vEcho := 1 }
  let s' := s.setMo n m2
  if m2.iNew ≠ m.iNew ∨ m2.vNew ≠ m.vNew then s'.cmpRefreshAll n else s'

/-- At the end of an enumeration the gains are those of the active ranges (R219). -/
def State.monEnumerated (s : State) (n : Nat) : State :=
  (s.modMo n (fun m => { m with pinI := s.iact n, pinV := s.vact n, iNew := none, vNew := none, iEcho := 0, vEcho := 0 })).cmpRefreshAll n

/-! ### Commits (R231, R233) -/

/-- The committed value of MON_CFG_c: on a Guard comparator of a channel that is not QUENCHED or FENCED, en, mode and
hyst keep their old values (R233). -/
def State.monKeep (s : State) (n c : Nat) (new : Word) : Word × Bool :=
  let old := s.monCfg n c
  if c < 2 && (s.ch n).st.live && bits old 0 5 != bits new 0 5 then (setBits new 0 5 (bits old 0 5), true) else (new, false)

/-- What the commit of a changed MON_CFG_c does (R217, R231, R233). -/
def State.monCommitted (s : State) (n c : Nat) (old new : Word) : State :=
  let on := bit new 0
  if on && !bit old 0 then s.modCmp n c (fun k => k.restart s.htick)
  else if !on && bit old 0 then
    s.modCmp n c (fun k => { k with raw := false, filt := false, latched := false, puPending := false, noDesc := false })
  else if on && bits new 1 2 != bits old 1 2 then
    s.modCmp n c (fun k => if c < 2 then k.restart s.htick else { k with modeAt := some s.htick })
  else s

/-! ### Trips and releases (R224 to R231) -/

/-- The settling time of a mode in house ticks (R223). -/
def settleTicks (mode : Nat) : Nat := if mode = 0 then 1000 else if mode = 1 then 2500 else if mode = 2 then 10000 else 50000

/-- A Watch comparator still settles after an enable or a mode change: its filtered output holds (R233). -/
def State.settling (s : State) (n c : Nat) : Bool :=
  match ((s.mo n).cmp c).modeAt with
  | none => false
  | some t => decide (s.since t < settleTicks (if (s.mo n).micro then 3 else bits (s.monCfg n c) 1 2))

/-- Count, event and error line of a Guard trip (R225, R230). -/
def State.guardCount (s : State) (n c : Nat) : State :=
  ((s.incSat (chA n 0x538) (8 * c) 8).launch (16 * n + 13)).chFault n 2

/-- GUARD_TRIP: the latch is set without a clock; on its change the channel is quenched with cause 0x12 (R225). -/
def State.guardTripIn (s : State) (n c : Nat) : State :=
  let k := (s.mo n).cmp c
  if !s.monEn n c || bit s.supplyOut 3 || k.noDesc then s
  else if k.latched then s.modCmp n c (fun k => { k with raw := true, filt := true, tripAt := some s.htick })
  else ((s.modCmp n c (fun k => { k with raw := true, filt := true, latched := true, tripAt := none })).guardCount n c).cause n 0x12

/-- The watch_action of a Watch trip (R71). -/
def State.watchAction (s : State) (n : Nat) : State :=
  let a := s.rf (chA n 0x004) 4 2
  if a = 1 then s.latchCause n 0x13 else if a = 2 then s.cause n 0x1B else s

/-- What setting a Watch latch does (R227). -/
def State.watchSet (s : State) (n c : Nat) : State :=
  let s := (s.incSat (chA n 0x538) (8 * c) 8).launch (16 * n + 14)
  let s := if s.actb (chA n 0x530) 1 then s.report n (128 + c) else s
  s.watchAction n

/-- WATCH_TRIP: the filtered output becomes tripped (R227). -/
def State.watchTripIn (s : State) (n c : Nat) : State :=
  let k := (s.mo n).cmp c
  if !s.monEn n c || bit s.supplyOut 3 || s.settling n c || k.noDesc then s
  else if k.latched then s.modCmp n c (fun k => { k with raw := true, filt := true, tripAt := some s.htick })
  else (s.modCmp n c (fun k => { k with raw := true, filt := true, latched := true, tripAt := none })).watchSet n c

/-- COMPARATOR_RELEASE (R229). -/
def State.cmpRelease (s : State) (n c : Nat) : State :=
  let k := (s.mo n).cmp c
  if !s.monEn n c || k.puPending || bit s.supplyOut 3 || (decide (2 ≤ c) && s.settling n c) then s
  else s.modCmp n c (fun k => { k with raw := false, filt := false })

/-- PU_RELEASE: the power-up state ends, with no trip counted (R231). -/
def State.puRelease (s : State) (n c : Nat) : State :=
  let k := (s.mo n).cmp c
  if !k.puPending || k.noDesc || bit s.supplyOut 3 then s
  else s.modCmp n c (fun k => { k with raw := false, filt := false, latched := false, puPending := false })

/-- A latch is cleared by the host or a period boundary, if its comparator is released (R229, R230); `tripped` says
that a Guard comparator's unclocked output is tripped at that instant: the latch stays, and counts as a new trip. A
comparator that tripped again in this tick keeps its latch and counts. -/
def State.latchClear (s : State) (n c : Nat) (tripped : Bool) : State :=
  let k := (s.mo n).cmp c
  if !k.latched || k.puPending || k.noDesc then s
  else if k.filt then
    (if k.tripAt = some s.htick then
       (let s := s.modCmp n c (fun k => { k with tripAt := none })
        if c < 2 then s.guardCount n c else s.watchSet n c)
     else s)
  else if c < 2 && tripped then (s.modCmp n c (fun k => { k with raw := true, filt := true })).guardCount n c
  else s.modCmp n c (fun k => { k with latched := false })

/-- The latches that clear at a period boundary (R230). -/
def State.monBoundary (s : State) (n : Nat) (tripped : BitVec 2) : State :=
  (rangeFrom 0 4).foldl (fun s c => if bit (s.monCfg n c) 7 then s.latchClear n c (bit tripped c) else s) s

/-- Every enabled comparator of a channel restarts (R231, R232); the Watch ones only where `all` says so. -/
def State.monRestart (s : State) (n : Nat) (all : Bool) : State :=
  (rangeFrom 0 4).foldl (fun s c =>
    if !s.monEn n c then s
    else if c < 2 || all then s.modCmp n c (fun k => { k.restart s.htick with noDesc := k.noDesc })
    else s.modCmp n c (fun k => { k with modeAt := some s.htick })) s

/-! ### Readback (R236, R237) -/

/-- A readback of comparator `c`, in DAC LSB with 4 fraction bits, is stored and compared (R237). -/
def State.readback (s : State) (n c v : Nat) : State :=
  let k := (s.mo n).cmp c
  let tol := 16 * s.rf (wgA (wingOf n) 0x404) 8 8
  let d := if v < 16 * k.code then 16 * k.code - v else v - 16 * k.code
  let bad := decide (d > tol)
  let s := s.wr (chA n (0x540 + 4 * c)) (BitVec.ofNat 32 (v % 65536 + 65536 + 131072 * b2n bad))
  let s := s.modCmp n c (fun k => { k with rbDue := false })
  if bad then s.chFault n (128 + 17) else s

end Sys2Proof.Machine
end

