-- ==== Sys2Proof/Machine/Range.lean ====
section
/-!
DEFINITION. Current-range changes and autorange (R146 to R152): what each frame and each period boundary does.
-/

namespace Sys2Proof.Machine

/-- hold_time (R65). -/
def State.holdTime (s : State) (n : Nat) : Nat := s.rf (chA n 0x018) 0 13

/-- Autorange acts: committed on, and the mode is not FI (R151). -/
def State.autoActs (s : State) (n : Nat) : Bool := s.autoOn n && s.mode n != 1

/-- Full scale of a current range in binary64. -/
def State.fsI64 (s : State) (n r : Nat) : B64 := F64.of32 (s.fsI n r)
def State.fsV64 (s : State) (n r : Nat) : B64 := F64.of32 (s.fsV n r)

/-- xf_k, and a running crossfade with its weight j / K (R148). -/
def State.xfK (s : State) (n : Nat) : Nat := s.actf (chA n 0x300) 16 6
def Rng.xfRun (r : Rng) : Bool := r.kind == .xfade && r.bx.isSome
def State.xfW (s : State) (n : Nat) : B64 :=
  let r := s.rg n
  if r.finish then F64.ofInt 1 else F64.ofFrac r.j (max (s.xfK n) 1)
/-- Feedback current comes from r_to (R148). -/
def State.xfNew (s : State) (n : Nat) : Bool :=
  let r := s.rg n
  r.xfRun && (r.finish || decide (jSwitch (s.xfK n) ≤ r.j))

/-- The primary and secondary current range and the voltage range that the LEVEL frames name (R52, R146, R147, R150). -/
def State.namedI (s : State) (n : Nat) : Nat :=
  let r := s.rg n
  if r.kind = .mbb ∨ r.kind = .direct then r.to_ else s.iact n
def State.namedV (s : State) (n : Nat) : Nat :=
  match (s.ch n).vChange with
  | some c => c.new
  | none => s.vact n

/-- The named secondary is valid: two consecutive frames echo it (R147). -/
def Rng.secValid (r : Rng) : Bool := decide (2 ≤ r.secRun)

/-- Frames are held: HOLD with cause 0x19, or a direct change not yet echoed (R130). -/
def State.framesHeld (s : State) (n : Nat) : Bool :=
  ((s.ch n).st == .hold && (s.ch n).cause == 0x19) || (s.rg n).kind == .direct

/-- A new secondary is named. -/
def Rng.name (r : Rng) (x : Nat) : Rng := if x = r.sec then r else { r with sec := x, secRun := 0 }

/-- A waiting secondary has not become valid within 64 frames: the change is made by make-before-break (R147). -/
def State.secTimeout (s : State) (n : Nat) : State :=
  let r := s.rg n
  if r.kind == .xfade && r.bx.isNone && !r.secSeen && decide (64 * 128 < s.since r.secAt) then
    (s.setRg n { r with kind := .none, noXf := some r.req, want := if s.autoActs n then some r.to_ else none }).chFault n (96 + 6)
  else s

/-- A taken-in frame shows the ranges in force and counts into the period sums; a direct change completes at the
second echo (R146, R147, R151). `ok` says the frame is good, or held with a valid sample. -/
def State.rngFrame (s : State) (n : Nat) (ok good : Bool) (ip is : Nat) (secv ovr : Bool) (vp vs : B32) : State :=
  let r := s.rg n
  let echo := if ok && ip == s.namedI n then r.echo + 1 else 0
  let secRun := if ok && secv && is == r.sec then r.secRun + 1 else 0
  let r := { r with echo := min echo 2, secRun := min secRun 2 }
  let r := if r.kind == .xfade && r.bx.isNone && r.secValid && r.sec == r.to_ then { r with secSeen := true } else r
  let a := F64.abs (F64.of32 vp)
  let r := if good then
      { r with pN := r.pN + 1, pAbs := F64.add r.pAbs a, pOld := F64.add r.pOld (F64.of32 vp),
               pNew := F64.add r.pNew (F64.of32 vs), pOvr := r.pOvr || ovr }
    else r
  let s := s.setRg n r
  let s := if r.kind = .direct ∧ r.echo = 2 then
      s.rangeDone n
    else s
  s.secTimeout n

/-- A crossfade ends by completing: the roles swap, and autorange settles (R148). -/
def State.xfComplete (s : State) (n : Nat) : State := s.rangeDone n

/-- The crossfade at a boundary (R148): start, tolerance check of the period that ends, next period or completion.
The flag says that the request waits for the next boundary. -/
def State.xfBoundary (s : State) (n : Nat) (pn : Nat) (old new : B64) : State × Bool :=
  let r := s.rg n
  let k := s.xfK n
  match r.bx with
  | none =>
    if r.secValid && r.sec == r.to_ && (s.ch n).st.reg then
      (((s.setRg n { r with bx := some s.htick, j := 1 }).apMark n 5), false)
    else (s, false)
  | some _ =>
    if r.finish then (s.xfComplete n, false)
    else
      let d := F64.abs (F64.sub (F64.div old (F64.ofInt pn)) (F64.div new (F64.ofInt pn)))
      let lim := F64.mul (F64.ofFrac (s.actf (chA n 0x30C) 0 10) 1000000) (s.fsI64 n r.to_)
      if pn ≠ 0 ∧ F64.lt lim d then
        let s := (((s.chFault n 96).incSat (chA n 0x318) 16 16).apMark n 15).apMark n 5
        if r.j < jSwitch k then
          (s.setRg n { r with kind := .none, bx := none, j := 0, noXf := some r.req,
                              want := if s.autoActs n then some r.to_ else none }, true)
        else if r.j < k then (s.setRg n { r with finish := true, j := r.j + 1 }, false)
        else (s.xfComplete n, false)
      else if k ≤ r.j then (s.xfComplete n, false)
      else
        let s := (s.setRg n { r with j := r.j + 1 }).apMark n 5
        (if r.j + 1 = jSwitch k then s.modLp n (fun l => { l with kXfade := true }) else s, false)

/-- The choice of the secondary outside a change, at most once every 64 periods (R147). -/
def State.secPick (s : State) (n : Nat) : State :=
  let r := s.rg n
  let i := s.iact n
  let up := s.adjUp n i
  let down := s.adjDown n i
  if decide (r.secPer < 64) || !(s.lk n).descValid then s
  else
    let high := F64.le (F64.mul (F64.ofFrac 3 10) (s.fsI64 n i)) r.mean
    let x := match up, down with
      | some u, some d => if high then u else d
      | some u, none => u
      | none, some d => d
      | none, none => i
    s.setRg n { r.name x with secPer := 0 }

/-- Autorange at a boundary (R151): the mean of |I_p| of the period that ends, the over-range flag, and the
counts, each with the setting of its start (R214). -/
def State.arBoundary (s : State) (n : Nat) (pn : Nat) (m : B64) (ovr : Bool) : State :=
  let r := s.rg n
  let cfg := s.act (chA n 0x308)
  let win := s.arRanges n
  if !(s.ch n).st.reg || decide (r.settle < r.arSettle) || win.isEmpty then s.setRg n { r with upRun := 0, downRun := 0 }
  else
    let i := s.iact n
    let inWin (x : Option Nat) : Option Nat := match x with
      | some y => if win.contains y then some y else none
      | none => none
    let above := inWin (s.adjUp n i)
    let below := inWin (s.adjDown n i)
    let up := F64.ofFrac (s.actf (chA n 0x304) 0 10) 1000
    let down := F64.ofFrac (s.actf (chA n 0x304) 16 10) 1000
    let fs := s.fsI64 n i
    let upC := pn != 0 && (ovr || F64.le (F64.mul up fs) m)
    let downC := pn != 0 && F64.lt m (F64.mul down fs) && (match below with
      | some b => F64.lt m (F64.mul (F64.mul (F64.ofFrac 9 10) up) (s.fsI64 n b))
      | none => false)
    let ur := if upC then r.upRun + 1 else 0
    let dr := if downC then r.downRun + 1 else 0
    let upN := if r.upRun = 0 then bits cfg 0 8 else r.upN
    let downN := if r.downRun = 0 then bits cfg 8 8 else r.downN
    let r := { r with upRun := min ur 255, downRun := min dr 255, upN := upN, downN := downN }
    match (if upC && decide (upN ≤ ur) then above else none) with
    | some a =>
      let s := (s.setRg n { r with want := some a, refused := false, upRun := 0, downRun := 0 }).flag (chA n 0x314) 3
      if ovr then s.flag (chA n 0x314) 5 else s
    | none =>
      match (if downC && decide (downN ≤ dr) then below else none) with
      | some b => (s.setRg n { r with want := some b, refused := false, upRun := 0, downRun := 0 }).flag (chA n 0x314) 4
      | none => s.setRg n r

/-- A change to range `tgt` starts by the method of R146. -/
def State.rngStart (s : State) (n tgt : Nat) : State :=
  let r := s.rg n
  let c := s.ch n
  let i := s.iact n
  let md := s.mode n
  if !s.declI n tgt || (c.st == .hold || c.st == .rampdown) || c.vChange.isSome then s
  else if !c.st.reg || md == 2 then
    s.setRg n { r with kind := .direct, from_ := i, to_ := tgt, req := tgt, echo := 0, want := none }
  else
    let step := if tgt > i then s.adjUp n i else s.adjDown n i
    match (if (md == 0 || md == 3) && s.capDual n && s.actb (chA n 0x300) 1 && r.noXf != some tgt then step else none) with
    | some x =>
      let r := { r with kind := .xfade, from_ := i, to_ := x, req := tgt, bx := none, j := 0, finish := false, want := none }
      if r.sec = x ∧ r.secValid then
        (s.setRg n { r with bx := some s.htick, j := 1 }).apMark n 5
      else s.setRg n { r.name x with secAt := s.htick, secSeen := false }
    | none =>
      if s.tSwitch n > s.holdTime n then
        (s.setRg n { r with refused := true, want := none }).chFault n (96 + 1)
      else
        let s := s.setRg n { r with kind := .mbb, from_ := i, to_ := tgt, req := tgt, echo := 0, want := none }
        let s := s.cause n 0x19
        if (s.ch n).st = .hold ∧ (s.ch n).cause = 0x19 then s else s.loseMbb n

/-- Ranging at a period boundary (R146 to R151); `wrote` says that this boundary committed a write of irange. -/
def State.rngBoundary (s : State) (n : Nat) (wrote : Bool) : State :=
  let r := s.rg n
  let pn := r.pN
  let m := if pn = 0 then r.mean else F64.div r.pAbs (F64.ofInt pn)
  let old := r.pOld
  let new := r.pNew
  let ovr := r.pOvr
  let s := s.setRg n { r with pN := 0, pAbs := 0#64, pOld := 0#64, pNew := 0#64, pOvr := false, mean := m,
                              refused := r.refused && !wrote, settle := if r.settleLate then 0 else min (r.settle + 1) 256,
                              arSettle := if r.settleLate then bits (s.act (chA n 0x308)) 16 8 else r.arSettle,
                              settleLate := false, secPer := min (r.secPer + 1) 64 }
  let (s, wait) := match (s.rg n).kind with
    | .xfade => s.xfBoundary n pn old new
    | _ => (s, false)
  if wait || (s.rg n).kind != .none then s
  else
    let s := s.secPick n
    let s := if s.autoActs n then s.arBoundary n pn m ovr
      else s.setRg n { s.rg n with want := none, upRun := 0, downRun := 0 }
    let r := s.rg n
    let tgt := if s.autoActs n then r.want
      else
        let i := s.actf (chA n 0x100) 8 4
        if i != s.iact n && !r.refused then some i else none
    let s := if r.noXf.isSome && tgt != r.noXf then s.setRg n { r with noXf := none } else s
    match tgt with
    | some t => s.rngStart n t
    | none => s

/-- The hold timer expires during a make-before-break change: it is not tried again (R150). -/
def State.mbbExpired (s : State) (n : Nat) : State :=
  let r := s.rg n
  if r.kind = .mbb then s.setRg n { r with kind := .none, echo := 0, refused := true, want := none } else s

end Sys2Proof.Machine
end

