-- ==== Sys2Proof/Machine/Channel.lean ====
section
/-!
DEFINITION. The source-measure channel (chapter 02): ARM and the quench commands, the shadow commit, compliance, HOLD
exits, voltage-range changes, the effective quantities, the ramp.
-/

namespace Sys2Proof.Machine

/-! ### The shadow commit (R31 to R34) -/

/-- The offsets of a channel's shadow registers. -/
def isShadow (o : Nat) : Bool :=
  o == 0x100 || (decide (0x108 ≤ o) && decide (o ≤ 0x11C)) || (decide (0x200 ≤ o) && decide (o ≤ 0x210))
    || (decide (0x300 ≤ o) && decide (o ≤ 0x30C)) || o == 0x428 || (decide (0x480 ≤ o) && decide (o ≤ 0x4FC))
    || (decide (0x500 ≤ o) && decide (o ≤ 0x51C)) || o == 0x530 || (decide (0x700 ≤ o) && decide (o ≤ 0x710))
    || (decide (0x800 ≤ o) && decide (o < 0xB00))

/-- The value of a shadow register that a boundary commits: as it stood at the end of the tick before (R31). -/
def State.shadowVal (s : State) (k : Nat) : Word := Tbl.get (s.rd k) s.tickOld k

/-- The wing's clocks are stopped (R490). -/
def State.sleeping (s : State) (w : Nat) : Bool := s.rb 0x038 w

/-- One shadow register is committed, with what its change does at once (R112, R139, R231, R233). Guard settings that are
refused go back in the shadow set too (DEDUCED, log 25). -/
def State.commitOne (s : State) (n o : Nat) (v : Word) : State :=
  let k := chA n o
  let old := s.act k
  if o = 0x500 ∨ o = 0x504 ∨ o = 0x508 ∨ o = 0x50C then
    let c := (o - 0x500) / 4
    let x := s.monKeep n c v
    let s := if x.2 then
        (let s := s.flag (chA n 0x534) 18
         if s.tickOld.any (fun e => e.1 == k) then s else s.wr k x.1)
      else s
    if x.1 = old then s else (s.setAct k x.1).monCommitted n c old x.1
  else if v = old then s
  else
    let s := s.setAct k v
    if 0x480 ≤ o ∧ o ≤ 0x4FC then s.modLp n (fun l => { l with kCoef := true })
    else if 0x800 ≤ o ∧ o < 0xB00 then s.apMark n 13
    else s

/-- The complete shadow set of a channel is committed (R31). -/
def State.commitAll (s : State) (n : Nat) : State :=
  s.regs.foldl (fun s e =>
    let o := e.1 % 0x1000
    if e.1 = chA n o ∧ isShadow o then s.commitOne n o (s.shadowVal e.1) else s) s

/-- The boundary commits, unless shadow_hold or an overlay holds it back (R32, R344). -/
def State.commits (s : State) (n : Nat) : Bool := !s.rb (chA n 0x004) 0 && !(s.cc n).applyHeld

/-! ### Commands (R63, R64) -/

/-- A command is rejected with a code (R63). -/
def State.reject (s : State) (n code : Nat) : State := (s.flag (chA n 0x00C) 7).wf (chA n 0x00C) 16 8 code

/-- The program of a channel's bound tile holds the primitive `op`. -/
def State.tplHas (s : State) (n op : Nat) : Bool :=
  match (s.lp n).tile with
  | none => false
  | some t => (s.tile t).prog.any (fun w => bits w 0 8 == op)

/-- The reject code of ARM: 0 when it is accepted (R64); the calibration sequencer's ARM
is not checked for the wing mode and the constants (R255). -/
def State.armCode (s : State) (n : Nat) (cal : Bool) : Nat :=
  let c := s.ch n
  let m := s.wingMode (wingOf n)
  let f := s.act (chA n 0x100)
  let tileOk := match (s.lp n).tile with
    | none => false
    | some t => (s.tile t).role == .bound
  if c.st != .quenched then 1
  else if !(m == 2 || m == 3 || m == 5 || cal) then 2
  else if !c.headReady then 3
  else if !cal && !(decide (2 ≤ (s.cc n).src)) && !s.rb (chA n 0x004) 2 then 4
  else if !tileOk then 5
  else if s.guardTrip n then 6
  else if !s.declV n (bits f 4 3) || !s.declI n (bits f 8 4) || (s.autoOn n && (s.arRanges n).isEmpty) then 7
  else if bits f 0 2 != 2 && !s.tplHas n 0x18 then 8
  else 0

/-- ARM with cause 0x01 (host) or 0x02 (auto-arm) (R60, R64). -/
def State.arm (s : State) (n : Nat) : State :=
  let c := s.armCode n false
  if c = 0 then s.cause n 0x01 else s.reject n c

/-- Auto-arm when head_ready becomes 1 (R84). -/
def State.autoArm (s : State) (n : Nat) : State :=
  if s.rb (chA n 0x004) 1 && s.armCode n false == 0 then s.cause n 0x02 else s

/-- Soft and hard quench: never rejected (R60, R63). -/
def State.softQuench (s : State) (n : Nat) : State := s.latchCause n 0x0F
def State.hardQuench (s : State) (n : Nat) : State := s.cause n 0x10

/-! ### Compliance (R57) -/

/-- The compliance counts of the period that ends, and the transitions they give; a count takes its setting where it
starts (R214). -/
def State.complyBoundary (s : State) (n : Nat) : State :=
  let c := s.ch n
  let l := s.lp n
  let s := s.setLp n { l with complyRan := false }
  let s := if c.st = .compliance then s.setCh n { c with compPeriods := c.compPeriods + 1 } else s
  if !c.st.reg || !l.complyRan || s.mode n == 2 then s
  else if l.clampPos || l.clampNeg then
    let lim := if c.clampRun = 0 then s.rf (chA n 0x01C) 0 8 else c.runLim
    let s := s.modCh n (fun c => { c with clampRun := min (c.clampRun + 1) 255, freeRun := 0, runLim := lim })
    if c.st = .regulating ∧ lim ≤ c.clampRun + 1 then s.cause n 0x05 else s
  else
    let lim := if c.freeRun = 0 then s.rf (chA n 0x01C) 8 8 else c.runLim
    let s := s.modCh n (fun c => { c with freeRun := min (c.freeRun + 1) 255, clampRun := 0, runLim := lim })
    if c.st = .compliance ∧ lim ≤ c.freeRun + 1 then s.cause n 0x06 else s

/-- COMP_MAX_REACHED (R57). -/
def State.compMax (s : State) (n : Nat) : State :=
  let c := s.ch n
  let mx := c.compLim
  if c.st = .compliance ∧ mx ≠ 0 ∧ mx ≤ c.compPeriods ∧ !c.compActed then
    let s := s.setCh n { c with compActed := true }
    if s.rb (chA n 0x004) 6 then s.cause n 0x07 else s.flag (chA n 0x00C) 10
  else s

/-! ### HOLD (R60, R65, R66) -/

/-- The hold limit of the present HOLD (R65). -/
def State.holdLimit (s : State) (n : Nat) : Nat := if (s.ch n).cause = 0x0A then 6000 else (s.ch n).holdLim

/-- HOLD_EXPIRED (R65): hold_expired, and RAMPDOWN with cause 0x0D at the next frame-grid edge; a range change under
way is given up (R52, R150). -/
def State.holdExpired (s : State) (n : Nat) : State :=
  let c := s.ch n
  if c.st = .hold ∧ !c.holdExp ∧ s.holdLimit n ≤ s.since c.holdStart then
    let s := s.setCh n { c with holdExp := true, vChange := none }
    let s := if c.vChange.isSome then s.flag (chA n 0x00C) 13 else s
    ((s.mbbExpired n).chFault n 5).latchCause n 0x0D
  else s

/-- The exit of HOLD at a boundary, when its condition was met before it (R60). -/
def State.holdExit (s : State) (n : Nat) : State :=
  let c := s.ch n
  let r := s.rg n
  if c.st != .hold || c.holdExp || c.transTs == s.htick then s
  else if c.cause = 0x0A then s.cause n 0x0C
  else if c.cause = 0x19 then
    match c.vChange with
    | some v =>
      if 2 ≤ v.echo then
        ((s.setVact n v.new).setCh n { c with vChange := none }).cause n 0x1A
      else s
    | none => if r.kind = .mbb ∧ 2 ≤ r.echo then (s.rangeDone n).cause n 0x1A else s
  else if 2 ≤ c.goodRun then s.cause n 0x0B
  else s

/-- ARMING goes to REGULATING at the first boundary after output_ready is seen (R60). -/
def State.armingExit (s : State) (n : Nat) : State :=
  let c := s.ch n
  if c.st = .arming ∧ c.gateUp ∧ 2 ≤ c.readyRun then s.cause n 0x03 else s

/-! ### The voltage range (R52, R527) -/

/-- A committed request for the voltage range at a boundary. -/
def State.vrangeBoundary (s : State) (n : Nat) (wrote : Bool) : State :=
  let c := s.ch n
  if !(wrote || c.vStand) then s
  else
    let new := s.actf (chA n 0x100) 4 3
    if c.vChange.isSome then s.setCh n { c with vStand := true }
    else
      let s := s.setCh n { c with vStand := false }
      if new = s.vact n then s
      else if c.st.reg && (s.mode n == 0 || s.mode n == 3) then
        let lim := F64.mul (F64.of32 (s.ovr n)) (s.fsV64 n new)
        if F64.le (F64.abs c.setptEff) lim && decide (s.tSwitch n ≤ s.holdTime n) && s.declV n new then
          let s := s.modCh n (fun c => { c with vChange := some ⟨s.vact n, new, 0⟩ })
          let s := s.cause n 0x19
          if (s.ch n).st = .hold ∧ (s.ch n).cause = 0x19 then s else s.loseMbb n
        else s.flag (chA n 0x00C) 13
      else s.setVact n new

/-! ### Effective quantities (R49, R53 to R56, R528) -/

/-- The ranges that set the compliance limits: r_lim and r_floor (R53). -/
def State.limRanges (s : State) (n : Nat) : Nat × Nat :=
  if s.mode n = 1 then (s.vact n, s.vact n)
  else if s.autoOn n then
    match s.arRanges n with
    | [] => (s.iact n, s.iact n)
    | a :: t => ((a :: t).foldl max a, a)
  else (s.iact n, s.iact n)

/-- Full scale of the forced quantity's active range, of the compliance quantity's range r_lim, and of r_floor. -/
def State.fsF (s : State) (n : Nat) : B32 := if s.mode n = 1 then s.fsI n (s.iact n) else s.fsV n (s.vact n)
def State.fsC (s : State) (n r : Nat) : B32 := if s.mode n = 1 then s.fsV n r else s.fsI n r

/-- The quadrant mask leaves a sign of the forced, or of the compliance quantity (R48, R49). -/
def State.quadF (s : State) (n : Nat) (pos : Bool) : Bool :=
  let q := s.quadrants n
  let m := if s.mode n = 1 then (if pos then 3 else 12) else (if pos then 9 else 6)
  q &&& m != 0
def State.quadC (s : State) (n : Nat) (pos : Bool) : Bool :=
  let q := s.quadrants n
  let m := if s.mode n = 1 then (if pos then 9 else 6) else (if pos then 3 else 12)
  q &&& m != 0

/-- The effective limits, target and step at a boundary (R53, R49); setpt_eff moves one step unless `still`. -/
def State.effective (s : State) (n : Nat) (still : Bool) : State :=
  let c := s.ch n
  if s.mode n = 2 then
    (((s.setCh n { c with setptEff := 0#64, target := 0#64 }).wr (chA n 0x124) 0#32).wr (chA n 0x128) 0#32).wr (chA n 0x134) 0#32
  else
    let (rl, rf) := s.limRanges n
    let ovr := F64.of32 (s.ovr n)
    let top := F64.mul ovr (F64.of32 (s.fsC n rl))
    let floor := F64.mul (F64.ofFrac 5 1000) (F64.of32 (s.fsC n rf))
    let lp := F64.abs (F64.of32 (s.act (chA n 0x10C)))
    let ln := F64.abs (F64.of32 (s.act (chA n 0x110)))
    let lpe := F64.min (F64.max lp floor) top
    let lne := F64.min (F64.max ln floor) top
    let cut := !(F64.eq lpe lp) || !(F64.eq lne ln) || !s.quadC n true || !s.quadC n false
    let lpe := if s.quadC n true then lpe else 0#64
    let lne := if s.quadC n false then lne else 0#64
    let sp := F64.of32 (s.act (chA n 0x108))
    let lim := F64.mul ovr (F64.of32 (s.fsF n))
    let t0 := if s.mode n = 3 then 0#64 else F64.clamp sp (F64.neg lim) lim
    let keep := s.quadF n (!F64.lt t0 0#64)
    let target := if keep then t0 else 0#64
    let s := if cut then s.flag (chA n 0x00C) 8 else s
    let s := if !(F64.eq t0 sp) || (!keep && !(F64.isZero t0)) then s.flag (chA n 0x00C) 9 else s
    let s := (s.wr (chA n 0x124) (F32.of64 lpe)).wr (chA n 0x128) (F32.of64 (F64.neg lne))
    let s := s.wr (chA n 0x134) (F32.of64 floor)
    let slew := F64.of32 (s.act (chA n 0x114))
    let step := F64.mul slew (F64.mul (F64.ofInt (s.kOf n)) frameSec)
    let d := F64.sub target c.setptEff
    let move := if F64.lt 0#64 slew then F64.clamp d (F64.neg step) step else d
    let live := match c.st with
      | .regulating => true
      | .compliance => true
      | .hold => true
      | .rampdown => true
      | _ => false
    s.setCh n { c with target := target, stepV := step,
                       setptEff := if live && !still then F64.add c.setptEff move else c.setptEff }

/-- At a boundary that commits another force mode while the output is live, setpt_eff takes the last measured value of
the new forced quantity, and the next pass is a force-mode-change pass (R56, R112). -/
def State.modeChange (s : State) (n : Nat) : State :=
  let md := s.mode n
  let m := s.ms n
  let x := if md = 1 then m.lastI else if md = 2 then 0#32 else m.lastV
  let s := s.modCh n (fun c => { c with setptEff := F64.of32 x })
  s.modLp n (fun l => { l with kMode := some x })

/-! ### RAMPDOWN (R68) -/

/-- RAMPDOWN_FRAME: once per frame-grid edge the level moves toward 0 by d; at the edge that ends the second frame
at level 0 the channel is QUENCHED with cause 0x11. -/
def State.rampFrame (s : State) (n : Nat) : State :=
  let c := s.ch n
  if c.st != .rampdown || !s.onGrid || c.rampEdge == some s.htick then s
  else if 2 ≤ c.zeroFrames then s.cause n 0x11
  else
    let l := c.rampLvl
    let l' := if F64.le (F64.abs l) c.rampD then 0#64
      else if F64.lt l 0#64 then F64.add l c.rampD else F64.sub l c.rampD
    let zero := F64.isZero l
    s.setCh n { c with rampLvl := l', level := F32.of64 l', rampEdge := some s.htick,
                       zeroFrames := if zero then c.zeroFrames + 1 else 0 }

/-- A fence event reaches the channel (R60, R72). -/
def State.fenceChannel (s : State) (n : Nat) : State := { s with fences := s.fences.filter (fun u => u != n) }.cause n 0x17

end Sys2Proof.Machine
end

