-- ==== Sys2Proof/Machine/Gpg.lean ====
section
/-!
DEFINITION. The GATE pulse generator (R75 to R81).
-/

namespace Sys2Proof.Machine

def State.gpgEnable (s : State) (n : Nat) : Bool := s.actb (chA n 0x700) 0
def State.gpgTrig (s : State) (n : Nat) : Nat := s.actf (chA n 0x700) 1 2
/-- The pulse level that a train starting now would latch. -/
def State.gpgLevel (s : State) (n : Nat) : B32 := s.act (chA n 0x11C)
/-- The pulse level that LEVEL frames carry (R77). -/
def State.pulseLevel (s : State) (n : Nat) : B32 :=
  let g := s.gp n
  if g.running then g.level else s.gpgLevel n

/-- The generator is ready (R76, R77). -/
def State.gpgReady (s : State) (n : Nat) : Bool :=
  (s.gp n).sent.take 2 == [s.gpgLevel n, s.gpgLevel n] && (s.ch n).st.reg && s.gpgEnable n

/-- A train starts at this tick with its latched copies (R76, R78, R79). -/
def State.trainStart (s : State) (n : Nat) : State :=
  let w := (s.act (chA n 0x708)).toNat
  let p := (s.act (chA n 0x70C)).toNat
  let bad := decide (w < 32) || decide (p < w + 32)
  let w' := if bad then max w 32 else w
  let p' := if bad then max p (w' + 32) else p
  let s := if bad then s.flag (chA n 0x00C) 14 else s
  s.modGp n (fun g => { g with running := true, t0 := s.htick, delay := (s.act (chA n 0x704)).toNat, width := w', period := p',
                               count := s.actf (chA n 0x710) 0 16, notch := s.actf (chA n 0x700) 4 4, level := s.gpgLevel n,
                               j := 0, inPulse := false })

/-- A trigger that starts nothing (R77). -/
def State.trigIgnored (s : State) (n : Nat) : State := (s.flag (chA n 0x00C) 15).incSat (chA n 0x718) 0 16

/-- A trigger is acted on (R77, R78). -/
def State.gpgTrigger (s : State) (n : Nat) : State :=
  let g := s.gp n
  if !s.gpgReady n || (g.running && !s.actb (chA n 0x700) 3) then s.trigIgnored n
  else (if g.inPulse then s.endNotch n else s).trainStart n

/-- A trigger from source `src`: 0 host fire, 1 ti_pulse, 2 period boundary; another source than the committed one
triggers nothing. -/
def State.gpgFrom (s : State) (n src : Nat) : State := if s.gpgTrig n = src then s.gpgTrigger n else s

/-- A stop command ends the train, an open pulse with its end notch (R87). -/
def State.gpgStop (s : State) (n : Nat) : State :=
  let g := s.gp n
  if g.running then (if g.inPulse then s.endNotch n else s).modGp n (fun g => { g with running := false }) else s

/-- The ticks from t0 to the begin of the present pulse (R78). -/
def Gpg.due (g : Gpg) : Nat := g.delay + g.j * g.period

/-- PULSE_START: the start notch of pulse j (R78). -/
def State.pulseStart (s : State) (n : Nat) : State :=
  let g := s.gp n
  if g.running ∧ !g.inPulse ∧ g.due ≤ s.since g.t0 then
    (s.setGp n { g with inPulse := true, notchEnd := some (s.htick + BitVec.ofNat 64 g.notch),
                        past := ((s.htick, none) :: g.past).take 16 }).launch (16 * n + 6)
  else s

/-- PULSE_END: the end notch; the train ends after count pulses (R78). -/
def State.pulseEnd (s : State) (n : Nat) : State :=
  let g := s.gp n
  if g.running ∧ g.inPulse ∧ g.due + g.width ≤ s.since g.t0 then
    let s := s.endNotch n
    let last := decide (g.count ≠ 0) && decide (g.count ≤ g.j + 1)
    let s := s.modGp n (fun g => { g with j := g.j + 1, running := !last })
    if last then s.launch (16 * n + 8) else s
  else s

/-- in_pulse at a past tick (R81, R281). -/
def State.inPulseAt (s : State) (n : Nat) (t : DWord) : Bool :=
  (s.gp n).past.any (fun e =>
    decide ((t - e.1).toNat < 2 ^ 63) && (match e.2 with
      | none => true
      | some b => decide (2 ^ 63 ≤ (t - b).toNat)))

end Sys2Proof.Machine
end

