-- ==== Sys2Proof/Machine/Tile.lean ====
section
/-!
DEFINITION. One loop tile (chapter 03): primitive words (R94, R95), their costs (R97), what each computes (R98 to R104,
R113, R117), the checks of a template (R108), and the checkpoint image (R121, R122).
-/

namespace Sys2Proof.Machine

/-! ### Primitive words (R94) -/

def pOp (w : DWord) : Nat := bits w 0 8
def pDst (w : DWord) : Nat := bits w 8 8
def pSa (w : DWord) : Nat := bits w 16 8
def pSb (w : DWord) : Nat := bits w 24 8
def pSc (w : DWord) : Nat := bits w 32 8
def pSlot (w : DWord) : Nat := bits w 40 4
def pImm (w : DWord) : Nat := bits w 48 16
def pImmB (w : DWord) (i : Nat) : Bool := bit w (48 + i)

/-- Tile cycles of a primitive (R97); 0 for a reserved op code. -/
def pCost (w : DWord) : Nat :=
  match pOp w with
  | 0x00 => 1
  | 0x01 => 2
  | 0x02 => 2
  | 0x08 => if pImmB w 1 then 6 else 4
  | 0x09 => 4
  | 0x0A => 4
  | 0x0B => 5
  | 0x0C => 2
  | 0x0D => 2
  | 0x0E => 2
  | 0x10 => 2
  | 0x11 => 8
  | 0x12 => 6
  | 0x13 => 6
  | 0x14 => 14
  | 0x15 => 5
  | 0x18 => 10
  | 0x19 => 8
  | 0x1A => 12
  | 0x20 => 2
  | 0x21 => 1
  | 0x22 => 4
  | _ => 0

/-- The primitive writes a working register. -/
def pWrites (w : DWord) : Bool := pCost w != 0 && pOp w != 0 && decide (pOp w < 0x20)

/-- The primitive reads a state slot. -/
def pSlotted (w : DWord) : Bool := (decide (0x11 ≤ pOp w) && decide (pOp w ≤ 0x15)) || pOp w == 0x1A

/-- The primitive is an anchor ADD. -/
def pAnchor (w : DWord) : Bool := pOp w == 0x08 && pImmB w 1

/-- The last primitive of a list that writes register `r`. -/
def lastWriter (ws : List DWord) (r : Nat) : Option DWord := (ws.reverse).find? (fun w => pWrites w && pDst w == r)

/-- The INTEG whose result one of the anchor's operands is, and whether that operand is sa (R108 rule 4). -/
def anchorInteg (before : List DWord) (w : DWord) : Option (Bool × DWord) :=
  let src (sel : Nat) : Option DWord :=
    if sel < 0x20 then
      (match lastWriter before sel with
       | some x => if pOp x = 0x11 then some x else none
       | none => none)
    else none
  match src (pSa w) with
  | some x => some (true, x)
  | none =>
    match src (pSb w) with
    | some x => some (false, x)
    | none => none

/-- The anchor of a program: its place, whether the INTEG result is operand sa, and the INTEG. -/
def anchorOf (before : List DWord) : List DWord → Option (Nat × Bool × DWord)
  | [] => none
  | w :: ws =>
    if pAnchor w then
      (match anchorInteg before w with
       | some (a, x) => some (before.length, a, x)
       | none => anchorOf (before ++ [w]) ws)
    else anchorOf (before ++ [w]) ws

/-! ### The checks of a template (R108) -/

/-- The scalar operand selectors a primitive reads: sa, sb, sc. -/
def pScalars (w : DWord) : List Nat :=
  let o := pOp w
  if o = 0x0B ∨ o = 0x0E ∨ o = 0x10 then [pSa w, pSb w, pSc w]
  else if (0x08 ≤ o ∧ o ≤ 0x0D) ∨ o = 0x11 ∨ o = 0x12 ∨ o = 0x13 ∨ o = 0x15 ∨ o = 0x18 then [pSa w, pSb w]
  else if o = 0x14 ∨ o = 0x1A ∨ o = 0x20 ∨ o = 0x21 then [pSa w]
  else []

/-- The coefficient block of a primitive: its selector and length. -/
def pBlock (w : DWord) : Option (Nat × Nat) :=
  match pOp w with
  | 0x11 => some (pSc w, 3)
  | 0x14 => some (pSb w, 5)
  | 0x18 => some (pSc w, 2)
  | 0x1A => some (pSb w, 5)
  | _ => none

/-- The imm bits that a primitive's row of R97 names. -/
def pImmMask (w : DWord) : Nat :=
  match pOp w with
  | 0x01 => 7
  | 0x02 => 7
  | 0x08 => 3
  | 0x09 => 1
  | 0x0A => 1
  | 0x0C => 1
  | 0x0D => 1
  | 0x0E => 0x1F
  | 0x10 => 1
  | 0x11 => 3
  | 0x1A => 1
  | 0x21 => 0x7F
  | _ => 0

/-- Rules 1 and 3 of R108 for one primitive. -/
def pOk (w : DWord) : Bool :=
  pCost w != 0 && bits w 44 4 == 0 && (!pWrites w || decide (pDst w ≤ 0x1F))
    && (pScalars w).all (fun x => decide (x ≤ 0x44))
    && (match pBlock w with
        | some (x, m) => decide (0x20 ≤ x) && decide (x ≤ 0x3F) && decide (x - 0x20 + m ≤ 32)
        | none => true)
    && (pImm w &&& pImmMask w == pImm w) && !(pOp w == 0x02 && pImm w == 7) && !(pOp w == 0x11 && pImm w == 3)
    && !(pOp w == 0x14 && pSlot w == 15)

/-- Costs: C_lat through STORE_OUT, C_all of the whole list. -/
def cAll (ws : List DWord) : Nat := ws.foldl (fun n w => n + pCost w) 0
def cLat : List DWord → Nat
  | [] => 0
  | w :: ws => if pOp w = 0x20 then pCost w else pCost w + cLat ws

/-- ceil((5 x + 11) / 4): house ticks of x tile cycles with the worst-case crossings of R43. -/
def passTicks (x : Nat) : Nat := (5 * x + 14) / 4

/-- A template passes R108 with k, φs and L. -/
def templateOk (ws : List DWord) (k phi lat : Nat) : Bool :=
  let before := ws.takeWhile (fun w => pOp w != 0x20)
  let after := ws.drop (before.length + 1)
  let anchors := (ws.filter pAnchor).length
  decide (1 ≤ ws.length) && decide (ws.length ≤ 200) && ws.all pOk
    && (ws.filter (fun w => pOp w == 0x20)).length == 1 && (ws.filter (fun w => pOp w == 0x22)).length == 1
    && after.any (fun w => pOp w == 0x22) && before.any (fun w => pOp w == 0x01)
    && (anchors == 0 || (anchors == 1 && (anchorOf [] ws).isSome))
    && decide (8 ≤ phi) && decide (passTicks (cLat ws) ≤ lat) && decide (lat ≤ 2400)
    && decide (phi + lat + 8 ≤ 128 * k) && decide (phi + passTicks (cAll ws) + 20 ≤ 128 * k)

/-! ### A pass -/

/-- What a pass reads from its channel. -/
structure PassEnv where
  transfer : Bool := false
  uRef : B32 := 0#32
  /-- seeding: 0 none, 1 DIFF only, 2 all (R112) -/
  seed : Nat := 0
  /-- LOAD_SAMPLE and LOAD_SETPOINT values by imm (R98) -/
  sample : List Word := []
  setp : List B32 := []
  /-- the loop period in seconds -/
  t : B64 := 0#64
  outLast : B32 := 0#32
  clipPrev : Nat := 0
  uRawPrev : B32 := 0#32
  iOld : B32 := 0#32
  iNew : B32 := 0#32
  w : B32 := 0#32
  trkSrc : Nat := 0
  trkValid : Bool := false
  trkX : B32 := 0#32
  trkBase : Bool := false
  /-- ovr times the full scale of the forced quantity (R117) -/
  limF : B64 := 0#64
  limPos : B32 := 0#32
  limNeg : B32 := 0#32
  /-- house ticks to the next regular φs (R110) -/
  span : Nat := 0
  upsets : List Upset := []
  anchor : Option (Nat × Bool × DWord) := none
  pass : DWord := 0#64

/-- Why a pass stopped early. -/
inductive PassStop where
  | mismatch | uncorrectable | overrun
deriving DecidableEq, Repr

/-- A pass as far as it has run. -/
structure PassRun where
  tile : Tile
  idx : Nat := 0
  /-- tile cycles used -/
  cyc : Nat := 0
  stop : Option PassStop := none
  /-- corrected errors met (R91) -/
  corr : Nat := 0
  out : Option (B32 × Nat) := none
  invalid : Bool := false
  events : List Nat := []
  ckpt : Option (List DWord) := none
  clip : Nat := 0
  comply : Bool := false
  clampPos : Bool := false
  clampNeg : Bool := false
  uRaw : B32 := 0#32
  integSat : BitVec 16 := 0#16
  swapClamped : Bool := false
  gBad : Bool := false
  trkClamped : Bool := false
  trkOut : Option B32 := none
deriving DecidableEq, Repr

/-- The value of an operand selector (R95). -/
def PassRun.sel (r : PassRun) (e : PassEnv) (x : Nat) : Word :=
  if x < 0x20 then r.tile.a.getD x 0#32
  else if x < 0x40 then r.tile.coef.getD (x - 0x20) 0#32
  else if x = 0x41 then 0x3F800000#32
  else if x = 0x42 then 0xBF800000#32
  else if x = 0x43 then F32.of64 e.t
  else if x = 0x44 then F32.of64 (F64.div (F64.ofInt 1) e.t)
  else 0#32

/-- The value of an operand selector as a binary32 input (R92). -/
def PassRun.fsel (r : PassRun) (e : PassEnv) (x : Nat) : B32 := F32.ftz (r.sel e x)
/-- Coefficient `j` of the block at selector `x`. -/
def PassRun.blk (r : PassRun) (x j : Nat) : B32 := F32.ftz (r.tile.coef.getD (x - 0x20 + j) 0#32)
/-- Slot `i`. -/
def PassRun.zi (r : PassRun) (i : Nat) : B64 := r.tile.z.getD i 0#64
/-- Slot `i` as the binary32 value of a filter. -/
def PassRun.zf (r : PassRun) (i : Nat) : B32 := F32.ftz (F32.of64 (r.zi i))

/-- Register `i` takes a word. -/
def PassRun.put (r : PassRun) (i : Nat) (v : Word) : PassRun := { r with tile := { r.tile with a := r.tile.a.set i v } }
/-- Slot `i` takes a value. -/
def PassRun.putZ (r : PassRun) (i : Nat) (v : B64) : PassRun :=
  { r with tile := { r.tile with z := r.tile.z.set i (F64.ftz v) } }
/-- Slot `i` takes a binary32 value of a filter. -/
def PassRun.putF (r : PassRun) (i : Nat) (v : B32) : PassRun := r.putZ i (F64.of32 v)

/-! binary32 with subnormal inputs and results flushed (R92) -/

def tAdd (a b : B32) : B32 := F32.ftz (F32.add a b)
def tSub (a b : B32) : B32 := F32.ftz (F32.sub a b)
def tMul (a b : B32) : B32 := F32.ftz (F32.mul a b)
/-- A binary64 result as a binary32 register value. -/
def t32 (x : B64) : B32 := F32.ftz (F32.of64 x)
def d32 (x : B32) : B64 := F64.of32 x

/-- min, max of binary32 with NaN propagated (R92). -/
def tMin (a b : B32) : B32 := if F32.isNaN a then a else if F32.isNaN b then b else if F32.lt b a then b else a
def tMax (a b : B32) : B32 := if F32.isNaN a then a else if F32.isNaN b then b else if F32.lt a b then b else a
/-- min, max of binary64 with NaN propagated (R92). -/
def dMin (a b : B64) : B64 := if F64.isNaN a then a else if F64.isNaN b then b else if F64.lt b a then b else a
def dMax (a b : B64) : B64 := if F64.isNaN a then a else if F64.isNaN b then b else if F64.lt a b then b else a

/-- The direction of a clip: 1 lowered, 2 raised, 0 neither (R96). -/
def clipOf (x r : B32) : Nat := if F32.lt r x then 1 else if F32.lt x r then 2 else 0

/-- The sign of a binary64 as a clip direction: 1 above 0, 2 below, 0 for zero and NaN. -/
def signOf (x : B64) : Nat := if F64.lt 0#64 x then 1 else if F64.lt x 0#64 then 2 else 0

/-- int32 comparison. -/
def ltS (a b : Word) : Bool := BitVec.slt a b

/-- The slot is the anchor slot of the program. -/
def PassEnv.isAnchorSlot (e : PassEnv) (i : Nat) : Bool :=
  match e.anchor with
  | some (_, _, x) => pSlot x == i
  | none => false

/-- INTEG (R100). -/
def PassRun.integ (r : PassRun) (e : PassEnv) (w : DWord) : PassRun :=
  let i := pSlot w
  let err := d32 (r.fsel e (pSa w))
  let g := d32 (r.fsel e (pSb w))
  let lo := d32 (r.blk (pSc w) 0)
  let hi := d32 (r.blk (pSc w) 1)
  let kb := d32 (r.blk (pSc w) 2)
  let m := pImm w % 4
  let inc :=
    if m = 1 ∧ signOf (F64.mul g err) = e.clipPrev ∧ !F64.isNaN (F64.mul g err) then 0#64
    else if m = 2 then
      F64.mul e.t (F64.add (F64.mul g err) (F64.mul kb (F64.sub (d32 e.outLast) (d32 e.uRawPrev))))
    else F64.mul (F64.mul e.t g) err
  let z := F64.add (r.zi i) inc
  let z := if e.transfer && e.isAnchorSlot i then z else dMin (dMax z lo) hi
  let r := r.putZ i z
  let sat := F64.eq z lo || F64.eq z hi
  { r.put (pDst w) (t32 z) with integSat := putBit r.integSat i sat }

/-- The anchor ADD of a transfer pass (R113). -/
def PassRun.anchorAdd (r : PassRun) (e : PassEnv) (w : DWord) (isSa : Bool) (x : DWord) : PassRun :=
  let i := pSlot x
  let q := r.fsel e (if isSa then pSb w else pSa w)
  let u := tAdd (t32 (r.zi i)) q
  let lo := d32 (r.blk (pSc x) 0)
  let hi := d32 (r.blk (pSc x) 1)
  let z := F64.add (r.zi i) (F64.sub (d32 e.uRef) (d32 u))
  let zc := dMin (dMax z lo) hi
  let r := r.putZ i zc
  let r := r.put (pDst w) (tAdd (t32 zc) q)
  { r with integSat := putBit r.integSat i (F64.eq zc lo || F64.eq zc hi),
           swapClamped := r.swapClamped || (!F64.eq zc z && !F64.isNaN z) }

/-- ADD, with the correction of a transfer pass at the anchor; the anchor's result is u_raw (R97, R113). -/
def PassRun.add (r : PassRun) (e : PassEnv) (w : DWord) : PassRun :=
  if pImmB w 0 then r.put (pDst w) (r.sel e (pSa w) + r.sel e (pSb w))
  else
    let plain := r.put (pDst w) (tAdd (r.fsel e (pSa w)) (r.fsel e (pSb w)))
    match e.anchor with
    | some (k, isSa, x) =>
      if k = r.idx then
        (let r := if e.transfer then r.anchorAdd e w isSa x else plain
         { r with uRaw := r.tile.a.getD (pDst w) 0#32 })
      else plain
    | none => plain

/-- DIFF (R102): seeded on a seeding pass and on a resume pass. -/
def PassRun.diff (r : PassRun) (e : PassEnv) (w : DWord) : PassRun :=
  let x := r.fsel e (pSa w)
  let prev := if 1 ≤ e.seed then x else r.zf (pSlot w)
  (r.putF (pSlot w) x).put (pDst w) (tMul (r.fsel e (pSb w)) (tSub x prev))

/-- FILT1 (R102). -/
def PassRun.filt1 (r : PassRun) (e : PassEnv) (w : DWord) : PassRun :=
  let x := r.fsel e (pSa w)
  let y := if e.seed = 2 then x else r.zf (pSlot w)
  let y := tAdd y (tMul (r.fsel e (pSb w)) (tSub x y))
  (r.putF (pSlot w) y).put (pDst w) y

/-- The largest binary32 magnitude of a step: infinity without a positive rate. -/
def inf32 : B32 := 0x7F800000#32
def inf64 : B64 := 0x7FF0000000000000#64

/-- RATE_LIMIT (R102). -/
def PassRun.rateLimit (r : PassRun) (e : PassEnv) (w : DWord) : PassRun :=
  let x := r.fsel e (pSa w)
  let rate := r.fsel e (pSb w)
  let y := if e.seed = 2 then x else r.zf (pSlot w)
  let step := if F32.lt 0#32 rate then tMul rate (F32.of64 e.t) else inf32
  let y := tAdd y (tMin (tMax (tSub x y) (F32.neg step)) step)
  (r.putF (pSlot w) y).put (pDst w) y

/-- BIQUAD, transposed direct form II (R102). -/
def PassRun.biquad (r : PassRun) (e : PassEnv) (w : DWord) : PassRun :=
  let x := r.fsel e (pSa w)
  let c (j : Nat) := r.blk (pSb w) j
  let i := pSlot w
  let den := tAdd (tAdd 0x3F800000#32 (c 3)) (c 4)
  let num := tMul x (tAdd (tAdd (c 0) (c 1)) (c 2))
  let yss := if F32.isZero den then 0#32 else F32.ftz (F32.div num den)
  let r := if e.seed = 2 then
      (r.putF i (tSub yss (tMul (c 0) x))).putF (i + 1) (tSub (tMul (c 2) x) (tMul (c 4) yss))
    else r
  let s1 := r.zf i
  let s2 := r.zf (i + 1)
  let y := tAdd (tMul (c 0) x) s1
  let r := r.putF i (tAdd (tSub (tMul (c 1) x) (tMul (c 3) y)) s2)
  (r.putF (i + 1) (tSub (tMul (c 2) x) (tMul (c 4) y))).put (pDst w) y

/-- SAT (R96, R97). -/
def PassRun.sat (r : PassRun) (e : PassEnv) (w : DWord) : PassRun :=
  let x := r.fsel e (pSa w)
  let y := tMin (tMax x (r.fsel e (pSb w))) (r.fsel e (pSc w))
  let r := r.put (pDst w) y
  if pImmB w 0 && clipOf x y != 0 then { r with clip := clipOf x y } else r

/-- COMPLY (R101). -/
def PassRun.complyOp (r : PassRun) (e : PassEnv) (w : DWord) : PassRun :=
  let g0 := r.blk (pSc w) 0
  let bad := !(F32.lt 0#32 g0 && F32.isFin g0)
  let g := if bad then F64.ofInt 1 else d32 g0
  let margin := dMin (dMax (d32 (r.blk (pSc w) 1)) 0#64) (F64.ofFrac 1 2)
  let f := F64.sub (F64.ofInt 1) margin
  let hi := F64.mul (d32 e.limPos) f
  let lo := F64.mul (d32 e.limNeg) f
  let dem := r.fsel e (pSa w)
  let meas := d32 (r.fsel e (pSb w))
  let last := d32 e.outLast
  let p := F64.add meas (F64.mul g (F64.sub (d32 dem) last))
  let c := if F64.lt hi p then 1 else if F64.lt p lo then 2 else 0
  let v := if c = 1 then t32 (F64.add last (F64.div (F64.sub hi meas) g))
    else if c = 2 then t32 (F64.add last (F64.div (F64.sub lo meas) g)) else dem
  let r := r.put (pDst w) v
  { r with comply := true, clampPos := c == 1, clampNeg := c == 2, gBad := r.gBad || bad,
           clip := if c = 0 then r.clip else c }

/-- XFADE (R97): binary32, one operation after the other. -/
def PassRun.xfade (r : PassRun) (e : PassEnv) (w : DWord) : PassRun :=
  r.put (pDst w) (tAdd (tMul (tSub 0x3F800000#32 e.w) (F32.ftz e.iOld)) (tMul e.w (F32.ftz e.iNew)))

/-- TRACK (R117). -/
def PassRun.track (r : PassRun) (e : PassEnv) (w : DWord) : PassRun :=
  let base := d32 (r.fsel e (pSa w))
  let c (j : Nat) := d32 (r.blk (pSb w) j)
  let y := if e.seed = 2 then base else r.zi (pSlot w)
  let d := F64.sub (d32 e.trkX) (c 0)
  let f := if pImmB w 0 then
      F64.add (F64.add d (F64.mul (F64.mul (c 2) d) d)) (F64.mul (F64.mul (F64.mul (c 3) d) d) d)
    else d
  let target :=
    if e.trkSrc = 0 then base
    else if e.trkValid then F64.add base (F64.mul (c 1) f)
    else if !e.trkBase then y
    else base
  let step := if F64.lt 0#64 (c 4) then F64.mul (c 4) e.t else inf64
  let y := F64.add y (dMin (dMax (F64.sub target y) (F64.neg step)) step)
  let big := F64.lt e.limF (F64.abs y)
  let y := if big then (if F64.isNeg y then F64.neg e.limF else e.limF) else y
  let r := (r.putZ (pSlot w) y).put (pDst w) (t32 y)
  { r with trkClamped := r.trkClamped || big, trkOut := some (t32 y) }

/-! ### The checkpoint (R121, R122) -/

/-- Words 0 to 30 of a checkpoint slot as bytes in memory order. -/
def ckptBytes (ws : List DWord) : List Byte := (ws.take 31).flatMap (fun w => leBytes 8 w.toNat)

/-- The 32 words that CHECKPOINT posts. -/
def PassRun.image (r : PassRun) (e : PassEnv) : List DWord :=
  let w0 := BitVec.ofNat 64 (bits e.pass 0 48 + 2 ^ 48 * (r.tile.template % 16))
  let lvl := match r.out with
    | some (v, _) => v
    | none => e.outLast
  let clip := if r.clip = 1 then 1 else if r.clip = 2 then 3 else 0
  let ws := w0 :: (rangeFrom 0 16).map r.zi
    ++ [BitVec.ofNat 64 (r.uRaw.toNat + 2 ^ 32 * lvl.toNat), BitVec.ofNat 64 (r.integSat.toNat + 2 ^ 16 * clip)]
    ++ List.replicate 12 0#64
  ws ++ [BitVec.ofNat 64 ((crc32c (ckptBytes ws)).toNat + 2 ^ 32 * bits e.pass 0 32)]

/-- A slot's words are valid (R122). -/
def ckptOk (ws : List DWord) : Bool :=
  let w31 := ws.getD 31 0#64
  bits w31 0 32 == (crc32c (ckptBytes ws)).toNat && bits w31 32 32 == bits (ws.getD 0 0#64) 0 32

/-! ### Executing -/

/-- One primitive (R97). -/
def PassRun.prim (r : PassRun) (e : PassEnv) (w : DWord) : PassRun :=
  let d := pDst w
  let a := r.fsel e (pSa w)
  let b := r.fsel e (pSb w)
  let ai := r.sel e (pSa w)
  let bi := r.sel e (pSb w)
  match pOp w with
  | 0x01 => r.put d (e.sample.getD (pImm w % 8) 0#32)
  | 0x02 => r.put d (e.setp.getD (pImm w % 8) 0#32)
  | 0x08 => r.add e w
  | 0x09 => r.put d (if pImmB w 0 then ai - bi else tSub a b)
  | 0x0A => r.put d (if pImmB w 0 then ai * bi else tMul a b)
  | 0x0B => r.put d (F32.ftz (F32.fma a b (r.fsel e (pSc w))))
  | 0x0C => r.put d (if pImmB w 0 then (if ltS bi ai then bi else ai) else tMin a b)
  | 0x0D => r.put d (if pImmB w 0 then (if ltS ai bi then bi else ai) else tMax a b)
  | 0x0E => r.put d (if bit ai (pImm w % 32) then bi else r.sel e (pSc w))
  | 0x10 => r.sat e w
  | 0x11 => r.integ e w
  | 0x12 => r.diff e w
  | 0x13 => r.filt1 e w
  | 0x14 => r.biquad e w
  | 0x15 => r.rateLimit e w
  | 0x18 => r.complyOp e w
  | 0x19 => r.xfade e w
  | 0x1A => r.track e w
  | 0x20 =>
    if F32.isFin a then { r with out := some (a, r.cyc), uRaw := if e.anchor.isNone then a else r.uRaw }
    else { r with invalid := true }
  | 0x21 => if pImmB w 5 || bit ai (pImm w % 32) then { r with events := r.events ++ [(pImm w / 64) % 2] } else r
  | 0x22 => if r.invalid then r else { r with ckpt := some (r.image e) }
  | _ => r

/-- The primitive compares the lanes (R90): STORE_OUT, EMIT_EVENT, CHECKPOINT, a read of a state slot. -/
def PassEnv.compares (e : PassEnv) (idx : Nat) (w : DWord) : Bool :=
  (decide (0x20 ≤ pOp w) && decide (pOp w ≤ 0x22)) || pSlotted w
    || (e.transfer && (match e.anchor with
        | some (k, _, _) => k == idx
        | none => false))

/-- The pass runs through a list of primitives (R106), with its upsets (R90, R91), until the next φs (R110). -/
def PassRun.go (e : PassEnv) : PassRun → List DWord → PassRun
  | r, [] => r
  | r, w :: ws =>
    let here := e.upsets.filter (fun u => u.index == r.idx)
    let corr := (here.filter (fun u => u.kind == .corrected)).length
    let cyc := r.cyc + pCost w + 2 * corr
    if here.any (fun u => u.kind == .uncorrectable) then { r with stop := some .uncorrectable, corr := r.corr + corr }
    else if 4 * e.span < 5 * cyc + 6 then { r with stop := some .overrun }
    else if here.any (fun u => u.kind == .mismatch) && e.compares r.idx w then
      { r with stop := some .mismatch, corr := r.corr + corr }
    else
      let r := { r with cyc := cyc, corr := r.corr + corr }.prim e w
      PassRun.go e { r with idx := r.idx + 1 } ws

/-- A whole pass of a tile; `uRaw` and `sat` are what the pass before left. -/
def runPass (e : PassEnv) (x : Tile) (uRaw : B32) (sat : BitVec 16) : PassRun :=
  let z := if e.seed = 2 then
      x.prog.foldl (fun z w => if pOp w = 0x11 then z.set (pSlot w) 0#64 else z) x.z
    else x.z
  PassRun.go e { tile := { x with z := z }, uRaw := uRaw, integSat := sat } x.prog

end Sys2Proof.Machine
end

