-- ==== Sys2Proof/Machine/Loop.lean ====
section
/-!
DEFINITION. The Loop Tile Array (chapter 03): passes and outputs of a channel (R105 to R115, R120, R121), tile roles and
bindings (R40, R41, R93), replacements (R115), takeovers (R122 to R126), and the tracking inputs (R116 to R119).
-/

namespace Sys2Proof.Machine

/-! ### Tiles and the template store -/

/-- The wing of a tile (R39). -/
def tileWing (t : Nat) : Nat := if t < 256 then t / 32 else (t - 256) / 2

/-- Committed coefficients of a channel. -/
def State.coefs (s : State) (n : Nat) : List B32 := (rangeFrom 0 32).map (fun i => s.act (chA n (0x480 + 4 * i)))

/-- The image of template `i` in the template store (R335). -/
def State.tplInfo (s : State) (i : Nat) : Option TplInfo := Tbl.get none s.found.tpls i
def State.tplWords (s : State) (i : Nat) : List DWord :=
  match s.tplInfo i with
  | none => []
  | some x => s.panWords s.found.tplBank (i * 256) x.count

/-- The lowest-numbered idle working tile of a wing (R115). -/
def State.idleTile (s : State) (w : Nat) : Option Nat :=
  (rangeFrom (32 * w) 32).find? (fun t => (s.tile t).role == .idle)

/-- The spare that R41 takes for a tile of wing `w`. -/
def State.freeSpare (s : State) (w : Nat) : Option Nat :=
  ([256 + 2 * w, 257 + 2 * w] ++ rangeFrom 256 16).find? (fun t => (s.tile t).role == .spareFree)

/-- A tile is loaded with a template and the channel's committed coefficients, its state zero (R93, R115, R123). -/
def State.loadTile (s : State) (t n tpl : Nat) (role : TileRole) : State :=
  s.setTile t ⟨role, n, tpl, s.tplWords tpl, s.coefs n, List.replicate 16 0#64, List.replicate 32 0#32⟩

/-- A tile that leaves its channel: a working tile becomes idle, a spare is free (R41, R115). -/
def State.releaseTile (s : State) (t : Nat) : State :=
  let x := s.tile t
  if x.role = .fenced then s else s.setTile t { x with role := if t < 256 then .idle else .spareFree, ch := 0 }

/-- A tile is bound to a channel. -/
def State.bindTile (s : State) (n t tpl : Nat) : State :=
  s.modLp n (fun l => { l with tile := some t, template := tpl })

/-- TIL_ERR, its counts and the error line of a tile (R91, R129). -/
def State.tileErr (s : State) (t i : Nat) : State :=
  let s := s.flag (tlA t 4) i
  if i = 2 then s.incSat (tlA t 8) 0 16
  else (if i = 0 then s.incSat (tlA t 8) 16 16 else s).report (0x100 + t) i

def State.lpFlag (s : State) (n i : Nat) : State := s.flag (chA n 0x410) i

/-! ### Tracking sources (R116 to R119) -/

def State.trkSrc (s : State) (n : Nat) : Nat := s.actf (chA n 0x428) 0 2
def State.trkValid (s : State) (n : Nat) : Bool :=
  let x := s.wtrk (wingOf n)
  if s.trkSrc n = 1 then x.aValid else if s.trkSrc n = 2 then x.pValid else false
/-- The channel's selected tracking source is lost (R119). -/
def State.trkLost (s : State) (n : Nat) : Bool := (s.trkSrc n == 1 || s.trkSrc n == 2) && !s.trkValid n

/-- Loss and restore of source `k` (0 TRKA, 1 TRKP) of a wing (R119). -/
def State.trkLoss (s : State) (w k : Nat) : State :=
  let x := s.wtrk w
  let s := s.setTrk w (if k = 0 then { x with aValid := false, aLost := true } else { x with pValid := false, pLost := true })
  (((s.flag (wgA w 0x218) (2 + k)).incSat (wgA w 0x218) (8 + 8 * k) 8).launch (0x800 + 8 * w + 2 * k)).report (0x80 + w) (2 + k)
def State.trkOk (s : State) (w k : Nat) : State :=
  let x := s.wtrk w
  let lost := if k = 0 then x.aLost else x.pLost
  let s := s.setTrk w (if k = 0 then { x with aValid := true, aLost := false } else { x with pValid := true, pLost := false })
  if lost then s.launch (0x800 + 8 * w + 2 * k + 1) else s

/-- A channel of the wing tracks its TRKA input (R116). -/
def State.trkaUsed (s : State) (w : Nat) : Bool := (rangeFrom (16 * w) 16).any (fun n => s.trkSrc n == 1)

/-- A TRKA conversion in volts (R116, R118). -/
def State.trkaSample (s : State) (w : Nat) (v : B32) : State :=
  let x := s.wtrk w
  let good := F32.le (s.rd (wgA w 0x200)) v && F32.le v (s.rd (wgA w 0x204))
  let x := { x with aLast := s.htick, aIn := if good then min (x.aIn + 1) 3 else 0, aOut := if good then 0 else min (x.aOut + 1) 3 }
  let s := s.setTrk w x
  let s := if !x.aValid && x.aIn == 3 then s.trkOk w 0 else s
  let s := if !x.aLost && x.aOut == 3 then s.trkLoss w 0 else s
  if (s.wtrk w).aValid && good then s.wr (wgA w 0x208) v else s

/-- TRKA_TIMEOUT: no sample for 1 ms while a channel uses the input (R118). -/
def State.trkaTimeout (s : State) (w : Nat) : State :=
  let x := s.wtrk w
  if s.trkaUsed w && !x.aLost && decide (500000 ≤ s.since x.aLast) then s.trkLoss w 0 else s

/-- The edge timeout of TRKP in house ticks, with the setting of its start (R118, R214). -/
def State.trkpTmo (s : State) (w : Nat) : Nat := 500 * (s.wtrk w).tmoUs

/-- TRKP_EDGE (R116, R118): edges of the other polarity do not count. -/
def State.trkpEdge (s : State) (w : Nat) (falling : Bool) : State :=
  if s.rb (wgA w 0x20C) 1 != falling then s
  else
    let x := s.wtrk w
    let gap := decide (s.trkpTmo w < s.since x.lastEdge)
    s.setTrk w { x with edges := x.edges + 1, firstEdge := if x.edges = 0 then s.htick else x.firstEdge,
                        lastEdge := s.htick, tmoUs := s.rf (wgA w 0x210) 0 24, gap := x.gap || gap }

/-- TRKP_TIMEOUT (R118). -/
def State.trkpTimeout (s : State) (w : Nat) : State :=
  let x := s.wtrk w
  if !x.pLost && decide (s.trkpTmo w ≤ s.since x.lastEdge) then s.trkLoss w 1 else s

/-- TRKP_GATE_END (R116, R118): the window's value, and the end of a loss; the next window
takes its length now (R214). -/
def State.trkpGate (s : State) (w : Nat) : State :=
  let x := s.wtrk w
  if s.since x.winStart < 500000 * x.gateMs then s
  else
    let count := s.rb (wgA w 0x20C) 0
    let gap := x.gap || decide (s.trkpTmo w < s.since x.lastEdge)
    let need := if count then 1 else 2
    let span := (x.lastEdge - x.firstEdge).toNat
    let v := if count then some (F32.ofInt x.edges)
      else if 2 ≤ x.edges ∧ span ≠ 0 then some (F32.ofFrac ((x.edges - 1 : Nat) * 500000000 : Nat) span) else none
    let s := s.setTrk w { x with winStart := s.htick, gateMs := s.rf (wgA w 0x20C) 16 10, edges := 0, gap := false }
    let s := if !x.pValid && !gap && decide (need ≤ x.edges) then s.trkOk w 1 else s
    match v with
    | some v => if (s.wtrk w).pValid then s.wr (wgA w 0x214) v else s
    | none => s

/-! ### The pass (R105, R106, R110 to R114) -/

/-- φs, L and the period in house ticks. -/
def State.phiS (s : State) (n : Nat) : Nat := s.rf (chA n 0x408) 0 16
def State.lat (s : State) (n : Nat) : Nat := s.rf (chA n 0x408) 16 16

/-- The loop period in seconds, binary64. -/
def State.tOf (s : State) (n : Nat) : B64 := F64.ofFrac (s.kOf n * 256) 1000000000

/-- The reference of a transfer pass and its seeding, from the kind highest in the order of R114. -/
def ChLoop.kinds (l : ChLoop) (uPrev : B32) : Option B32 × Nat :=
  if l.kArming then (some 0#32, 2)
  else match l.kMode with
    | some x => (some x, 2)
    | none =>
      match l.kReplace with
      | some x => (some x, 2)
      | none => (if l.kXfade || l.kCoef then some uPrev else none, if l.kResume then 1 else 0)

/-- The head temperature of a sample in °C; unavailable, it is open (log 2). -/
def State.tempC (s : State) (t : BitVec 16) : State × B32 :=
  if t = 0x8000#16 then s.freeW else (s, F32.ofFrac t.toInt 128)

/-- What a pass that starts now reads (R98, R99, R105); `catch` says it is a catch-up pass. -/
def State.passEnv (s : State) (n : Nat) (x : Tile) (catchup : Bool) (ups : List Upset) : State × PassEnv :=
  let l := s.lp n
  let anchor := anchorOf [] x.prog
  let uPrev := if anchor.isSome then l.uRaw else l.outLast
  let (uRef, seed) := l.kinds uPrev
  let expected := (s.htick.toNat - 8) / 128 * 128
  let sm := (s.ms n).latch
  let q := sm.getD {}
  let late := match sm with
    | some q => if q.edge.toNat < expected then (expected - q.edge.toNat) / 128 else 0
    | none => 2 ^ 31 - 1
  let (s, temp) := match sm with
    | some q => s.tempC q.temp
    | none => (s, 0#32)
  let xn := s.xfNew n
  let cond := b2n q.inPulse + 2 * b2n (late != 0) + 4 * b2n (s.rg n).xfRun + 8 * b2n xn + 16 * b2n (s.trkLost n)
    + 32 * b2n uRef.isSome + 64 * b2n l.kResume + 128 * b2n catchup + 256 * b2n l.clampPos + 512 * b2n l.clampNeg
    + 1024 * b2n (l.integSat != 0#16) + 2048 * b2n ((s.ch n).st == .compliance) + 4096 * s.mode n + 2 ^ 16 * s.vact n + 2 ^ 20 * s.iact n
  let w := wingOf n
  let fz := s.mode n == 2
  let fsC := if fz then s.fsI n (s.iact n) else s.fsC n (s.limRanges n).1
  let e : PassEnv :=
    { transfer := uRef.isSome, uRef := uRef.getD 0#32, seed := seed,
      sample := [q.v, if xn then q.is else q.ip, q.ip, q.is, temp, BitVec.ofNat 32 cond, BitVec.ofNat 32 late, q.seq.setWidth 32],
      setp := [F32.of64 (s.ch n).setptEff, s.rd (chA n 0x124), s.rd (chA n 0x128), s.pulseLevel n, s.fsF n, fsC, l.outLast],
      t := s.tOf n, outLast := l.outLast, clipPrev := l.outClip, uRawPrev := uPrev,
      iOld := q.ip, iNew := if (s.rg n).xfRun then q.is else q.ip, w := if (s.rg n).xfRun then F32.of64 (s.xfW n) else 0#32,
      trkSrc := s.trkSrc n, trkValid := s.trkValid n, trkX := if s.trkSrc n = 1 then s.rd (wgA w 0x208) else s.rd (wgA w 0x214),
      trkBase := s.actb (chA n 0x428) 2, limF := F64.mul (F64.of32 (s.ovr n)) (F64.of32 (s.fsF n)),
      limPos := s.rd (chA n 0x124), limNeg := s.rd (chA n 0x128), span := 128 * s.kOf n, upsets := ups, anchor := anchor,
      pass := l.pass }
  (s, e)

/-- The checkpoint slots of a channel: bank and first word (R121). -/
def State.ckptAt (s : State) (n : Nat) : Option (Nat × Nat) :=
  match s.found.ckptBase with
  | none => none
  | some a =>
    let o := a - 0x2000000 + n * 512
    some (o / 0x80000, o % 0x80000 / 8)

/-- The checkpoint of a pass is posted at tick `t`, or dropped while the previous post runs (R121). -/
def State.ckptPost (s : State) (n : Nat) (t : DWord) (ws : List DWord) : State :=
  let busy := match (s.lp n).ckptEnd with
    | some e => decide ((e - t).toNat < 2 ^ 63 ∧ e ≠ t)
    | none => false
  if busy then s.lpFlag n 8
  else
    let s := s.modLp n (fun l => { l with ckptEnd := some (t + 32#64) })
    match s.ckptAt n with
    | none => s
    | some (b, w) =>
      (List.zip (rangeFrom 0 32) ws).foldl (fun s e => s.unitWrite 1 b (w + 32 * (bits (ws.getD 0 0#64) 0 1) + e.1) e.2) s

/-- TIL_CYC after a completed pass (R129). -/
def State.tileCyc (s : State) (t c : Nat) : State :=
  let s := s.wf (tlA t 0xC) 0 12 c
  s.wf (tlA t 0xC) 16 12 (max (s.rf (tlA t 0xC) 16 12) (min c 4095))

/-- What a pass leaves in the channel, the tile and the registers. -/
def State.passDone (s : State) (n t : Nat) (r : PassRun) (catchup stale : Bool) : State :=
  let l := s.lp n
  let now := s.htick
  let out := match r.out with
    | some (v, c) => some (⟨v, now + BitVec.ofNat 64 (passTicks c)⟩ : OutVal)
    | none => none
  let lostNow := out.isNone && (r.stop == some .mismatch || r.stop == some .uncorrectable)
  let span := if r.stop = some .overrun then 128 * s.kOf n + 1 else passTicks r.cyc
  let s := s.setTile t r.tile
  let s := s.setLp n { l with passEnd := some (now + BitVec.ofNat 64 span), passAt := now, out := out, outBad := r.invalid,
                              lost := if lostNow then l.lost + 1 else l.lost, uRaw := r.uRaw, outClip := r.clip,
                              clampPos := r.clampPos, clampNeg := r.clampNeg, complyRan := l.complyRan || r.comply,
                              integSat := r.integSat, kArming := false, kMode := none, kReplace := none, kXfade := false,
                              kCoef := false, kResume := false, catchAt := none }
  let s := (rangeFrom 0 r.corr).foldl (fun s _ => s.tileErr t 2) s
  let s := match r.stop with
    | some .mismatch => s.tileErr t 0
    | some .uncorrectable => s.tileErr t 1
    | some .overrun => s
    | none => if catchup then s else s.tileCyc t r.cyc
  let s := if r.swapClamped then s.lpFlag n 2 else s
  let s := if r.trkClamped then s.lpFlag n 7 else s
  let s := if stale then s.lpFlag n 9 else s
  let s := if r.gBad then s.lpFlag n 10 else s
  let s := s.wr (chA n 0x420) r.uRaw
  let s := match r.trkOut with
    | some v => s.wr (chA n 0x424) v
    | none => s
  let s := r.events.foldl (fun s k => s.launch (16 * n + 9 + k)) s
  match r.ckpt with
  | some ws => s.ckptPost n (now + BitVec.ofNat 64 (passTicks r.cyc)) ws
  | none => s

/-- The program of a catch-up pass ends at STORE_OUT (R124). -/
def catchProg (ws : List DWord) : List DWord := ws.takeWhile (fun w => pOp w != 0x20) ++ (ws.filter (fun w => pOp w == 0x20)).take 1

/-- A pass runs on the channel's bound tile (R105, R106). -/
def State.passRun (s : State) (n t : Nat) (catchup : Bool) (ups : List Upset) : State :=
  let l := s.lp n
  let s := s.setLp n { l with pass := l.pass + 1 }
  let s := s.wr64 (chA n 0x418) (l.pass + 1)
  let x := { s.tile t with coef := s.coefs n }
  let (s, e) := s.passEnv n x catchup ups
  let r := runPass e { x with prog := if catchup then catchProg x.prog else x.prog } e.uRawPrev l.integSat
  let stale := bit (e.sample.getD 5 0#32) 1
  s.passDone n t { r with tile := { r.tile with prog := x.prog } } catchup stale

/-- A regular φs at which the channel's tile runs no pass, because it is fenced or its spare is not ready: the output
is lost (R123). -/
def State.passLost (s : State) (n : Nat) : State :=
  s.modLp n (fun l => { l with passAt := s.htick, out := none, outBad := false, lost := l.lost + 1 })

/-- A pass still runs at the next φs: the rest is abandoned (R110). -/
def State.passOverrun (s : State) (n t : Nat) : State :=
  let run := match (s.lp n).passEnd with
    | some e => decide ((e - s.htick).toNat < 2 ^ 63 ∧ e ≠ s.htick)
    | none => false
  if run then ((s.lpFlag n 1).incSat (chA n 0x414) 24 8).tileErr t 4 else s

/-- The house tick is a regular φs of the channel. -/
def State.atPhi (s : State) (n : Nat) : Bool :=
  let k := s.kOf n
  k != 0 && s.htick.toNat % (128 * k) == s.phiS n % (128 * k)

/-- LOOP_PASS_START (R105, R110, R111, R124). -/
def State.passStart (s : State) (n : Nat) (ups : List Upset) : State :=
  let l := s.lp n
  if !(s.ch n).st.reg then s
  else
    match l.tile with
    | none => if s.atPhi n then s.passLost n else s
    | some t =>
      if l.catchAt = some s.htick ∧ (s.tile t).role = .bound then s.passRun n t true ups
      else if !s.atPhi n then s
      else if l.take.isSome ∨ (s.tile t).role ≠ .bound then s.passLost n
      else
        let early := match l.startAt with
          | some a => decide ((a - s.htick).toNat < 2 ^ 63 ∧ a ≠ s.htick)
          | none => false
        if early then s else (s.passOverrun n t).passRun n t false ups

/-! ### The output (R107, R109) -/

/-- OUTPUT_LATCH: at φo the delivered value is latched; one that has not arrived is late, and one that is NaN or infinite
is reported (R103). -/
def State.outputLatch (s : State) (n : Nat) : State :=
  let l := s.lp n
  match l.out with
  | none =>
    if !l.outBad ∨ s.since l.passAt < s.lat n ∨ !(s.ch n).st.reg then s
    else
      let s := (s.setLp n { l with outBad := false }).lpFlag n 3
      match l.tile with
      | some t => s.tileErr t 5
      | none => s
  | some o =>
    if s.since l.passAt < s.lat n ∨ !(s.ch n).st.reg then s
    else if (s.htick - o.ready).toNat < 2 ^ 63 then
      let s := s.setLp n { l with out := none, lost := 0 }
      if s.mode n = 2 then s
      else s.modLp n (fun l => { l with outLast := o.val, outFrom := some (s.htick + 8#64) })
    else
      let s := ((s.setLp n { l with out := none }).lpFlag n 0).incSat (chA n 0x414) 0 16
      match l.tile with
      | some t => s.tileErr t 3
      | none => s

/-! ### Template replacement (R115) -/

/-- The present head meets a template's requirement (R291). -/
def State.meetsReq (s : State) (n : Nat) (x : TplInfo) : Bool :=
  (x.reqClass == 0 || x.reqClass == s.headClass n) && (s.headModes n &&& x.reqModes == x.reqModes)

/-- The replacement is refused (R115). -/
def State.replRefused (s : State) (n tpl : Nat) : Bool :=
  let ws := s.tplWords tpl
  match s.tplInfo tpl with
  | none => true
  | some x =>
    (s.idleTile (wingOf n)).isNone || !templateOk ws (s.kOf n) (s.phiS n) (s.lat n)
      || ((s.ch n).st.live && s.mode n != 2 && !ws.any (fun w => pOp w == 0x18))
      || ((s.ch n).headReady && !s.meetsReq n x) || (s.lp n).repl.isSome

/-- A request for template `tpl`: refused, or the lowest idle tile of the wing starts loading. -/
def State.replRequest (s : State) (n tpl : Nat) : State :=
  if tpl = (s.lp n).template then s
  else if s.replRefused n tpl then s.lpFlag n 6
  else
    match s.idleTile (wingOf n) with
    | none => s.lpFlag n 6
    | some t =>
      let s := s.setTile t { s.tile t with role := .loading, ch := n, template := tpl }
      s.modLp n (fun l => { l with repl := some ⟨t, tpl, false⟩ })

/-- The binding moves to the loaded tile; the old one is released, and the next pass is a template-replacement pass. -/
def State.replMove (s : State) (n : Nat) : State :=
  let l := s.lp n
  match l.repl with
  | none => s
  | some r =>
    let s := match l.tile with
      | some t => s.releaseTile t
      | none => s
    let s := s.setTile r.tile { s.tile r.tile with role := .bound, ch := n }
    s.setLp n { l with tile := some r.tile, template := r.template, repl := none, kReplace := some l.uRaw, integSat := 0#16,
                       take := none, startAt := none, catchAt := none }

/-- TEMPLATE_LOAD_DONE: the new tile holds its program, coefficients and state. -/
def State.replLoaded (s : State) (n : Nat) : State :=
  match (s.lp n).repl with
  | none => s
  | some r =>
    if r.loaded then s
    else
      let s := s.loadTile r.tile n r.template .loading
      let s := s.modLp n (fun l => { l with repl := some { r with loaded := true } })
      if (s.ch n).st.reg then s else s.replMove n

/-- At a period boundary a loaded replacement moves (R115). -/
def State.replBoundary (s : State) (n : Nat) : State :=
  match (s.lp n).repl with
  | some r => if r.loaded then s.replMove n else s
  | none => s

/-- A replacement ends with a refusal because a tile was fenced (R115). -/
def State.replCancel (s : State) (n : Nat) : State :=
  match (s.lp n).repl with
  | none => s
  | some r => ((s.releaseTile r.tile).modLp n (fun l => { l with repl := none })).lpFlag n 6

/-! ### Fences and takeovers (R41, R122 to R126) -/

/-- The bound tile of a channel is fenced: a spare starts loading, or none is free (R41, R123, R124). -/
def State.tileLost (s : State) (n w : Nat) : State :=
  let s := s.replCancel n
  let s := s.modLp n (fun l =>
    let wait := match l.out with
      | some o => decide ((o.ready - s.htick).toNat < 2 ^ 63 ∧ o.ready ≠ s.htick)
      | none => false
    { l with passEnd := none, out := if wait then none else l.out, lost := if wait then l.lost + 1 else l.lost,
             startAt := none, catchAt := none })
  match s.freeSpare w with
  | none =>
    let s := s.modLp n (fun l => { l with tile := none, take := none, evNone := true })
    s.report 0x210 0xE0
  | some p =>
    let s := s.setTile p { s.tile p with role := .loading, ch := n, template := (s.lp n).template }
    s.modLp n (fun l => { l with tile := some p, take := some s.htick })

/-- TILE_FENCE (R93, R115, R123). -/
def State.tileFence (s : State) (t : Nat) : State :=
  let x := s.tile t
  if x.role = .fenced then s
  else
    let s := s.setTile t { x with role := .fenced }
    let s := s.takeFence (0x100 + t)
    let s := s.loop.foldl (fun s e => match e.2.repl with
      | some r => if r.tile = t then s.replCancel e.1 else s
      | none => s) s
    s.loop.foldl (fun s e => if e.2.tile = some t then s.tileLost e.1 (tileWing t) else s) s

/-- The newer valid checkpoint slot of a channel (R122). -/
def State.ckptBest (s : State) (n : Nat) : Option (List DWord) :=
  match s.ckptAt n with
  | none => none
  | some (b, w) =>
    if s.owner b != 1 then none
    else
      let a := s.panWords b w 32
      let c := s.panWords b (w + 32) 32
      let no (x : List DWord) := bits (x.getD 0 0#64) 0 48
      if ckptOk a && (!ckptOk c || decide (no c ≤ no a)) then some a else if ckptOk c then some c else none

/-- The spare takes the restored state; without a valid slot its first pass is a template-replacement pass with u_ref =
out_last (R122). -/
def State.restoreTile (s : State) (n t : Nat) : State :=
  match s.ckptBest n with
  | none => s.modLp n (fun l => { l with kReplace := some l.outLast, integSat := 0#16 })
  | some ws =>
    let w18 := ws.getD 18 0#64
    let c := bits w18 16 2
    let s := s.setTile t { s.tile t with z := (ws.drop 1).take 16 }
    s.modLp n (fun l => { l with uRaw := (ws.getD 17 0#64).setWidth 32, integSat := w18.setWidth 16,
                                 outClip := if c = 1 then 1 else if c = 3 then 2 else 0 })

/-- SPARE_READY: the decision at t_R (R124, R126). -/
def State.spareReady (s : State) (n : Nat) : State :=
  let l := s.lp n
  match l.take, l.tile with
  | some _, some t =>
    let s := (s.loadTile t n l.template .bound).restoreTile n t
    let s := (s.lpFlag n 4).incSat (chA n 0x414) 16 8
    let per := 128 * max (s.kOf n) 1
    let h := s.htick.toNat + 8
    let next := h + (s.phiS n + per - h % per) % per
    let live := (s.ch n).st.reg
    let soon := live && decide (s.htick.toNat + per ≤ next) && decide (next - per ≠ l.passAt.toNat)
    let lost := l.lost + b2n soon
    let s := s.modLp n (fun l => { l with take := none, lost := 0, startAt := some (s.htick + 8#64) })
    if 2 ≤ lost then s.modLp n (fun l => { l with evTake := true })
    else if lost = 1 ∧ live ∧ h + s.lat n + 8 ≤ next then
      (s.lpFlag n 5).modLp n (fun l => { l with catchAt := some (s.htick + 8#64) })
    else s
  | _, _ => s

/-- TI_TAKEOVER: HOLD with cause 0x0A (R60, R124). -/
def State.takeover (s : State) (n : Nat) : State :=
  (s.modLp n (fun l => { l with evTake := false })).cause n 0x0A

/-- TI_NOSPARE: RAMPDOWN with cause 0x0E at the next frame-grid edge, and the error line (R67, R86). -/
def State.noSpare (s : State) (n : Nat) : State :=
  let s := s.modLp n (fun l => { l with evNone := false })
  match nextSt 0x0E (s.ch n).st with
  | none => s
  | some _ => (s.report n 0xE0).latchCause n 0x0E

end Sys2Proof.Machine
end

