-- ==== Sys2Proof/Machine/Measure.lean ====
section
/-!
DEFINITION. The measurement path (chapter 04): corrections (R131, R250), the raw stream (R133, R134), apertures (R135 to
R141) and result records (R142 to R144).
-/

namespace Sys2Proof.Machine

/-! ### Corrections (R131, R250, R258) -/

/-- A word of constant set `i` of a channel, as committed (R265). -/
def State.calC (s : State) (n i o : Nat) : B32 := s.act (chA n (0x800 + 0x20 * i + o))

/-- The fast correction of a raw reading with set `i`: binary64, rounded to binary32 (R131, R250). -/
def State.fast (s : State) (n i : Nat) (raw : B32) : B32 :=
  F32.of64 (F64.mul (F64.of32 (s.calC n i 0)) (F64.sub (F64.of32 raw) (F64.of32 (s.calC n i 4))))

/-- The fast-corrected current of range `r`, less the injected-current estimate while one is in force (R258). -/
def State.fastI (s : State) (n r : Nat) (raw : B32) : B32 :=
  match (s.cc n).est with
  | some (q, e) => if q = r then F32.of64 (F64.sub (F64.of32 (s.fast n r raw)) e) else s.fast n r raw
  | none => s.fast n r raw

/-- The last descriptor read from the head, byte `i`, also after the head has gone. -/
def State.lastDesc (s : State) (n i : Nat) : Nat := (((s.lk n).desc).getD i 0#8).toNat
def State.lastFs (s : State) (n i : Nat) : B32 :=
  let f := if i < 16 then 10 + i else 2 + (i - 16)
  BitVec.ofNat 32 (s.lastDesc n (28 * f) + 2 ^ 8 * s.lastDesc n (28 * f + 1) + 2 ^ 16 * s.lastDesc n (28 * f + 2)
    + 2 ^ 24 * s.lastDesc n (28 * f + 3))

/-- The fine correction of a mean with set `i` (R250); without a head temperature the temperature term is left out. -/
def State.fine (s : State) (n i : Nat) (x : B64) (temp : BitVec 16) : B64 :=
  let fs := F64.of32 (s.lastFs n i)
  let c (o : Nat) := F64.of32 (s.calC n i o)
  let u := if F64.isZero fs then 0#64 else F64.div x fs
  let u2 := F64.mul u u
  let y := F64.add x (F64.mul fs (F64.add (F64.mul (c 8) u2) (F64.mul (c 0xC) (F64.mul u2 u))))
  if temp = 0x8000#16 then y
  else F64.mul y (F64.add (F64.ofInt 1) (F64.mul (c 0x10) (F64.sub (F64.ofFrac temp.toInt 128) (c 0x14))))

/-! ### Chutes and flags of the channel -/

def State.recChute (s : State) (n : Nat) : Nat := s.rf (chA n 0x218) 0 8
def State.rawChute (s : State) (n : Nat) : Nat := s.rf (chA n 0x218) 8 8
def State.msFlag (s : State) (n i : Nat) : State := s.flag (chA n 0x220) i
def State.linkLive (s : State) (n : Nat) : Bool := (s.lk n).st == .up || (s.lk n).st == .retrain

/-! ### The raw stream (R133, R134) -/

/-- A raw word is lost (R134). -/
def State.rawDrop (s : State) (n : Nat) : State :=
  ((s.modMs n (fun m => { m with rawMark := true })).incSat (chA n 0x224) 16 16).chFault n (64 + 1)

/-- The word of block `j` goes to the raw Chute, after a marker where one is due (R133, R134). -/
def State.rawPush (s : State) (n j : Nat) (w : DWord) : State :=
  let c := s.rawChute n
  if (s.ms n).rawMark then
    (if s.chuFree c < 2 then s.rawDrop n
     else
       let s := (s.chuPush c (128 + n) (BitVec.ofNat 64 (0x7FC00001 + 2 ^ 32 * (j % 2 ^ 32)))).1
       let r := s.chuPush c (128 + n) w
       let s := r.1.modMs n (fun m => { m with rawMark := false })
       if r.2 then s.wr (chA n 0x260) (BitVec.ofNat 32 (j + 1)) else s.rawDrop n)
  else
    let r := s.chuPush c (128 + n) w
    if r.2 then r.1.wr (chA n 0x260) (BitVec.ofNat 32 (j + 1)) else r.1.rawDrop n

/-- The raw word of a block's sums. -/
def rawWord (k : Nat) (v i : B64) : DWord :=
  if k = 0 then 0x7FC000007FC00000#64
  else F32.of64 (F64.div i (F64.ofInt k)) ++ F32.of64 (F64.div v (F64.ofInt k))

/-- An arrival edge of the raw stream: a good frame's values, or none (R133). -/
def State.rawFrame (s : State) (n : Nat) (e : DWord) (val : Option (B32 × B32)) : State :=
  let m := s.ms n
  let d := s.actf (chA n 0x210) 8 17
  let pos := (e - m.rawT0).toNat / 128
  if !m.rawOn || decide (2 ^ 63 ≤ (e - m.rawT0).toNat) || pos == 0 || d == 0 then s
  else
    let j := (pos - 1) / d
    let m := if j % 2 ^ 32 = m.rawJ.toNat then m else { m with rawJ := BitVec.ofNat 32 j, rawGood := 0, rawV := 0#64, rawI := 0#64 }
    let m := match val with
      | some (v, i) => { m with rawGood := m.rawGood + 1, rawV := F64.add m.rawV (F64.of32 v), rawI := F64.add m.rawI (F64.of32 i) }
      | none => m
    if pos % d = 0 then
      (s.setMs n { m with rawJ := BitVec.ofNat 32 (j + 1), rawGood := 0, rawV := 0#64, rawI := 0#64 }).rawPush n j
        (rawWord m.rawGood m.rawV m.rawI)
    else s.setMs n m

/-- The stream starts, restarts or ends at a boundary that committed MEAS_RAW (R133). -/
def State.rawBoundary (s : State) (n : Nat) (old new : Word) : State :=
  let start (s : State) (mark : Bool) : State :=
    let s := s.wr64 (chA n 0x258) s.htick
    s.modMs n (fun m => { m with rawOn := true, rawT0 := s.htick, rawJ := 0#32, rawGood := 0, rawV := 0#64, rawI := 0#64, rawMark := mark })
  if bit new 0 && !bit old 0 then start s false
  else if !bit new 0 && bit old 0 then s.modMs n (fun m => { m with rawOn := false })
  else if bit new 0 && bits new 8 17 != bits old 8 17 then (start s true).wr (chA n 0x260) 0#32
  else s

/-- A flush of Chute `c` is a drop for every raw stream that runs into it (R134). -/
def State.rawFlushed (s : State) (c : Nat) : State :=
  s.meas.foldl (fun s e => if e.2.rawOn && s.rawChute e.1 == c then s.rawDrop e.1 else s) s

/-- Chute `c` is flushed, with what that means to the raw streams (R376, R134). -/
def State.flushChute (s : State) (c : Nat) : State := (s.chuFlush c true).rawFlushed c

/-- A flush that acts in the tick of one push of an item: that word is discarded and not stored, the words before it were
pushed in earlier ticks, and the words after it are pushed in later ones (R376, R377). -/
def State.flushPush (s : State) (c : Nat) : State :=
  let s := (s.chuFlush c false).rawFlushed c
  s.setChute c { s.chute c with flush := false, pushed := none }

/-! ### Opening apertures (R135, R136, R140) -/

def apKind (c : Word) : Nat := bits c 0 2
def apTrig (c : Word) : Bool := bits c 2 2 == 1

/-- The mains position at a recent edge. -/
def State.mainsEdgePos (s : State) (e : DWord) : Nat :=
  (if (e - s.mains.posAt).toNat < 2 ^ 63 then s.mainsPos e else s.mains.pos).toNat

/-- The turn counter at a recent edge: one less while the tick-in-turn has wrapped since. -/
def State.turnEdge (s : State) (e : DWord) : Word :=
  if e ≠ s.htick ∧ s.mach.tit < s.titAt e then s.mach.turn - 1#32 else s.mach.turn

/-- The wing's window table (R137, R156). -/
def State.windows (s : State) (w : Nat) : List (Nat × Nat) :=
  (rangeFrom 0 16).map (fun i => (s.rf (wgA w (0x300 + 8 * i)) 0 20, s.rf (wgA w (0x304 + 8 * i)) 0 20))

/-- An aperture opens at edge `eo` with the settings committed then (R135). -/
def State.apOpen (s : State) (n : Nat) (eo : DWord) : State :=
  let cfg := s.act (chA n 0x200)
  let w := wingOf n
  s.modMs n (fun m => { m with ap :=
    { m.ap with phase := .opened, eo := eo, cfg := cfg, len := s.act (chA n 0x204), nplc := s.act (chA n 0x208),
                win := s.act (chA n 0x20C), wins := s.windows w, skew := s.rf (wgA w 0x380) 0 12, nExp := 0, nVal := 0,
                sv := 0#64, rs := [], stat := 0#32, stO := (s.ch n).st, mainsO := s.mainsEdgePos eo, turnO := s.turnEdge eo,
                cutAt := none, reopen := false, temp := 0x8000#16 } })

/-- The opening of an aperture waits for its edge from now on (R136). -/
def State.apPend (s : State) (n : Nat) : State :=
  s.modMs n (fun m => { m with ap := { m.ap with phase := .pending, mainsO := (s.mainsPos s.htick).toNat, turnO := s.mach.turn,
                                                  cutAt := none, reopen := false } })

/-- The kind needs a wrap of the mains phase, or a turn advance, before it opens (R136). -/
def apWaits (c : Word) : Bool := apKind c == 2 || (apKind c == 1 && bit c 6)

/-- An aperture may open at all (R130, R140). -/
def State.apFree (s : State) (n : Nat) : Bool :=
  s.linkLive n && !((s.ms n).ap.noHead && !(s.ch n).headReady) && !(s.ms n).ap.noTime

/-- APERTURE_OPEN: a pending aperture opens at the first frame-grid edge at which its condition holds (R136). -/
def State.apOpenDue (s : State) (n : Nat) : State :=
  let a := (s.ms n).ap
  let c := s.act (chA n 0x200)
  let ready := if apKind c = 2 then s.mach.turn != a.turnO
    else if apWaits c then (s.mainsPos s.htick).toNat / 65536 != a.mainsO / 65536 else true
  if a.phase = .pending ∧ s.onGrid ∧ apKind c ≠ 3 ∧ ready ∧ s.apFree n then s.apOpen n s.htick else s

/-- An aperture trigger (R136). -/
def State.apTrigger (s : State) (n : Nat) : State :=
  let a := (s.ms n).ap
  let c := s.act (chA n 0x200)
  if !apTrig c then s.msFlag n 2
  else if apKind c = 3 then s
  else
    match a.phase with
    | .closed => s.apPend n
    | .pending => if bit c 7 then s.apPend n else s.msFlag n 2
    | .opened =>
      if bit c 7 then
        s.modMs n (fun m => { m with ap := { a with cutAt := some (s.htick + BitVec.ofNat 64 (toEdge s.htick)), reopen := true,
                                                    stat := setBit a.stat 11 } })
      else s.msFlag n 2

/-- The open aperture closes early at edge `e` (R135, R140). -/
def State.apCut (s : State) (n : Nat) (e : DWord) : State :=
  s.modMs n (fun m =>
    if m.ap.phase = .opened then { m with ap := { m.ap with cutAt := some e, reopen := false, stat := setBit m.ap.stat 11 } }
    else m)

/-- ap_stop: the open aperture closes at the next frame-grid edge (R140). -/
def State.apStop (s : State) (n : Nat) : State := s.apCut n (s.htick + BitVec.ofNat 64 (toEdge s.htick))

/-- The first frame-grid edge at or after now. -/
def State.edgeFrom (s : State) : DWord := if s.onGrid then s.htick else s.htick + BitVec.ofNat 64 (toEdge s.htick)

/-- The head is declared absent: the open aperture closes, and none opens before head_ready (R140). -/
def State.apNoHead (s : State) (n : Nat) : State :=
  (s.apCut n s.edgeFrom).modMs n (fun m => { m with ap := { m.ap with noHead := true, phase := if m.ap.phase = .pending then .closed else m.ap.phase } })

/-- A domain (0 machine, 1 mains) is no longer usable: apertures that use it close with timebase_lost (R140). -/
def State.apTimeLost (s : State) (d : Nat) : State :=
  s.meas.foldl (fun s e =>
    let a := e.2.ap
    let kind := if d = 0 then 2 else 1
    if a.phase = .opened ∧ apKind a.cfg = kind then
      (s.apCut e.1 s.edgeFrom).modMs e.1 (fun m => { m with ap := { m.ap with stat := setBit m.ap.stat 10, noTime := true } })
    else if a.phase = .pending ∧ apKind (s.act (chA e.1 0x200)) = kind then
      s.modMs e.1 (fun m => { m with ap := { m.ap with noTime := true } })
    else s) s

/-- A domain has relocked: apertures that wait for it open under R136 again (R140). -/
def State.apTimeBack (s : State) (d : Nat) : State :=
  s.meas.foldl (fun s e =>
    let a := e.2.ap
    if a.noTime ∧ apKind (s.act (chA e.1 0x200)) = (if d = 0 then 2 else 1) then
      (let s := s.modMs e.1 (fun m => { m with ap := { m.ap with noTime := false } })
       if a.phase = .pending then s.apPend e.1 else s)
    else s) s

/-- Continuous apertures start, and an aperture ends when ap_kind = 3 is committed (R135, R136); `old` is the setting
before this boundary's commit. -/
def State.apBoundary (s : State) (n : Nat) (old : Word) : State :=
  let c := s.act (chA n 0x200)
  let s := if apKind c = 3 ∧ apKind old ≠ 3 then
      (s.apCut n s.htick).modMs n (fun m => { m with ap := { m.ap with phase := if m.ap.phase = .pending then .closed else m.ap.phase } })
    else s
  if apKind c ≠ 3 ∧ !apTrig c ∧ (s.ms n).ap.phase = .closed ∧ s.apFree n then
    (if apWaits c then s.apPend n else s.apOpen n s.htick)
  else s

/-! ### Frames in an aperture (R137 to R141) -/

/-- Quality of a frame (R130). -/
inductive Qual where
  | missing | frozen | held | invalid | good
deriving DecidableEq, Repr

/-- What a good frame gives the measurement path: voltage, measured current, and the parts by range with their
weights (R131, R132, R139). -/
structure MeasVal where
  v : B32
  i : B32
  parts : List (Nat × B64 × B32)
  ovr : Bool
  temp : BitVec 16
deriving DecidableEq, Repr

/-- Tick-in-turn `x` lies in window `w` (R137). -/
def inWindow (x : Nat) (w : Nat × Nat) : Bool :=
  if w.1 < w.2 then decide (w.1 ≤ x) && decide (x < w.2)
  else if w.2 < w.1 then decide (w.1 ≤ x) || decide (x < w.2) else false

/-- The frame of edge `e` is inside the selected windows (R137). -/
def State.apInside (s : State) (a : Aper) (e : DWord) : Bool :=
  if apKind a.cfg != 2 then true
  else
    let x := s.titAt (e - BitVec.ofNat 64 a.skew)
    (List.zip (rangeFrom 0 16) a.wins).any (fun p => bit a.win p.1 && inWindow x p.2)

/-- The domain that the aperture uses is in holdover. -/
def State.apHoldover (s : State) (a : Aper) : Bool :=
  (apKind a.cfg == 2 && s.mach.st == .holdover) || (apKind a.cfg == 1 && s.mains.st == .holdover)

/-- A part of the measured current is added to the sums of its range (R139). -/
def apPart (t : Tbl RSum) (p : Nat × B64 × B32) : Tbl RSum :=
  Tbl.upd {} t p.1 (fun x => ⟨F64.add x.s (F64.mul p.2.1 (F64.of32 p.2.2)), F64.add x.w p.2.1⟩)

/-- A frame of edge `e` falls into the open aperture (R137 to R141). -/
def State.apFrame (s : State) (n : Nat) (e : DWord) (q : Qual) (pulse : Bool) (val : Option MeasVal) : State :=
  let m := s.ms n
  let a := m.ap
  let after := (e - a.eo).toNat
  if a.phase ≠ .opened ∨ after = 0 ∨ 2 ^ 63 ≤ after then s
  else
    let st := if (s.rg n).xfRun then setBit a.stat 5 else a.stat
    let st := if (s.ch n).st = .compliance then setBit st 4 else st
    let st := if s.apHoldover a then setBit st 9 else st
    let sel := bits a.cfg 4 2
    let pass := (sel != 1 || pulse) && (sel != 2 || !pulse)
    if !s.apInside a e then s.setMs n { m with ap := { a with stat := st } }
    else if !pass then s.setMs n { m with ap := { a with stat := setBit st 7 } }
    else
      let a := { a with stat := st, nExp := a.nExp + 1 }
      match q, val with
      | .good, some v =>
        s.setMs n { m with ap := { a with nVal := a.nVal + 1, sv := F64.add a.sv (F64.of32 v.v), rs := v.parts.foldl apPart a.rs,
                                          temp := v.temp, stat := if v.ovr then setBit st 3 else st } }
      | .frozen, _ => s.setMs n { m with ap := { a with stat := setBit st 2 } }
      | .held, _ => s.setMs n { m with ap := { a with stat := setBit (setBit st 1) 6 } }
      | _, _ => s.setMs n { m with ap := { a with stat := setBit st 1 } }

/-- The aperture closes at edge `e` (R135, R136, R140). -/
def State.apEnds (s : State) (a : Aper) (e : DWord) : Bool :=
  let cut := match a.cutAt with
    | some c => decide ((e - c).toNat < 2 ^ 63)
    | none => false
  a.phase == .opened && (cut ||
    (if apKind a.cfg = 0 then decide (128 * bits a.len 0 26 ≤ (e - a.eo).toNat) && decide ((e - a.eo).toNat < 2 ^ 63)
     else if apKind a.cfg = 1 then
       (let d := (BitVec.ofNat 48 (s.mainsEdgePos e) - BitVec.ofNat 48 a.mainsO).toNat
        decide (d < 2 ^ 47) && decide (65536 * bits a.nplc 0 14 ≤ 100 * d))
     else if apKind a.cfg = 2 then
       (let d := (s.turnEdge e - a.turnO).toNat
        decide (d < 2 ^ 31) && decide (bits a.win 16 16 ≤ d))
     else false))

/-- The ranges byte of a record (R142). -/
def State.rangesByte (s : State) (n : Nat) : Nat := s.iact n + 16 * s.vact n

/-- NaN as R139 writes it. -/
def recNaN : B64 := 0x7FF8000000000000#64

/-- The record of the aperture that closes now (R139, R141, R142). -/
def State.apRecord (s : State) (n : Nat) (a : Aper) : Rec :=
  let m := s.ms n
  let k := F64.ofInt a.nVal
  let v := if a.nVal = 0 then recNaN else s.fine n (16 + s.vact n) (F64.div a.sv k) a.temp
  let i := if a.nVal = 0 then recNaN
    else a.rs.foldl (fun t p =>
      if F64.lt 0#64 p.2.w then
        F64.add t (F64.mul (F64.div p.2.w k) (s.fine n p.1 (F64.div p.2.s p.2.w) a.temp)) else t) 0#64
  let st := a.stat
  let st := putBit st 0 (a.nVal != 0)
  let st := if a.nVal * 100 < bits a.cfg 8 8 * a.nExp then setBit st 8 else st
  let st := if bit st 10 then clrBit st 9 else st
  let st := if (s.cc n).src = 1 then setBit st 12 else st
  let st := if s.since (s.ch n).transTs < s.since a.eo ∨ (s.ch n).st ≠ a.stO then setBit st 14 else st
  let st := setBits (setBits st 16 2 (apKind a.cfg)) 20 3 (s.ch n).st.code
  ⟨v, i, s.htick, BitVec.ofNat 64 (st.toNat + 2 ^ 32 * m.seq.toNat + 2 ^ 48 * n + 2 ^ 56 * s.rangesByte n), a.nVal, a.nExp, s.htick, none⟩

/-- At T_c the aperture closes and its record is built; the next aperture opens at the close edge (R136, R139). -/
def State.apClose (s : State) (n : Nat) (e : DWord) : State :=
  let a := (s.ms n).ap
  if !s.apEnds a e then s
  else
    let r := s.apRecord n a
    let s := s.modMs n (fun m => { m with seq := m.seq + 1, rcd := some r, ap := { m.ap with phase := .closed, cutAt := none, reopen := false } })
    let c := s.act (chA n 0x200)
    if apKind c ≠ 3 ∧ s.apFree n ∧ (a.reopen ∨ !apTrig c) then s.apOpen n e else s

/-! ### Pushing records (R143, R144) -/

/-- The words of a record. -/
def Rec.words (r : Rec) : List DWord := [r.w0, r.w1, r.w2, r.w3]

/-- MEAS_LAST takes a record, and ev_record is produced (R143). -/
def State.recLast (s : State) (n : Nat) (r : Rec) : State :=
  let s := ((s.wr64 (chA n 0x230) r.w0).wr64 (chA n 0x238) r.w1).wr64 (chA n 0x240) r.w2
  let s := (s.wr (chA n 0x248) (r.w3.setWidth 32)).wr (chA n 0x24C) ((r.w3 >>> 32).setWidth 32)
  ((s.wr (chA n 0x250) (BitVec.ofNat 32 (r.nVal % 2 ^ 26))).wr (chA n 0x254) (BitVec.ofNat 32 (r.nExp % 2 ^ 26))).launch (16 * n + 11)

/-- Words go to Chute `c`, with a flush acting in the tick of push `q` of them (R144, R377); how many remain is
counted. -/
def State.pushWords (s : State) (c u : Nat) (fl : Option Nat) : Nat → List DWord → State
  | _, [] => s
  | k, w :: ws =>
    State.pushWords (if fl = some k then s.flushPush c else (s.chuPush c u w).1) c u fl (k + 1) ws

/-- RECORD_PUSH (R143, R144): from T_c + 24 on; `flushAt` is the push in whose tick a flush acts. -/
def State.recPush (s : State) (n : Nat) (fl : Option Nat) : State :=
  match (s.ms n).rcd with
  | none => s
  | some r =>
    if r.repush.isSome ∨ s.since r.tc < 24 then s
    else
      let c := s.recChute n
      if s.chuFree c < 4 then
        ((s.modMs n (fun m => { m with rcd := none })).incSat (chA n 0x224) 0 16).chFault n 64
      else
        let s := s.pushWords c n fl 0 r.words
        match fl with
        | some q =>
          if q < 4 then s.modMs n (fun m => { m with rcd := some { r with repush := some (3 - q) } })
          else (s.modMs n (fun m => { m with rcd := none })).recLast n r
        | none => (s.modMs n (fun m => { m with rcd := none })).recLast n r

/-- RECORD_REPUSH (R144): filler words complete the group, and the whole record is pushed once more; a second flush
abandons it. -/
def State.recRepush (s : State) (n : Nat) (fl : Option Nat) : State :=
  match (s.ms n).rcd with
  | none => s
  | some r =>
    match r.repush with
    | none => s
    | some k =>
      if s.since r.tc < 32 then s
      else
        let fill := if k = 0 then [] else List.replicate (4 - k) allOnes
        let ws := fill ++ r.words
        let s := (s.modMs n (fun m => { m with rcd := none })).msFlag n 4
        let torn := match fl with
          | some q => decide (q < ws.length)
          | none => false
        match fl with
        | some q => if torn then (s.pushWords (s.recChute n) n fl 0 (ws.take (q + 1))).chFault n (64 + 3)
          else (s.pushWords (s.recChute n) n none 0 ws).recLast n r
        | none => (s.pushWords (s.recChute n) n none 0 ws).recLast n r

end Sys2Proof.Machine
end

