-- ==== Sys2Proof/Machine/Link.lean ====
section
/-!
DEFINITION. The Novern Link (chapter 09): link checks, training, the descriptor, the management sub-channel, absence,
what a taken-in SAMPLE frame does, and the downlink frames.
-/

namespace Sys2Proof.Machine

/-! ### Frames (R269 to R272, R276, R277) -/

/-- Byte `i` of a frame, symbol 1 + i: byte 0 is the type byte. -/
def frB (f : Frame) (i : Nat) : Nat := (f.bytes.getD i 0#8).toNat
/-- `w` payload bytes from payload byte `p` on, little-endian (R270). -/
def frP (f : Frame) (p w : Nat) : Nat := leNat ((f.bytes.drop (1 + p)).take w)
/-- A bit of the head status word. -/
def frS (f : Frame) (i : Nat) : Bool := frP f 12 4 / 2 ^ i % 2 == 1
/-- A frame that carries a sample: SAMPLE or MGMT_RESP (R271). -/
def frSample (f : Frame) : Bool := frB f 0 == 0x20 || frB f 0 == 0x60 || frB f 0 == 0x61
def frIdle (f : Frame) : Bool := frB f 0 == 0
def frDesc (f : Frame) : Bool := decide (0x40 ≤ frB f 0) && decide (frB f 0 ≤ 0x40 + 26)
/-- The CRC of a frame matches (R270). -/
def frCrc (f : Frame) : Bool := crc16 (f.bytes.take 29) == 256 * frB f 29 + frB f 30

/-- The sequence advance of a sample frame; 1 where no frame passed before it (R280). -/
def State.frAdvance (s : State) (n : Nat) (f : Frame) : Nat :=
  match (s.lk n).lastSeq with
  | none => 1
  | some q => (BitVec.ofNat 16 (frP f 18 2) - q).toNat

def State.lnkFlag (s : State) (n i : Nat) : State := s.flag (chA n 0x608) i
/-- A link flag with its report on the wing's error line (R301). -/
def State.lnkFault (s : State) (n i : Nat) : State := s.chFault n (0xA0 + i)

/-- The link checks of R272, with the flags and counts of a failure (R301, R302). -/
def State.linkCheck (s : State) (n : Nat) (f : Frame) : State × Bool :=
  let slip := (s.lk n).slip
  let s := s.modLk n (fun l => { l with slip := false })
  if !f.codeOk then ((s.lnkFlag n 1).incSat (chA n 0x60C) 16 16, false)
  else if !frCrc f then ((s.lnkFlag n 0).incSat (chA n 0x60C) 0 16, false)
  else if !(frSample f || frIdle f || frDesc f) || slip then (s, false)
  else if frSample f && decide (256 ≤ s.frAdvance n f) then ((s.lnkFault n 3).incSat (chA n 0x610) 16 8, false)
  else (s, true)

/-- The link takes no uplink: it is disabled, or its wing sleeps (R287, R490). -/
def State.linkOff (s : State) (n : Nat) : Bool := !s.rb (chA n 0x600) 0 || s.sleeping (wingOf n)

/-- The arrival edge of the frame whose take-in tick it is (R44). -/
def State.arrival (s : State) : DWord := BitVec.ofNat 64 ((s.htick.toNat - 8) / 128 * 128)

/-! ### The management sub-channel (R292, R293, R303) -/

/-- The outstanding request ends with a timeout (R293). -/
def State.mgmtLost (s : State) (n : Nat) : State :=
  match (s.lk n).out with
  | none => s
  | some o =>
    let s := (s.lnkFault n 9).incSat (chA n 0x610) 24 8
    if o.host then (s.modLk n (fun l => { l with out := none })).flag (chA n 0xC1C) 2
    else s.modLk n (fun l => { l with out := none, calRsp := some (o.req.getD 0 0#8, none) })

/-- The time in which a response must arrive, in house ticks (R292). -/
def mgmtLimit (op : Nat) : Nat := if 0x10 ≤ op ∧ op ≤ 0x13 then 5000000 else 2048

/-- MGMT_TIMEOUT. -/
def State.mgmtTimeout (s : State) (n : Nat) : State :=
  match (s.lk n).out with
  | none => s
  | some o => if mgmtLimit (o.req.getD 0 0#8).toNat ≤ s.since o.start then s.mgmtLost n else s

/-- A response is complete (R292, R303). -/
def State.mgmtDone (s : State) (n : Nat) (o : MgmtOut) (r : List Byte) : State :=
  let st := r.getD 2 0#8
  if o.host then
    let s := s.modLk n (fun l => { l with out := none })
    let s := (rangeFrom 0 3).foldl (fun s i => s.wr (chA n (0xC10 + 4 * i)) (BitVec.ofNat 32 (leNat ((r.drop (4 * i)).take 4)))) s
    (s.flag (chA n 0xC1C) 1).wf (chA n 0xC1C) 8 8 st.toNat
  else s.modLk n (fun l => { l with out := none, calRsp := some (o.req.getD 0 0#8, some st) })

/-- A passed frame meets the outstanding request: the two fragments come in consecutive frames (R292). -/
def State.mgmtFrame (s : State) (n : Nat) (f : Option Frame) : State :=
  match (s.lk n).out with
  | none => s
  | some o =>
    let s := s.modLk n (fun l => { l with out := some { o with frag0 := none } })
    match f with
    | none => s
    | some f =>
      let p := (f.bytes.drop 23).take 6
      if frB f 0 = 0x60 then
        (if p.getD 0 0#8 = o.req.getD 0 0#8 ∧ p.getD 1 0#8 = o.req.getD 1 0#8 then
           s.modLk n (fun l => { l with out := some { o with frag0 := some p } })
         else s)
      else if frB f 0 = 0x61 then
        (match o.frag0 with
         | some a => s.mgmtDone n o (a ++ p)
         | none => s)
      else s

/-- HMW_CMD send (R293, R294, R303). -/
def State.hmwSend (s : State) (n : Nat) : State :=
  let l := s.lk n
  let req := (rangeFrom 0 3).foldl (fun b i => b ++ leBytes 4 (s.rd (chA n (0xC00 + 4 * i))).toNat) []
  let op := (req.getD 0 0#8).toNat
  let busy := l.hostQ.isSome || (match l.out with
    | some o => o.host
    | none => false)
  if busy || (decide (0x10 ≤ op) && decide (op ≤ 0x13) && s.wingMode (wingOf n) != 5) then s.flag (chA n 0xC1C) 3
  else s.setLk n { l with hostQ := some req }

/-! ### Link states (R283 to R287) -/

/-- Training starts at step 1. -/
def Link.restart (l : Link) : Link := { l with step := 1, goodIdle := 0, confFrom := none, goSent := 0 }

/-- Step 3 or 4 of training has failed: it restarts at step 1 (R283). -/
def State.trainFail (s : State) (n : Nat) : State := (s.modLk n Link.restart).lnkFault n 5

/-- The link enters RETRAIN (R284): counted and reported, and an outstanding request ends (R293). -/
def State.retrain (s : State) (n : Nat) : State :=
  let s := s.modLk n (fun l => { l.restart with st := .retrain, fromUp := true, badRun := 0, slip := false })
  ((s.incSat (chA n 0x610) 0 8).report n 0xA4).mgmtLost n

/-- LNK_CMD retrain (R284). -/
def State.lnkRetrain (s : State) (n : Nat) : State := if (s.lk n).st = .up then s.retrain n else s

/-- What a declaration of absence does beside the channel's state (R287): the link returns to DOWN, the gains of its
monitors are gone (R220), and no aperture opens before head_ready (R140). -/
def State.headLost (s : State) (n : Nat) : State :=
  let s := s.mgmtLost n
  let s := s.modLk n (fun l => { l.restart with st := .down, present := false, descValid := false, ack := false, lastSeq := none,
                                                noGood := 0, badRun := 0, fromUp := false, slip := false, prevPass := none,
                                                buf := [], failRun := 0 })
  let s := s.modCh n (fun c => { c with headReady := false, headLoading := false, goodRun := 0, badRun := 0, frozenRun := 0 })
  (s.apNoHead n).cmpRefreshAll n

/-- The head is declared absent (R287): a live channel is quenched with cause 0x16 (R60, R301). -/
def State.headGone (s : State) (n : Nat) : State :=
  ((if (s.ch n).st.live then s.report n 0xE1 else s).cause n 0x16).headLost n

/-- HEAD_ABSENT: 256 consecutive frames without a good one (R287). -/
def State.headAbsent (s : State) (n : Nat) : State :=
  let l := s.lk n
  if l.present && decide (256 ≤ l.noGood) then s.headGone n else s

/-- The link is not DOWN, or has a head. -/
def Link.busy (l : Link) : Bool := l.present || l.st != .down

/-- link_en is written 0: the head is declared absent at once (R287). -/
def State.linkDisable (s : State) (n : Nat) : State :=
  let s := s.wb (chA n 0x600) 0 false
  if (s.lk n).busy then s.headGone n else s

/-- LNK_CMD reenum (R302): TRAIN with desc_req = 1, refused unless the channel is QUENCHED or FENCED. -/
def State.lnkReenum (s : State) (n : Nat) : State :=
  if (s.ch n).st.live then s.lnkFlag n 12
  else if (s.lk n).st = .down then s
  else
    let s := s.mgmtLost n
    let s := s.modLk n (fun l => { l.restart with st := .train, descValid := false, ack := false, fromUp := false, badRun := 0,
                                                  prevPass := none, buf := [], failRun := 0 })
    (s.modCh n (fun c => { c with headReady := false, headLoading := false })).cmpRefreshAll n

/-- ELASTIC_SLIP (R286, R284). -/
def State.elasticSlip (s : State) (n : Nat) : State :=
  let l := s.lk n
  if s.linkOff n || l.st == .down then s
  else
    let again := match l.lastSlip with
      | some t => decide (s.since t ≤ 500000)
      | none => false
    let s := s.setLk n { l with slip := true, lastSlip := some s.htick, ebFill := 4 }
    let s := (s.lnkFault n 2).incSat (chA n 0x610) 8 8
    if l.st == .up && again then s.retrain n else s

/-! ### Training (R283) -/

/-- A good uplink IDLE frame in DOWN, TRAIN or RETRAIN; `delay` is the tx_delay that the arrival phase measured asks
for, `onTick` says that the frame arrives at the trained tick. -/
def State.trainIdle (s : State) (n : Nat) (f : Frame) (delay : Nat) (onTick : Bool) : State :=
  let l := s.lk n
  let locked := frP f 0 1 % 2 == 1
  if l.st = .down then
    (if locked then
       s.setLk n { l.restart with st := .train, present := true, epoch := frP f 4 2, goodIdle := 1, fromUp := false }
     else s)
  else if l.step = 1 then
    (if !locked then s.setLk n { l with goodIdle := 0 }
     else if 3 ≤ l.goodIdle then s.setLk n { l with step := 2, goodIdle := 0, txDelay := delay, ebFill := 4, confFrom := none }
     else s.setLk n { l with goodIdle := l.goodIdle + 1 })
  else if !locked then s.trainFail n
  else if l.step = 2 then
    (let counts := match l.confFrom with
       | some t => decide (0 < (s.htick - t).toNat ∧ (s.htick - t).toNat < 2 ^ 63)
       | none => false
     if !counts then s
     else if frP f 1 1 % 32 != l.txDelay then s.setLk n { l with goodIdle := 0 }
     else if !onTick then s.trainFail n
     else if 3 ≤ l.goodIdle then s.setLk n { l with step := 3, goodIdle := 0, goSent := 0 }
     else s.setLk n { l with goodIdle := l.goodIdle + 1 })
  else s

/-- A frame that fails its checks in training: the frames that follow count anew (R283). -/
def State.trainBad (s : State) (n : Nat) : State := s.modLk n (fun l => { l with goodIdle := 0 })

/-! ### The descriptor (R289 to R291, R83, R73) -/

/-- A binary32 is finite and positive. -/
def finPos (x : Nat) : Bool := F32.isFin (BitVec.ofNat 32 x) && F32.lt 0#32 (BitVec.ofNat 32 x)

/-- One range record of a descriptor (R289). -/
def rangeRecOk (r : List Byte) (declared : Bool) : Bool :=
  if declared then
    finPos (leNat (r.take 4)) && finPos (leNat ((r.drop 4).take 4)) && finPos (leNat ((r.drop 8).take 4))
      && (let k := (r.getD 26 0#8).toNat % 8
          k == 0 || (decide (2 ≤ k) && decide (k ≤ 5)))
  else r.all (fun b => b == 0#8)

/-- The checks of a descriptor pass (R289). -/
def descPassOk (d : List Byte) : Bool :=
  let b (i : Nat) := (d.getD i 0#8).toNat
  let ovr : B32 := BitVec.ofNat 32 (leNat ((d.drop 24).take 4))
  let vm := b 28
  let im := b 30 + 256 * b 31
  d.length == 756 && leNat (d.take 4) == 0x44484B44 && leNat ((d.drop 4).take 2) == 1
    && (crc32c (d.take 728)).toNat == leNat ((d.drop 728).take 4)
    && F32.le 0x3F800000#32 ovr && F32.le ovr 0x3FA00000#32 && b 22 % 16 != 0
    && (rangeFrom 0 8).all (fun r => rangeRecOk ((d.drop ((2 + r) * 28)).take 28) (vm / 2 ^ r % 2 == 1))
    && (rangeFrom 0 16).all (fun r => rangeRecOk ((d.drop ((10 + r) * 28)).take 28) (im / 2 ^ r % 2 == 1))

/-- A fenced channel meets a head that differs from the recorded one in epoch, maker or serial (R73). -/
def State.fenceDiffers (s : State) (n : Nat) : Bool :=
  s.rf (chA n 0x038) 0 16 != s.headEpoch n || s.rf (chA n 0x038) 16 16 != s.headMaker n
    || (s.rd64 (chA n 0x040)).toNat != s.headSerial n

/-- T_D: the descriptor is valid. Compatibility, fence test and monitor gains follow (R83, R73, R219, R325); the
requested ranges stay as they are (R50); a compatible head's constants start to load. -/
def State.descAccept (s : State) (n : Nat) (d : List Byte) : State :=
  let s := s.modLk n (fun l => { l with desc := d, descValid := true, ack := true, goSent := 0, prevPass := none, buf := [], failRun := 0 })
  let s := s.modLk n (fun l => { l with epoch := s.headEpoch n })
  let ok := match s.tplInfo (s.lp n).template with
    | some x => s.meetsReq n x
    | none => true
  let s := if ok then s else s.chFault n 12
  let s := if (s.ch n).st = .fenced ∧ s.fenceDiffers n then (s.cause n 0x18).leaveGrave n else s
  let s := s.monEnumerated n
  if ok then s.modCh n (fun c => { c with headLoading := true }) else s

/-- A pass fails; the fourth in a row sets desc_bad (R289). -/
def State.descFail (s : State) (n : Nat) : State :=
  let s := s.modLk n (fun l => { l with prevPass := none, failRun := l.failRun + 1 })
  if 4 ≤ (s.lk n).failRun then (s.modLk n (fun l => { l with failRun := 0 })).lnkFault n 6 else s

/-- A pass has ended (R289). -/
def State.descPass (s : State) (n : Nat) (d : List Byte) (whole : Bool) : State :=
  let s := s.modLk n (fun l => { l with buf := [] })
  if !whole || !descPassOk d then s.descFail n
  else if (s.lk n).prevPass = some d then s.descAccept n d
  else s.modLk n (fun l => { l with prevPass := some d, failRun := 0 })

/-- A DESCRIPTOR frame (R289): the first one ends a training (R283). -/
def State.descFrame (s : State) (n : Nat) (f : Frame) : State :=
  let l := s.lk n
  let s := if (l.st == .train || l.st == .retrain) && l.step == 3 then
      (s.setLk n { l with st := .desc, descValid := false, ack := false, prevPass := none, buf := [], bufOk := true, failRun := 0 }).modCh n
        (fun c => { c with headReady := false, headLoading := false })
    else s
  let l := s.lk n
  if l.st != .desc || l.ack then s
  else
    let i := frB f 0 - 0x40
    let p := (f.bytes.drop 1).take 28
    let s := if i = 0 ∧ !l.buf.isEmpty then s.descFail n else s
    let l := s.lk n
    let buf := if i = 0 then p else if l.buf.isEmpty then List.replicate (28 * i) 0#8 ++ p else l.buf ++ p
    let ok := if i = 0 then true else l.bufOk && !l.buf.isEmpty && l.buf.length == 28 * i
    let s := s.setLk n { l with buf := buf, bufOk := ok }
    if i = 26 then s.descPass n buf ok else s

/-- A frame lost in DESC spoils the pass under reading; a pass whose last frame is lost fails there. -/
def State.descLost (s : State) (n : Nat) : State :=
  let l := s.lk n
  if l.st ≠ .desc ∨ l.buf.isEmpty then s
  else
    let buf := l.buf ++ List.replicate 28 0#8
    let s := s.setLk n { l with buf := buf, bufOk := false }
    if 756 ≤ buf.length then s.descPass n buf false else s

/-! ### A sample frame (R130 to R132, R279 to R282, R299) -/

/-- The quality of a passed sample frame (R130). -/
def State.quality (s : State) (n : Nat) (f : Frame) (adv : Nat) : Qual :=
  if adv = 0 then .frozen else if s.framesHeld n then .held else if !frS f 0 then .invalid else .good

/-- The feedback counts of an edge, and the causes they give (R60, R66, R282). -/
def State.feedback (s : State) (n : Nat) (passed frozen good ready : Bool) : State :=
  let c := s.ch n
  let c := { c with badRun := if passed then 0 else min (c.badRun + 1) 2
                    frozenRun := if frozen then min (c.frozenRun + 1) 2 else 0
                    goodRun := if good then min (c.goodRun + 1) 2 else 0
                    readyRun := if c.st != .arming || c.readyRun == 2 then c.readyRun
                      else if good && ready then c.readyRun + 1 else 0 }
  let s := s.setCh n c
  if 2 ≤ c.badRun then s.cause n 0x08 else if 2 ≤ c.frozenRun then s.cause n 0x09 else s

/-- Status word and temperature of a good frame are latched; a rising head_fault or overtemp and a desynchronized pulse
state are reported (R279, R299). -/
def State.headStatus (s : State) (n : Nat) (f : Frame) (mark : Bool) : State :=
  let old := s.rd (chA n 0x618)
  let s := (s.wr (chA n 0x618) (BitVec.ofNat 32 (frP f 12 4))).wr (chA n 0x61C) (BitVec.ofNat 32 (frP f 16 2))
  let s := if frS f 7 && !bit old 7 then s.lnkFault n 7 else s
  let s := if frS f 22 && !bit old 22 then s.lnkFault n 8 else s
  if frS f 5 != mark then s.lnkFault n 10 else s

/-- The measured values of a good frame: V on vrange_act, the current on the range that carries it, blended in a
crossfade (R131, R132, R139). -/
def State.measVal (s : State) (n : Nat) (f : Frame) : MeasVal :=
  let r := s.rg n
  let pr := frP f 13 1 % 16
  let sr := frP f 13 1 / 16
  let ip := s.fastI n pr (BitVec.ofNat 32 (frP f 4 4))
  let is := s.fastI n sr (BitVec.ofNat 32 (frP f 8 4))
  let on (q : Nat) : B32 := if pr = q then ip else if sr = q ∧ frS f 3 then is else ip
  let v := s.fast n (16 + s.vact n) (BitVec.ofNat 32 (frP f 0 4))
  if r.xfRun then
    let w := s.xfW n
    let u := F64.sub (F64.ofInt 1) w
    let a := on r.from_
    let b := on r.to_
    ⟨v, F32.of64 (F64.add (F64.mul u (F64.of32 a)) (F64.mul w (F64.of32 b))), [(r.from_, u, a), (r.to_, w, b)], frS f 2,
      BitVec.ofNat 16 (frP f 16 2)⟩
  else
    let i := on (s.iact n)
    ⟨v, i, [(s.iact n, F64.ofInt 1, i)], frS f 2, BitVec.ofNat 16 (frP f 16 2)⟩

/-- A good frame sets MEAS_FAST, the last measured values and the sample latch (R131, R105, R56). -/
def State.latchSample (s : State) (n : Nat) (f : Frame) (e : DWord) (mark : Bool) (v : MeasVal) : State :=
  let pr := frP f 13 1 % 16
  let sr := frP f 13 1 / 16
  let q : Sample := { v := v.v, ip := s.fastI n pr (BitVec.ofNat 32 (frP f 4 4)), is := s.fastI n sr (BitVec.ofNat 32 (frP f 8 4)),
                      temp := v.temp, seq := BitVec.ofNat 16 (frP f 18 2), edge := e, inPulse := mark }
  let s := (s.wr (chA n 0x264) v.v).wr (chA n 0x268) v.i
  s.modMs n (fun m => { m with latch := some q, lastV := v.v, lastI := v.i })

/-- The temperature of a good frame counts into the second's mean and span (R253, R254). -/
def State.tempFrame (s : State) (n t : Nat) : State :=
  if t = 0x8000 then s
  else
    let c := s.cc n
    let x := (BitVec.ofNat 16 t).toInt
    s.setCc n { c with tSum := c.tSum + x, tN := c.tN + 1, tMin := min c.tMin x, tMax := max c.tMax x }

/-- An arrival edge of a live link: a passed sample frame, or none (R130). -/
def State.takeIn (s : State) (n : Nat) (f : Option Frame) : State :=
  let e := s.arrival
  match f with
  | none =>
    let s := (s.feedback n false false false false).incWrap (chA n 0x228) 0 32
    let s := s.rngFrame n false false 0 0 false false 0#32 0#32
    let s := s.monEcho n false 0 0
    ((s.rawFrame n e none).apFrame n e .missing (s.inPulseAt n (e - BitVec.ofNat 64 (s.acqTicks n))) none).apClose n e
  | some f =>
    let adv := s.frAdvance n f
    let q := s.quality n f adv
    let mark := s.inPulseAt n (e - BitVec.ofNat 64 (s.acqTicks n))
    let good := q == .good
    let s := s.modLk n (fun l => { l with lastSeq := some (BitVec.ofNat 16 (frP f 18 2)) })
    let s := s.setCc n { s.cc n with openRun := if frS f 4 then min ((s.cc n).openRun + 1) 2 else 0 }
    let s := if good then s else s.incWrap (chA n 0x228) 0 32
    let s := if good then (s.headStatus n f mark).tempFrame n (frP f 16 2) else s
    let s := s.feedback n true (adv == 0) good (frS f 1)
    let v := s.measVal n f
    let ip := frP f 13 1 % 16
    let is := frP f 13 1 / 16
    let shows := good || (q == .held && frS f 0)
    let s := s.modCh n (fun c => match c.vChange with
      | some x => { c with vChange := some { x with echo := if shows && frP f 14 1 % 8 == x.new then min (x.echo + 1) 2 else 0 } }
      | none => c)
    let s := s.rngFrame n shows good ip is (frS f 3) (frS f 2) (s.fastI n ip (BitVec.ofNat 32 (frP f 4 4)))
      (s.fastI n is (BitVec.ofNat 32 (frP f 8 4)))
    let s := s.monEcho n shows ip (frP f 14 1 % 8)
    let s := if good then s.latchSample n f e mark v else s
    let s := s.rawFrame n e (if good then some (v.v, v.i) else none)
    (s.apFrame n e q mark (if good then some v else none)).apClose n e

/-! ### Uplink frames -/

/-- An arrival edge without a passed frame (R130, R282, R284, R287). -/
def State.noFrame (s : State) (n : Nat) : State :=
  if s.linkOff n then s
  else
    let s := s.modLk n (fun l => { l with noGood := min (l.noGood + 1) 256 })
    let s := (s.trainBad n).descLost n
    match (s.lk n).st with
    | .up =>
      let s := (s.mgmtFrame n none).modLk n (fun l => { l with badRun := l.badRun + 1 })
      let s := s.takeIn n none
      if 2 ≤ (s.lk n).badRun then s.retrain n else s
    | .retrain => s.takeIn n none
    | _ => if (s.ms n).ap.phase = .opened then s.apClose n s.arrival else s

/-- A training has reached UP at this frame (R283, R289). -/
def State.linkUp (s : State) (n : Nat) : State :=
  let l := s.lk n
  let s := s.setLk n { l.restart with st := .up, ack := false, badRun := 0, fromUp := false }
  if l.fromUp then s.lnkFlag n 4 else s

/-- A frame that passed the link checks, by link state and type. -/
def State.goodFrame (s : State) (n : Nat) (f : Frame) (delay : Nat) (onTick : Bool) : State :=
  let l := s.lk n
  if frIdle f then
    (if (l.st == .desc || l.st == .up || l.st == .retrain) && frP f 0 1 / 2 % 2 == 0 then
       (s.headGone n).lnkFlag n 11
     else
       match l.st with
       | .up => (s.retrain n).takeIn n none
       | .retrain => (s.trainIdle n f delay onTick).takeIn n none
       | .desc => s
       | _ => s.trainIdle n f delay onTick)
  else if frDesc f then
    (let s := s.descFrame n f
     if s.linkLive n then s.takeIn n none else s)
  else
    match l.st with
    | .up => (s.mgmtFrame n (some f)).takeIn n (some f)
    | .retrain => if l.step = 3 then (s.linkUp n).takeIn n (some f) else (s.trainBad n).takeIn n none
    | .desc => if l.ack then (s.linkUp n).takeIn n (some f) else s.descLost n
    | _ => s

/-- An uplink frame at its take-in tick (R272, R283). -/
def State.uplink (s : State) (n : Nat) (f : Frame) (delay : Nat) (onTick : Bool) : State :=
  if s.linkOff n then s
  else
    let r := s.linkCheck n f
    if r.2 then
      let s := (r.1.incWrap (chA n 0x614) 0 32).modLk n (fun l => { l with noGood := 0, badRun := 0 })
      s.goodFrame n f delay onTick
    else r.1.noFrame n

/-! ### Downlink frames (R273, R275, R278, R283) -/

/-- The level that a LEVEL frame carries (R59, R65, R68, R107); 0 in FZ, which sends no output (R48; DEDUCED, log 23). -/
def State.frameLevel (s : State) (n : Nat) : B32 :=
  let c := s.ch n
  let l := s.lp n
  if !c.st.live || c.st == .arming || s.mode n == 2 then 0#32
  else if c.st.reg || c.st == .hold then
    (match l.outFrom with
     | some t => if (s.htick - t).toNat < 2 ^ 63 then l.outLast else c.level
     | none => c.level)
  else c.level

/-- The payload of a LEVEL frame, with the request of a MGMT_REQ frame (R273). -/
def State.levelPayload (s : State) (n : Nat) (lv : B32) (req : List Byte) : List Byte :=
  let ctl := b2n (s.ch n).st.live + 2 * s.mode n + 8 * b2n (s.gpgEnable n)
  leBytes 4 lv.toNat ++ leBytes 4 (s.pulseLevel n).toNat ++ leBytes 1 ctl ++ leBytes 1 (s.namedI n + 16 * (s.rg n).sec)
    ++ leBytes 1 (s.namedV n) ++ leBytes 1 0 ++ leBytes 2 (s.lk n).dlCount.toNat ++ leBytes 2 0 ++ (req ++ List.replicate 12 0#8).take 12

/-- A LEVEL or MGMT_REQ frame; a request waiting goes out, the calibration sequencer's first (R293). -/
def State.levelSend (s : State) (n : Nat) : State :=
  let lv := s.frameLevel n
  let s := s.modCh n (fun c => { c with level := lv })
  let s := s.modGp n (fun g => { g with sent := (s.pulseLevel n :: g.sent).take 2 })
  let s := s.monNamed n (s.namedI n) (s.namedV n)
  let l := s.lk n
  let next : Option (List Byte × Bool) := if l.out.isSome then none
    else match l.calQ with
      | q :: _ => some (q, false)
      | [] => l.hostQ.map (fun q => (q, true))
  match next with
  | none => s.setLk n { l with sent := 0x80#8 :: s.levelPayload n lv [] }
  | some (q, host) =>
    let req := q.getD 0 0#8 :: l.tag :: q.drop 2
    s.setLk n { l with sent := 0xA0#8 :: s.levelPayload n lv req, tag := l.tag + 1, out := some ⟨req, s.htick, host, none⟩,
                       calQ := if host then l.calQ else l.calQ.drop 1, hostQ := if host then none else l.hostQ }

/-- An IDLE frame (R275, R278, R283). -/
def State.idleSend (s : State) (n : Nat) : State :=
  let l := s.lk n
  let en := s.rb (chA n 0x600) 0
  let phase := if !en then 0 else if l.st = .desc then (if l.ack then 3 else 0) else if l.st = .down then 1
    else if l.step = 3 ∧ 2 ≤ l.goSent then 0 else l.step
  let flags := if !en then 0 else b2n (l.st == .desc && l.ack) + 2 * b2n (l.st == .down || l.st == .train)
  let l := if l.step = 2 ∧ (l.st = .train ∨ l.st = .retrain) ∧ l.confFrom.isNone then
      { l with confFrom := some (s.htick + 128#64) } else l
  let l := if phase = 3 then { l with goSent := min (l.goSent + 1) 2 } else l
  s.setLk n { l with sent := 0#8 :: leBytes 1 phase ++ leBytes 1 flags ++ leBytes 2 l.dlCount.toNat ++ leBytes 1 l.txDelay
                       ++ List.replicate 23 0#8 }

/-- LEVEL_FRAME_SEND: the downlink frame that starts at this frame-grid edge (R30, R273). -/
def State.frameSend (s : State) (n : Nat) : State :=
  if !s.onGrid || s.sleeping (wingOf n) then s
  else
    let s := s.modLk n (fun l => { l with dlCount := l.dlCount + 1 })
    if (s.lk n).st = .up then s.levelSend n else s.idleSend n

end Sys2Proof.Machine
end

