-- ==== Sys2Proof/Machine/Sweep.lean ====
section
/-!
DEFINITION. The Stairwell (chapter 05): tags, the context commands, the life of a step, starts, pauses and aborts.
-/

namespace Sys2Proof.Machine

/-! ### Shadow writes from inside the block (R31, R173) -/

/-- A register is about to be written in this tick: it is remembered as it stood before the tick (R31). -/
def State.keepOld (s : State) (k : Nat) : State :=
  if s.tickOld.any (fun e => e.1 == k) then s else { s with tickOld := Tbl.put s.tickOld k (s.rd k) }

/-- The bits `mask` of a register are written with `v`. -/
def State.putMasked (s : State) (k : Nat) (mask v : Word) : State :=
  (s.keepOld k).wr k ((s.rd k &&& ~~~ mask) ||| (v &&& mask))

/-- A write of the vrange, irange field is noted (R52, R150): those of this tick apart, because a boundary of this tick
does not commit them. -/
def State.noteV (s : State) (n : Nat) : State :=
  s.modCh n (fun c => { c with vWritten := c.vWritten || (c.vNow.isSome && c.vNow != some s.htick), vNow := some s.htick })
def State.noteI (s : State) (n : Nat) : State :=
  s.modCh n (fun c => { c with iWritten := c.iWritten || (c.iNow.isSome && c.iNow != some s.htick), iNow := some s.htick })

/-- The Stairwell stores shadow bits (R170, R173). -/
def State.swpPut (s : State) (k : Nat) (mask v : Word) : State :=
  let s := s.putMasked k mask v
  { s with tickSwp := Tbl.put s.tickSwp k (Tbl.get 0#32 s.tickSwp k ||| mask) }

/-- A range index that the present head does not declare is a reserved value; without a descriptor none is checked
(R16, R50). -/
def State.vrangeOk (s : State) (n r : Nat) : Bool := !(s.lk n).descValid || s.declV n r
def State.irangeOk (s : State) (n r : Nat) : Bool := !(s.lk n).descValid || s.declI n r

/-! ### Contexts, tags and records (R157 to R166) -/

def State.ctx (s : State) (c : Nat) : Ctx := Tbl.get {} s.ctxs c
def State.setCtx (s : State) (c : Nat) (x : Ctx) : State := { s with ctxs := Tbl.put s.ctxs c x }
def State.modCtx (s : State) (c : Nat) (f : Ctx → Ctx) : State := s.setCtx c (f (s.ctx c))

/-- The code of a context state. -/
def SwpSt.code : SwpSt → Nat
  | .idle => 0
  | .checking => 1
  | .armed => 2
  | .running => 3
  | .paused => 4
  | .done => 5
  | .aborted => 6
/-- CHECKING, ARMED, RUNNING or PAUSED. -/
def SwpSt.active : SwpSt → Bool
  | .checking => true
  | .armed => true
  | .running => true
  | .paused => true
  | _ => false

def State.ctxFirst (s : State) (c : Nat) : Nat := s.rf (ctxA c 0x08) 0 15
def State.ctxTags (s : State) (c : Nat) : Nat := s.rf (ctxA c 0x08) 16 16
def State.ctxWing (s : State) (c : Nat) : Nat := s.rf (ctxA c 0x04) 16 3
def State.ctxGang (s : State) (c : Nat) : List Nat :=
  (rangeFrom 0 16).filterMap (fun j => if s.rb (ctxA c 0x04) j then some (16 * s.ctxWing c + j) else none)
def State.ctxDual (s : State) (c : Nat) : Bool := s.rb (ctxA c 0) 2
/-- The forward count n (R165). -/
def State.ctxFwd (s : State) (c : Nat) : Nat := if s.ctxDual c then (s.ctxTags c + 1) / 2 else s.ctxTags c
def State.ctxSweep (s : State) (c : Nat) : Bool := s.wingMode (s.ctxWing c) == 3
def State.stepBank (s : State) : Nat := s.rf SWP 0 6
def State.resBank (s : State) : Nat := s.rf SWP 8 6
def State.swpBanks (s : State) : Bool := s.owner s.stepBank == 2 && s.owner s.resBank == 2

/-- The tag is held by a context (R162). -/
def State.ctxHolds (s : State) (c t : Nat) : Bool :=
  (s.ctx c).st != .idle && decide (s.ctxFirst c ≤ t) && decide (t < s.ctxFirst c + s.ctxTags c)
def State.tagCtx (s : State) (t : Nat) : Option Nat := (rangeFrom 0 32).find? (fun c => s.ctxHolds c t)

/-- An error of the Stairwell: flag, context and error line (R186, R187). -/
def State.swpErr (s : State) (c i : Nat) : State := ((s.flag (SWP + 0x10) i).wf (SWP + 0x10) 16 5 c).report 0x420 i
def State.ctxFlag (s : State) (c i : Nat) : State := s.flag (ctxA c 0x34) i

/-- A command is refused with a code (R168). -/
def State.swpRefuse (s : State) (c code : Nat) : State := (s.ctxFlag c 0).wf (ctxA c 0x30) 8 8 code

/-- The two words of the step record of a tag. -/
def State.stepRec (s : State) (t : Nat) : DWord × DWord :=
  let ws := s.panWords s.stepBank (2 * t) 2
  (ws.getD 0 0#64, ws.getD 1 0#64)

/-- The setpoint of forward index `r` (R166). -/
def State.ctxValue (s : State) (c r : Nat) (v0 : B32) : B32 :=
  let n := s.ctxFwd c
  let vs := s.rd (ctxA c 0x0C)
  let kind := s.rf (ctxA c 0) 0 2
  if kind = 0 ∨ n = 1 then v0
  else
    let a := F64.of32 v0
    let b := F64.of32 vs
    if kind = 1 then F32.of64 (F64.add a (F64.div (F64.mul (F64.ofInt r) (F64.sub b a)) (F64.ofInt (n - 1 : Nat))))
    else
      let q := F64.div b a
      let p := if r = 0 then F64.ofInt 1 else if r = n - 1 then q else F64.pow q (F64.ofFrac r (n - 1))
      F32.of64 (F64.mul a p)

/-! ### Results, sets and pauses (R159, R170, R178, R181, R182) -/

/-- The result entry of the step that ends (R159); a bank that has left the Stairwell gets none (R363). -/
def State.swpResult (s : State) (c outcome : Nat) : State :=
  let x := s.ctx c
  let t := s.ctxFirst c + x.step
  if s.owner s.resBank ≠ 2 then s
  else
  let s := s.unitWrite 2 s.resBank (2 * t) x.d
  s.unitWrite 2 s.resBank (2 * t + 1) (BitVec.ofNat 64 (x.setpt.toNat + 2 ^ 32 * outcome + 2 ^ 40 * (b2n x.leg + 2 * x.run)))

/-- The events of a step not yet produced are withdrawn. -/
def State.swpDropEv (s : State) (c : Nat) : State :=
  { s with launched := s.launched.filter (fun e =>
      !(e.prod == 0xA00 + 8 * c + 1 && decide (0 < (e.at_ - s.htick).toNat) && decide ((e.at_ - s.htick).toNat < 2 ^ 63))) }

/-- The context enters PAUSED (R182). -/
def State.swpPause (s : State) (c : Nat) : State :=
  let x := s.ctx c
  if x.st = .paused then s
  else
    (s.setCtx c { x with st := .paused, phase := .none, since := s.htick, pHost := x.pHost || x.pauseReq, pauseReq := false }).incSat
      (ctxA c 0x3C) 16 8

/-- A pause asked for by the host begins (R185). -/
def State.swpHostPause (s : State) (c : Nat) : State :=
  ((s.modCtx c (fun x => { x with pHost := true, pauseReq := false })).ctxFlag c 8).swpPause c

/-- The context pauses for domain `d`; step `i` is to be written after it (R181). -/
def State.swpTbPause (s : State) (c d i : Nat) : State :=
  let req := (s.ctx c).pauseReq
  let s := (s.modCtx c (fun x => { x with pTb := some d, resume := i })).ctxFlag c 6
  let s := if req then s.ctxFlag c 8 else s
  (s.swpErr c 2).swpPause c

/-- The time domain of a profile kind: 0 machine, 1 mains; none for the internal domain (R181). -/
def kindDomain (k : Nat) : Option Nat := if k = 2 then some 0 else if k = 1 then some 1 else none
def State.domUsable (s : State) (d : Nat) : Bool := if d = 0 then s.mach.st.usable else s.mains.st.usable

/-- The frame-grid edge from which an aperture counts, for a trigger at `ed` (R136, R171). -/
def State.swpOpenEdge (s : State) (c kind : Nat) (ed : DWord) : DWord :=
  let sync := kind == 1 && (s.ctxGang c).any (fun n => s.actb (chA n 0x200) 6)
  if sync && s.mains.sum4 != 0 then
    let p := (s.mainsPos ed).toNat % 65536
    let t := ed + BitVec.ofNat 64 (((65536 - p) * s.mains.sum4 + 262143) / 262144)
    if t.toNat % 128 = 0 then t else t + BitVec.ofNat 64 (toEdge t)
  else ed + 128#64

/-- The step set of step `i` goes into every gang channel (R170). -/
def State.stepSet (s : State) (n : Nat) (sp rslew : B32) (rec1 : DWord) (kind : Nat) (len : Word) : State :=
  let s := (s.swpPut (chA n 0x108) 0xFFFFFFFF#32 sp).swpPut (chA n 0x114) 0xFFFFFFFF#32 rslew
  let ir := bits rec1 8 4
  let vr := bits rec1 12 3
  let s := if bit rec1 15 then s
    else
      let s := if s.irangeOk n ir then (s.swpPut (chA n 0x100) 0xF00#32 (BitVec.ofNat 32 (256 * ir))).noteI n else s
      if s.vrangeOk n vr then (s.swpPut (chA n 0x100) 0x70#32 (BitVec.ofNat 32 (16 * vr))).noteV n else s
  let p := bits rec1 16 6
  let s := if bit rec1 23 then s
    else (s.swpPut (chA n 0x10C) 0xFFFFFFFF#32 (s.rd (SWP + 0x200 + 8 * p))).swpPut (chA n 0x110) 0xFFFFFFFF#32 (s.rd (SWP + 0x204 + 8 * p))
  if kind = 3 then s
  else
    (s.swpPut (chA n 0x200) 0xF#32 (BitVec.ofNat 32 (kind + 4))).swpPut
      (chA n (if kind = 0 then 0x204 else if kind = 1 then 0x208 else 0x20C)) 0xFFFFFFFF#32 len

/-- Step `i` is written, or the context pauses because its domain is not usable (R170, R181). -/
def State.stepWrite (s : State) (c i : Nat) : State :=
  let x := s.ctx c
  let n := s.ctxFwd c
  let r := if i < n then i else 2 * n - 2 - i
  let rc := s.stepRec (s.ctxFirst c + (if s.rf (ctxA c 0) 0 2 = 0 then r else 0))
  let p := bits rc.2 0 4
  let kind := s.rf (SWP + 0x100 + 8 * p) 0 2
  let len := s.rd (SWP + 0x104 + 8 * p)
  match (match kindDomain kind with
    | some d => if s.domUsable d then none else some d
    | none => none) with
  | some d => s.swpTbPause c d i
  | none =>
    let sp := s.ctxValue c r (rc.1.setWidth 32)
    let s := (s.ctxGang c).foldl (fun s m => s.stepSet m sp (s.rd (ctxA c 0x14)) rc.2 kind len) s
    let d := s.htick + BitVec.ofNat 64 (toEdge s.htick)
    let run := min (Tbl.get 0 x.runs i + 1) 127
    let flags := bits rc.2 32 4
    let s := s.setCtx c { x with st := .running, phase := .dwell, step := i, w := s.htick, d := d,
                                 ed := d + BitVec.ofNat 64 (128 * bits rc.1 32 32), setpt := sp, kind := kind, flags := flags,
                                 leg := decide (n ≤ i), run := run, masked := false, runs := Tbl.put x.runs i run,
                                 pHost := false, pTb := none, pTrg := false }
    let s := if flags % 2 = 1 then { s with launched := s.launched ++ [⟨0xA00 + 8 * c + 1, d⟩] } else s
    let s := s.modCtx c (fun x => { x with ap := { x.ap with cfg := BitVec.ofNat 32 kind, len := len, nplc := len, win := len } })
    ((s.wf (ctxA c 0x38) 0 15 i).wf (ctxA c 0x38) 15 1 (b2n (decide (n ≤ i)))).wf (ctxA c 0x38) 16 7 run

/-- A context in ARMED starts: step 0 with W = S (R172, R174). -/
def State.swpBegin (s : State) (c : Nat) : State :=
  let v0 := (s.stepRec (s.ctxFirst c)).1.setWidth 32
  (s.modCtx c (fun x => { x with st := .running, phase := .none, runs := [], v0 := v0, t := none, pauseReq := false,
                                 pHost := false, pTb := none, pTrg := false })).stepWrite c 0

/-- The next step is written, or a context with step_mode waits for its trigger (R171, R172, R184). -/
def State.stepNext (s : State) (c i : Nat) : State :=
  if s.rb (ctxA c 0) 6 then s.modCtx c (fun x => { x with phase := .wait, resume := i, since := s.htick, tmo := s.rf (ctxA c 0x20) 0 24 }) else s.stepWrite c i

/-- What follows a step's end (R167, R171, R185). -/
def State.stepAfter (s : State) (c : Nat) : State :=
  let x := s.ctx c
  let s := if x.flags / 4 % 2 = 1 then s.launch (0xA00 + 8 * c + 2) else s
  if x.flags / 8 % 2 = 1 ∨ s.ctxTags c ≤ x.step + 1 then
    (s.modCtx c (fun x => { x with st := .done, phase := .none, pauseReq := false })).launch (0xA00 + 8 * c + 3)
  else if x.pauseReq then (s.modCtx c (fun x => { x with resume := x.step + 1 })).swpHostPause c
  else if s.rb (ctxA c 0) 3 then
    let s := (s.ctxGang c).foldl (fun s n => s.swpPut (chA n 0x108) 0xFFFFFFFF#32 (s.rd (ctxA c 0x10))) s
    s.modCtx c (fun x => { x with phase := .off, resume := x.step + 1, w := s.htick,
                                  endAt := s.htick + BitVec.ofNat 64 (toEdge s.htick + 128 * s.rf (ctxA c 0x1C) 0 24) })
  else s.stepNext c (x.step + 1)

/-! ### Commands (R168, R185) -/

/-- The refuse code of an ARM before its records are checked; 0 where it is taken (R163, R168). -/
def State.armRefusal (s : State) (c : Nat) : Nat :=
  let first := s.ctxFirst c
  let n := s.ctxTags c
  let gang := s.ctxGang c
  if (s.ctx c).st != .idle || s.unitFenced 0x420 then 0x01
  else if !s.ctxSweep c then 0x02
  else if n = 0 ∨ 32767 < first + n - 1 then 0x05
  else if s.netTags.any (fun t => decide (first ≤ t) && decide (t < first + n)) then 0x03
  else if (rangeFrom 0 32).any (fun y => y != c && (s.ctx y).st != .idle && decide (first < s.ctxFirst y + s.ctxTags y)
      && decide (s.ctxFirst y < first + n)) then 0x04
  else if s.ctxDual c && n % 2 == 0 then 0x07
  else if gang.isEmpty ∨ 8 < gang.length then 0x08
  else if (rangeFrom 0 32).any (fun y => y != c && (s.ctx y).st.active && (s.ctxGang y).any (fun m => gang.contains m)) then 0x09
  else if !s.swpBanks then 0x0D
  else 0

/-- ARM: the tags are taken and CHECKING is entered, or it is refused. -/
def State.swpArm (s : State) (c : Nat) : State :=
  let r := s.armRefusal c
  if r = 0 then s.modCtx c (fun x => { x with st := .checking, since := s.htick, phase := .none }) else s.swpRefuse c r

/-- The records that ARM checks: the forward ones of a list, the first one otherwise (R169). -/
def State.armTags (s : State) (c : Nat) : List Nat :=
  if s.rf (ctxA c 0) 0 2 = 0 then rangeFrom (s.ctxFirst c) (s.ctxFwd c) else [s.ctxFirst c]

/-- The refuse code of the record checks (R168). -/
def State.recRefusal (s : State) (c : Nat) : Nat :=
  let bad := (s.armTags c).any (fun t =>
    let r := s.stepRec t
    !F32.isFin (r.1.setWidth 32) || r.2 &&& 0xFFFFFFF0FF4000F0#64 != 0#64)
  let v0 : B32 := (s.stepRec (s.ctxFirst c)).1.setWidth 32
  let vs := s.rd (ctxA c 0x0C)
  if bad then 0x06
  else if s.rf (ctxA c 0) 0 2 = 2 ∧ (F32.isZero v0 || F32.isZero vs || F32.isNeg v0 != F32.isNeg vs) then 0x07
  else 0

/-- A start tick T that has passed (R174). -/
def State.tPassed (s : State) (t : BitVec 48) : Bool := decide ((s.mach.tick - t).toNat < 2 ^ 47)

/-- A start from the trig source (R174): step 0, or start_refused when the wing is out of SWEEP. -/
def State.swpTrigStart (s : State) (c : Nat) : State :=
  if s.ctxSweep c then s.swpBegin c else (s.modCtx c (fun x => { x with t := none })).ctxFlag c 2

/-- A context in ARMED finds that its T has already passed (R175). -/
def State.swpLate (s : State) (c : Nat) : State :=
  let x := s.ctx c
  match x.t with
  | none => s
  | some t =>
    if x.st = .armed ∧ s.mach.st.usable ∧ s.tPassed t then
      let s := (s.ctxFlag c 1).swpErr c 3
      if s.rb (ctxA c 0) 9 then (s.modCtx c (fun x => { x with t := none })).wf (ctxA c 0x30) 8 8 0x0A
      else s.swpTrigStart c
    else s

/-- The context takes a start tick (R174, R175). -/
def State.swpTakeT (s : State) (c : Nat) (t : BitVec 48) : State := (s.modCtx c (fun x => { x with t := some t })).swpLate c

/-- A multicast start (R174, R175). -/
def State.swpMulticast (s : State) (set : Nat) (t : BitVec 48) : State :=
  (rangeFrom 0 32).foldl (fun s c =>
    if s.rf (ctxA c 0) 12 4 = set ∧ s.rf (ctxA c 0) 4 2 = 2 then
      (if (s.ctx c).st = .armed then s.swpTakeT c t else (s.ctxFlag c 3).swpErr c 4)
    else s) s

/-- SWP_CHECK_DONE (R168): ARMED with every outcome 0x00, or IDLE with a refuse code. -/
def State.swpChecked (s : State) (c : Nat) : State :=
  if (s.ctx c).st != .checking then s
  else
    let r := s.recRefusal c
    if r ≠ 0 then (s.modCtx c (fun x => { x with st := .idle })).swpRefuse c r
    else
      let b := s.resBank
      let s := (rangeFrom (s.ctxFirst c) (s.ctxTags c)).foldl (fun s t =>
        s.unitWrite 2 b (2 * t + 1) (s.panWord b (2 * t + 1) &&& 0xFFFFFF00FFFFFFFF#64)) s
      (s.modCtx c (fun x => { x with st := .armed })).swpLate c

/-- START (R168). -/
def State.swpStart (s : State) (c : Nat) : State :=
  if (s.ctx c).st != .armed then s.swpRefuse c 0x01 else if !s.ctxSweep c then s.swpRefuse c 0x02 else s.swpBegin c

/-- PAUSE (R185). -/
def State.swpPauseCmd (s : State) (c : Nat) : State :=
  let x := s.ctx c
  if x.st != .running then s.swpRefuse c 0x01
  else if x.phase = .wait ∨ x.phase = .off then s.swpHostPause c
  else s.setCtx c { x with pauseReq := true }

/-- The pause ends unless something else still holds it: the step that stands is written (R183 to R185). -/
def State.swpUnpause (s : State) (c : Nat) : State :=
  let x := s.ctx c
  if x.st = .paused ∧ !x.pHost ∧ x.pTb.isNone ∧ !x.pTrg then s.stepWrite c x.resume else s

/-- RESUME (R185). -/
def State.swpResume (s : State) (c : Nat) : State :=
  let x := s.ctx c
  if x.st != .paused then s.swpRefuse c 0x01
  else if x.pTb.isSome || x.pTrg then s.swpRefuse c 0x0B
  else if !s.ctxSweep c then s.swpRefuse c 0x02
  else (s.setCtx c { x with pHost := false }).swpUnpause c

/-- RELEASE (R168). -/
def State.swpRelease (s : State) (c : Nat) : State :=
  let x := s.ctx c
  if x.st = .armed ∨ x.st = .done ∨ x.st = .aborted then s.setCtx c { x with st := .idle, phase := .none } else s.swpRefuse c 0x01

/-! ### Aborts (R177 to R179) -/

/-- Precedence of an abort cause, 1 the highest. -/
def abortRank (cause : Nat) : Nat :=
  if cause = 8 then 1 else if cause = 9 then 2 else if cause = 3 then 3 else if cause = 2 then 4 else if cause = 4 then 5
  else if cause = 1 then 6 else if cause = 7 then 7 else if cause = 5 then 8 else 9

/-- A boundary of a gang channel since W + 1 has committed the step set (R179). -/
def State.stepTook (s : State) (c : Nat) : Bool :=
  let w := (s.ctx c).w.toNat
  (s.ctxGang c).any (fun n =>
    let p := 128 * s.kOf n
    p != 0 && s.commits n && decide (w + 1 ≤ s.htick.toNat / p * p))

/-- The context aborts with a cause (R177, R178). -/
def State.swpAbort (s : State) (c cause : Nat) : State :=
  let x := s.ctx c
  if x.st = .aborted then
    (if x.abortAt = s.htick ∧ abortRank cause < abortRank (s.rf (ctxA c 0x30) 16 8) then s.wf (ctxA c 0x30) 16 8 cause else s)
  else if x.st = .idle then s
  else
    let s := if x.st = .running ∨ x.st = .paused then
        let run := x.st == .running && (x.phase == .dwell || x.phase == .aper || x.phase == .lost)
        let s := if run && s.stepTook c then s.swpResult c 0x04 else s
        let lv := if s.rb (ctxA c 0) 7 then 0#32 else if s.rb (ctxA c 0) 3 then s.rd (ctxA c 0x10) else x.v0
        (s.ctxGang c).foldl (fun s n =>
          ((s.swpPut (chA n 0x108) 0xFFFFFFFF#32 lv).swpPut (chA n 0x114) 0xFFFFFFFF#32 (s.rd (ctxA c 0x18))).swpPut (chA n 0x200) 3#32 3#32) s
      else s
    let s := (s.swpDropEv c).modCtx c (fun x => { x with st := .aborted, phase := .none, abortAt := s.htick, pauseReq := false, pHost := false,
                                                         pTb := none, pTrg := false })
    (s.wf (ctxA c 0x30) 16 8 cause).launch (0xA00 + 8 * c + 4)

/-- ABORT (R168). -/
def State.swpAbortCmd (s : State) (c : Nat) : State :=
  let st := (s.ctx c).st
  if st = .running ∨ st = .paused ∨ st = .armed then s.swpAbort c 0x01 else s.swpRefuse c 0x01

/-- An event at ti_swp_abort_c: masked by the running step, or an abort (R177). -/
def State.swpTiAbort (s : State) (c : Nat) : State :=
  let x := s.ctx c
  let run := x.phase == .dwell || x.phase == .aper || x.phase == .lost
  if x.st != .running && x.st != .paused then s
  else if x.st == .running && run && x.flags / 2 % 2 == 1 then
    ((s.setCtx c { x with masked := true }).ctxFlag c 7).incSat (ctxA c 0x3C) 24 8
  else s.swpAbort c 0x02

/-- An event at ti_swp_brk_c (R177). -/
def State.swpTiBrk (s : State) (c : Nat) : State :=
  let x := s.ctx c
  if x.st = .running ∨ x.st = .paused then s.swpAbort c 0x03 else s

/-- Contexts that a wing's leaving SWEEP aborts (R177). -/
def State.swpWingLeft (s : State) (w : Nat) : State :=
  s.ctxs.foldl (fun s e => if (e.2.st = .running ∨ e.2.st = .paused) ∧ s.ctxWing e.1 = w then s.swpAbort e.1 0x04 else s) s

/-- A bank of the Stairwell has another owner (R161). -/
def State.swpBankLost (s : State) : State :=
  if s.swpBanks then s else s.ctxs.foldl (fun s e => if e.2.st.active then s.swpAbort e.1 0x09 else s) s

/-- A fence of the Stairwell (R177, R304). -/
def State.swpFence (s : State) : State :=
  let s := s.takeFence 0x420
  s.ctxs.foldl (fun s e => s.swpAbort e.1 0x08) s

/-! ### Steps in time (R167, R171, R172, R181 to R184) -/

/-- DWELL_END: ev_swp_ap_c at E_d (R171). -/
def State.dwellEnd (s : State) (c : Nat) : State :=
  let x := s.ctx c
  if x.st = .running ∧ x.phase = .dwell ∧ x.kind ≠ 3 ∧ (s.htick - x.ed).toNat < 2 ^ 63 then
    let eo := s.swpOpenEdge c x.kind x.ed
    (s.setCtx c { x with phase := .aper, ap := { x.ap with phase := .opened, eo := eo, mainsO := (s.mainsPos eo).toNat,
                                                           turnO := s.mach.turn + 1#32, cutAt := none } }).launch (0xA00 + 8 * c)
  else s

/-- The step ends with an outcome. -/
def State.stepDone (s : State) (c outcome : Nat) : State :=
  let s := s.swpResult c (if (s.ctx c).masked then 0x05 else outcome)
  s.stepAfter c

/-- STEP_END at t_end (R171, R181). -/
def State.stepEnd (s : State) (c : Nat) : State :=
  let x := s.ctx c
  if x.st != .running then s
  else
    match x.phase with
    | .dwell => if x.kind = 3 ∧ (s.htick - x.ed).toNat < 2 ^ 63 then s.stepDone c 0x02 else s
    | .aper =>
      let e := BitVec.ofNat 64 ((s.htick.toNat - 40) / 128 * 128)
      if (e - x.ap.eo).toNat < 2 ^ 63 ∧ s.apEnds x.ap e then s.stepDone c 0x01 else s
    | .lost =>
      if (s.htick - x.endAt).toNat < 2 ^ 63 then
        (match kindDomain x.kind with
         | some d => (s.swpResult c 0x03).swpTbPause c d x.step
         | none => s)
      else s
    | _ => s

/-- OFF_PHASE_END (R167). -/
def State.offEnd (s : State) (c : Nat) : State :=
  let x := s.ctx c
  if x.st = .running ∧ x.phase = .off ∧ (s.htick - x.endAt).toNat < 2 ^ 63 then s.stepNext c x.resume else s

/-- A domain (0 machine, 1 mains) is no longer usable: the steps that use it end as interrupted (R181). -/
def State.swpDomLost (s : State) (d : Nat) : State :=
  s.ctxs.foldl (fun s e =>
    let x := e.2
    if x.st = .running ∧ kindDomain x.kind = some d then
      (match x.phase with
       | .dwell => ((s.swpResult e.1 0x03).swpDropEv e.1).swpTbPause e.1 d x.step
       | .aper => s.setCtx e.1 { x with phase := .lost, endAt := s.edgeFrom + 40#64 }
       | _ => s)
    else s) s

/-- A domain has relocked (R176, R183). -/
def State.swpDomBack (s : State) (d : Nat) : State :=
  let s := s.ctxs.foldl (fun s e =>
    let x := e.2
    if x.st = .paused ∧ x.pTb = some d then
      (if s.rb (ctxA e.1 0) 8 then s.swpAbort e.1 0x05 else (s.setCtx e.1 { x with pTb := none }).swpUnpause e.1)
    else s) s
  if d = 0 then s.ctxs.foldl (fun s e => s.swpLate e.1) s else s

/-- An event at ti_swp_step_c (R172, R184). -/
def State.swpTiStep (s : State) (c : Nat) : State :=
  let x := s.ctx c
  if x.st = .paused ∧ x.pTrg then
    let n := if x.trgN ≠ 0 ∧ s.since x.trgAt ≤ 500 * x.tmo then x.trgN + 1 else 1
    let s := s.setCtx c { x with trgN := n, trgAt := s.htick, tmo := s.rf (ctxA c 0x20) 0 24 }
    if n < 4 then s
    else if s.rb (ctxA c 0) 8 then s.swpAbort c 0x06
    else (s.modCtx c (fun x => { x with pTrg := false, trgN := 0 })).swpUnpause c
  else if x.st = .running ∧ x.phase = .wait then s.stepWrite c x.resume
  else (s.ctxFlag c 4).incSat (ctxA c 0x3C) 0 16

/-- TRG_TMO_EXPIRED (R184): the last completed step is the one to run again. -/
def State.trgTmo (s : State) (c : Nat) : State :=
  let x := s.ctx c
  let t := x.tmo
  if x.st = .running ∧ x.phase = .wait ∧ t ≠ 0 ∧ 500 * t ≤ s.since x.since then
    ((((s.setCtx c { x with pTrg := true, trgN := 0, resume := x.step }).ctxFlag c 5).swpErr c 1).swpPause c)
  else s

/-- PAUSE_MAX_EXPIRED (R182). -/
def State.pauseMax (s : State) (c : Nat) : State :=
  let x := s.ctx c
  let t := s.rf (ctxA c 0x1C) 24 8
  if x.st = .paused ∧ t ≠ 0 ∧ 500000000 * t ≤ s.since x.since then s.swpAbort c 0x07 else s

/-- START_TICK_REACHED (R174, R176). -/
def State.startTick (s : State) (c : Nat) : State :=
  let x := s.ctx c
  match x.t with
  | none => s
  | some t => if x.st = .armed ∧ s.rf (ctxA c 0) 4 2 = 2 ∧ s.mach.st.usable ∧ s.tPassed t then s.swpTrigStart c else s

/-- An event at ti_swp_start_c (R174). -/
def State.swpTiStart (s : State) (c : Nat) : State :=
  if (s.ctx c).st = .armed ∧ s.rf (ctxA c 0) 4 2 = 1 then s.swpTrigStart c else s

/-! ### The window of its banks (R160) -/

/-- A window write into the step or the result bank: stored, or dropped with the status "locked". -/
def State.stepBankWrite (s : State) (b i : Nat) (v : DWord) : State × Bool :=
  let held := match s.tagCtx (i / 2) with
    | some c => if (s.ctx c).st.active then some c else none
    | none => none
  if b = s.resBank then (s, true)
  else if b ≠ s.stepBank then (s.unitWrite 2 b i v, false)
  else
    match held with
    | some c => (s.swpErr c 0, true)
    | none => (s.unitWrite 2 b i v, false)

end Sys2Proof.Machine
end

