-- ==== Sys2Proof/Machine/Calib.lean ====
section
/-!
DEFINITION. Calibration (chapter 08): the REFADC's schedule, requests and runs of the calibration sequencer, fits, aborts,
and the storing and loading of constants.
-/

namespace Sys2Proof.Machine

def State.modCal (s : State) (f : Cal → Cal) : State := { s with cal := f s.cal }
def State.modCc (s : State) (n : Nat) (f : ChCal → ChCal) : State := s.setCc n (f (s.cc n))

/-! ### Settings (R266) -/

def State.calRext (s : State) : B64 := F64.of32 (s.rd (CAL + 0x14))
def State.calVrefx (s : State) : B64 := F64.of32 (s.rd (CAL + 0x18))
def State.settleMs (s : State) : Nat := s.rf (CAL + 0x0C) 16 8
/-- A flag of CAL_FLAGS with the error line of the sequencer (0x402) or of the REFADC (0x422) (R264). -/
def State.calFault (s : State) (src i : Nat) : State := (s.flag (CAL + 0x24) i).report src i
def Cal.busy (c : Cal) : Bool := c.step != .idle

/-- The phase code of CAL_STAT. -/
def CalStep.code : CalStep → Nat
  | .idle => 0
  | .senseS => 1
  | .senseR => 1
  | .isolate => 2
  | .route => 2
  | .injRoute => 2
  | .settle => 3
  | .average => 3
  | .injCommit => 3
  | .injSettle => 3
  | .injAverage => 3
  | .gainEnd => 6
  | .store => 7
  | .write => 7

/-- The run has not reached its commit phase. -/
def CalStep.measuring (x : CalStep) : Bool := x != .idle && x != .store && x != .write

/-! ### Requests (R252, R253) -/

def calPendReg (n : Nat) : Nat := CAL + 0x30 + 4 * (n / 32)
def calDueReg (n : Nat) : Nat := CAL + 0x40 + 4 * (n / 32)

/-- A run is requested: full (1) or gain-only (2) (R252). -/
def State.calRequest (s : State) (n kind : Nat) (temp : Bool) : State :=
  let old := Tbl.get none s.cal.pend n
  let new := match old with
    | some (1, t) => (1, t)
    | _ => (kind, temp)
  (s.wb (calPendReg n) (n % 32) true).modCal (fun c => { c with pend := Tbl.put c.pend n (some new) })

def State.calUnpend (s : State) (n : Nat) : State :=
  (s.wb (calPendReg n) (n % 32) false).modCal (fun c => { c with pend := Tbl.put c.pend n none })

/-- CAL_CMD op 1, 2. -/
def State.calCmd (s : State) (n kind : Nat) : State := s.calRequest n kind false

/-- One channel at the second tick (R253). -/
def State.tempCheck (s : State) (n : Nat) : State :=
  let c := s.cc n
  let mean : Option B64 := if c.tN = 0 then none else some (F64.div (F64.ofInt c.tSum) (F64.ofInt (128 * c.tN : Nat)))
  let s := s.setCc n { c with tMean := mean, tSum := 0, tN := 0, tMin1 := c.tMin, tMax1 := c.tMax, tMin := 32767, tMax := -32768 }
  match mean with
  | none => s
  | some m =>
    let d := F64.abs (F64.sub m (F64.of32 (s.rd (chA n 0xB04))))
    let far := F64.lt (F64.ofFrac (s.rf (CAL + 0x04) 0 10) 100) d
    if (s.ch n).headReady && (c.src == 3 || c.src == 4) && !s.rb (chA n 0xB0C) 1 && far then
      let s := (s.wb (calDueReg n) (n % 32) true).launch 0xB02
      let wait := match c.retryAt with
        | some t => decide (2 ^ 63 ≤ (s.htick - t).toNat)
        | none => false
      let m := s.wingMode (wingOf n)
      if !s.rb CAL 0 || wait then s
      else if m = 2 ∧ s.rb (chA n 0xB0C) 0 then s.calRequest n 2 true
      else if m = 4 then s.calRequest n 1 true
      else s
    else s

/-- TEMPERATURE_TRIGGER: at house ticks that are multiples of 5 × 10^8 (R253). -/
def State.tempTrigger (s : State) : State :=
  if s.htick.toNat % 500000000 ≠ 0 then s else (rangeFrom 0 128).foldl (fun s n => s.tempCheck n) s

/-! ### The end of a run (R255, R260) -/

/-- The sequencer's management request for a channel (R292, R293). -/
def State.calMgmt (s : State) (n op param : Nat) : State :=
  (s.modLk n (fun l => { l with calQ := l.calQ ++ [leBytes 1 op ++ leBytes 1 0 ++ leBytes 2 param ++ leBytes 8 0], calRsp := none })).modCal
    (fun c => { c with wait := s.htick })

/-- What a run leaves behind when it ends or aborts: DAC code 0, the route release, and for a full run the found force
mode and a hard quench (R248, R255, R258, R260). -/
def State.calRestore (s : State) : State :=
  let c := s.cal
  let n := c.ch
  if c.kind = 1 then
    let s := s.calMgmt n 0x13 0
    let s := s.modCal (fun c => { c with dac := 0 })
    let s := (s.keepOld (chA n 0x100)).wf (chA n 0x100) 0 2 c.modeReg
    (s.setAct (chA n 0x100) (setBits (s.act (chA n 0x100)) 0 2 c.modeAct)).cause n 0x10
  else s.modCc n (fun x => { x with estNext := some (0, none), release := true })

/-- Rank of an abort code (R259), 1 the highest. -/
def calRank (code : Nat) : Nat :=
  if code = 0x0F then 1 else if code = 0x08 then 2 else if code = 0x02 then 3 else if code = 0x0A then 4 else if code = 0x06 then 5
  else if code = 0x0D then 6 else if code = 0x0E then 7 else if code = 0x0B then 8 else if code = 0x01 then 9
  else if code = 0x09 then 10 else if code = 0x0C then 11 else 12

/-- The run aborts with a code (R259, R260). -/
def State.calAbort (s : State) (code : Nat) : State :=
  let c := s.cal
  let n := c.ch
  if c.step = .idle then
    (if c.abortAt = s.htick ∧ s.rf (CAL + 0x20) 16 8 ≠ 0 ∧ calRank code < calRank (s.rf (CAL + 0x20) 16 8) then
       (s.wf (CAL + 0x20) 16 8 code).wf (chA n 0xB00) 8 8 code
     else s)
  else
    let s := if c.step.measuring then s.calRestore else s
    let s := s.modCal (fun c => { c with step := .idle, abortAt := s.htick })
    let s := ((s.wf (CAL + 0x20) 16 8 code).wf (CAL + 0x20) 24 7 n).wf (chA n 0xB00) 8 8 code
    let s := ((s.calFault 0x402 0).incSat (chA n 0xB10) 16 16).launch 0xB01
    let s := s.calUnpend n
    if c.temp ∧ 2 ≤ code ∧ code ≤ 7 then
      s.modCc n (fun x => { x with retryAt := some (s.htick + BitVec.ofNat 64 (500000000 * s.rf CAL 8 8)) })
    else s

/-- The conditions that abort a running run at once (R259). -/
def State.calBroken (s : State) : Option Nat :=
  let c := s.cal
  let n := c.ch
  let st := (s.ch n).st
  let mode := s.wingMode (wingOf n)
  if c.step = .idle ∨ c.step = .write then none
  else if (s.lk n).st != .up then some 0x08
  else if mode != (if c.kind = 1 then 4 else 2) then some 0x02
  else if c.kind = 2 ∧ (st != .regulating || s.mode n != c.modeAct || (s.rg n).kind != .none) ∧ c.step != .store then some 0x0A
  else if c.kind = 1 ∧ c.step.measuring ∧ c.step != .senseS ∧ c.step != .senseR ∧ !(st == .arming || st == .regulating) then some 0x0A
  else if c.kind = 1 ∧ c.step = .store ∧ st != .quenched then some 0x0A
  else if s.rb (CAL + 0x24) 1 then some 0x06
  else none

/-- After a command: a running run whose conditions are gone aborts (R259). -/
def State.calWatch (s : State) : State :=
  match s.calBroken with
  | some code => s.calAbort code
  | none => s

/-- A host write that a running run does not bear (R259). -/
def State.calHostWrite (s : State) (n : Nat) : State :=
  if s.cal.step.measuring ∧ s.cal.ch = n then s.calAbort 0x0D else s

/-- A host writes the constants window: its source shows so once the write is committed (R251). -/
def State.noteCal (s : State) (n : Nat) : State :=
  s.modCc n (fun c => { c with hostSet := c.hostSet || (c.hostNow.isSome && c.hostNow != some s.htick), hostNow := some s.htick })

/-! ### Preconditions (R254) -/

/-- Head temperature of a channel over the last second: its span (R254). -/
def State.tempSpan (s : State) (n : Nat) : Nat :=
  let c := s.cc n
  (max c.tMax c.tMax1 - min c.tMin c.tMin1).toNat

/-- The ranges declared that have calibration points, voltage ranges first (R255). -/
def State.calSets (s : State) (n : Nat) : List Nat :=
  ((rangeFrom 0 8).filter (fun r => s.declV n r && s.vrec n r 26 1 % 8 != 0)).map (fun r => 16 + r)
    ++ (rangeFrom 0 16).filter (fun r => s.declI n r && s.irec n r 26 1 % 8 != 0)

/-- ΔI of a gain-only run (R257). -/
def State.calDi (s : State) (n r : Nat) : B64 := F64.mul (F64.ofFrac (s.rf (CAL + 0x0C) 24 8) 100) (s.fsI64 n r)

/-- The sense window of a gain-only run (R254). -/
def State.gainWindow (s : State) (n : Nat) : Bool :=
  let m := s.ms n
  let r := s.iact n
  let dv := F64.abs (F64.sub (F64.of32 m.lastV) (s.ch n).setptEff)
  let win := F64.mul (F64.ofFrac (s.rf (CAL + 0x0C) 8 8) 1000) (s.fsV64 n (s.vact n))
  let i := F64.add (F64.abs (F64.of32 m.lastI)) (s.calDi n r)
  F64.le dv win && F64.le i (F64.mul (F64.ofFrac 9 10) (F64.min (F64.of32 (s.rd (chA n 0x124))) (s.fsI64 n r)))

/-- The precondition that fails; `final` for the check after the last measurement. -/
def State.calPre (s : State) (final : Bool) : Option Nat :=
  let c := s.cal
  let n := c.ch
  let mode := s.wingMode (wingOf n)
  let st := (s.ch n).st
  let md := s.mode n
  if mode != (if c.kind = 1 then 4 else 2) then some 0x02
  else if c.kind = 1 ∧ (if final then (s.cc n).openRun < 2 else st != .quenched) then some 0x03
  else if c.kind = 2 ∧ (st != .regulating || !(md == 0 || md == 3) || (s.rg n).kind != .none) then some 0x03
  else if c.kind = 2 ∧ !s.gainWindow n then some 0x04
  else if 128 * s.rf (CAL + 0x0C) 0 8 < 100 * s.tempSpan n then some 0x05
  else if s.rb (CAL + 0x24) 1 then some 0x06
  else if c.kind = 1 ∧ !((rangeFrom 0 8).all (fun r => !s.declV n r || s.vrec n r 27 1 % 2 == 1)
      && (rangeFrom 0 16).all (fun r => !s.declI n r || s.irec n r 27 1 % 2 == 1)) then some 0x07
  else if c.kind = 2 ∧ s.irec n (s.iact n) 27 1 / 2 % 2 != 1 then some 0x07
  else none

/-! ### The start (R252, R254, R255, R257) -/

/-- The DAC code for a current, or a voltage on the bus (R248, R257). -/
def State.dacCode (s : State) (cur : Bool) (x : Frac) : Nat :=
  let v := if cur then Frac.mul x (F64.frac s.calRext) else x
  (max 0 (min 65535 (Frac.div (Frac.mul v ⟨262144, 1⟩) (F64.frac s.calVrefx)).round)).toNat

/-- The channel after the one served last that has a request (R252). -/
def State.calNextCh (s : State) : Option Nat :=
  ((rangeFrom 1 128).map (fun i => (s.cal.served + i) % 128)).find? (fun n => (Tbl.get none s.cal.pend n).isSome)

/-- The next pending run starts (R252, R254). -/
def State.calStart (s : State) : State :=
  match s.calNextCh with
  | none => s
  | some n =>
    match Tbl.get none s.cal.pend n with
    | none => s
    | some (kind, temp) =>
      let s := s.calUnpend n
      let s := s.modCal (fun c => { c with step := .senseS, ch := n, kind := kind, temp := temp, start := s.htick, wait := s.htick, tmoMs := s.rf (CAL + 0x08) 0 16,
                                           modeReg := s.rf (chA n 0x100) 0 2, modeAct := s.mode n, todo := s.calSets n, pts := [], fits := [],
                                           tSum := 0, tN := 0, refDone := false, range := s.iact n, half := 0, means := [],
                                           served := n })
      match s.calPre false with
      | some code => ((s.modCal (fun c => { c with step := .store })).calAbort code).modCal (fun c => { c with step := .idle })
      | none =>
        if kind = 1 then s
        else
          let r := s.iact n
          let code := s.dacCode true (Frac.div (F64.frac (s.calDi n r)) (F32.frac (BitVec.ofNat 32 (s.irec n r 8 4))))
          (s.modCal (fun c => { c with step := .injRoute, code := code })).calMgmt n 0x12 r

/-- CAL_RUN_START: the idle sequencer starts the next run while cal_hold = 0 (R252). -/
def State.calRunStart (s : State) : State :=
  if s.cal.busy || s.rb CAL 2 || s.unitFenced 0x402 then s else s.calStart

/-- An event at ti_cal_go (R252). -/
def State.calGo (s : State) : State :=
  if !s.rb CAL 2 then s
  else if s.cal.busy || s.unitFenced 0x402 || s.calNextCh.isNone then s.incSat (CAL + 0x28) 0 16
  else s.calStart

/-- The bus reads within ±2 mV: a full run arms its channel in force mode FZ and isolates the load (R254, R255). -/
def State.calArm (s : State) : State :=
  let n := s.cal.ch
  let s := (s.keepOld (chA n 0x100)).wf (chA n 0x100) 0 2 2
  let s := s.setAct (chA n 0x100) (setBits (s.act (chA n 0x100)) 0 2 2)
  if s.armCode n true = 0 then ((s.cause n 0x01).modCal (fun c => { c with step := .isolate })).calMgmt n 0x10 0
  else s.calAbort 0x03

/-! ### Measuring (R255 to R257) -/

/-- Calibration point `p` of set `i` as a fraction of full scale, and ρ of the range. -/
def State.calPoint (s : State) (n i p : Nat) : Nat := if 16 ≤ i then s.vrec n (i - 16) (16 + 2 * p) 2 else s.irec n i (16 + 2 * p) 2
def State.calRho (s : State) (n i : Nat) : B32 := BitVec.ofNat 32 (if 16 ≤ i then s.vrec n (i - 16) 8 4 else s.irec n i 8 4)
def State.calFs (s : State) (n i : Nat) : B32 := if 16 ≤ i then s.fsV n (i - 16) else s.fsI n i
def State.calNp (s : State) (n i : Nat) : Nat := (if 16 ≤ i then s.vrec n (i - 16) 26 1 else s.irec n i 26 1) % 8

/-- The sums of an averaging start from 0. -/
def Cal.clear (c : Cal) : Cal := { c with accT := 0#64, accTN := 0, accSlots := 0, accR := 0#64, accRN := 0 }

/-- The DAC takes the code of the next point of the present set (R255). -/
def State.calNextPoint (s : State) : State :=
  let c := s.cal
  match c.todo with
  | [] => s
  | i :: _ =>
    let x := Frac.div (Frac.mul ⟨s.calPoint c.ch i c.pts.length, 65536⟩ (F32.frac (s.calFs c.ch i))) (F32.frac (s.calRho c.ch i))
    s.modCal (fun c => { c.clear with step := .settle, wait := s.htick, settleMs := s.settleMs, dac := s.dacCode (decide (i < 16)) x })

/-- The head is asked to route the present set's range (R255, R292). -/
def State.calRoute (s : State) : State :=
  let c := s.cal
  match c.todo with
  | [] => s
  | i :: _ => (s.modCal (fun c => { c with step := .route, pts := [] })).calMgmt c.ch 0x11 (if 16 ≤ i then i - 16 else i + 16)

/-- A gain-only half-cycle: its DAC code and estimate wait for the next boundary (R257, R258). -/
def State.calHalf (s : State) : State :=
  let c := s.cal
  let code := if c.half % 2 = 0 then 0 else c.code
  let e := F64.div (F64.mul (F64.of32 (s.calRho c.ch c.range)) (F64.mul s.calVrefx (F64.ofFrac code 262144))) s.calRext
  (s.modCal (fun c => { c.clear with step := .injCommit })).modCc c.ch (fun x => { x with estNext := some (code, some (c.range, e)) })

/-- A response for the sequencer (R255, R259). -/
def State.calOnRsp (s : State) : State :=
  let c := s.cal
  match (s.lk c.ch).calRsp with
  | none => s
  | some (op, st) =>
    let s := s.modLk c.ch (fun l => { l with calRsp := none })
    if st != some 0#8 then s
    else
      match c.step with
      | .isolate => if op = 0x10#8 then s.calRoute else s
      | .route => if op = 0x11#8 then s.calNextPoint else s
      | .injRoute => if op = 0x12#8 then s.calHalf else s
      | _ => s

/-- ROUTE_ACK_TIMEOUT (R259). -/
def State.routeTimeout (s : State) : State :=
  let c := s.cal
  if (c.step = .isolate ∨ c.step = .route ∨ c.step = .injRoute) ∧ 5000000 ≤ s.since c.wait then s.calAbort 0x0E else s

/-- CAL_TMO_EXPIRED (R259). -/
def State.calTimeout (s : State) : State :=
  if s.cal.busy ∧ s.cal.step != .write ∧ 500000 * s.cal.tmoMs ≤ s.since s.cal.start then s.calAbort 0x01 else s

/-! ### Fits (R256) -/

def sumF (l : List Frac) : Frac := l.foldl (fun a b => (Frac.add a b).norm) ⟨0, 1⟩

/-- The least-squares line through (raw, x): gain and offset with x = gain * (raw - offset); none where the raw readings
do not differ or the gain is 0. -/
def fitLine (ps : List (Frac × Frac)) : Option (Frac × Frac) :=
  let k : Frac := ⟨ps.length, 1⟩
  let sx := sumF (ps.map (fun p => p.1))
  let sy := sumF (ps.map (fun p => p.2))
  let sxx := sumF (ps.map (fun p => Frac.mul p.1 p.1))
  let sxy := sumF (ps.map (fun p => Frac.mul p.1 p.2))
  let d := Frac.sub (Frac.mul k sxx) (Frac.mul sx sx)
  let g := (Frac.div (Frac.sub (Frac.mul k sxy) (Frac.mul sx sy)) d).norm
  if d.isZero || g.isZero then none
  else some (g, (Frac.div (Frac.sub (Frac.mul g sx) sy) (Frac.mul g k)).norm)

/-- Least squares of residuals `e` on u² and, with `cubic`, u³; 0 where they do not determine a coefficient. -/
def fitBend (ps : List (Frac × Frac)) (cubic : Bool) : Frac × Frac :=
  let p2 (u : Frac) := Frac.mul u u
  let p3 (u : Frac) := Frac.mul u (p2 u)
  let a := sumF (ps.map (fun p => Frac.mul (p2 p.1) (p2 p.1)))
  let b := sumF (ps.map (fun p => Frac.mul (p2 p.1) (p3 p.1)))
  let c := sumF (ps.map (fun p => Frac.mul (p3 p.1) (p3 p.1)))
  let x := sumF (ps.map (fun p => Frac.mul (p2 p.1) p.2))
  let y := sumF (ps.map (fun p => Frac.mul (p3 p.1) p.2))
  if cubic then
    let d := Frac.sub (Frac.mul a c) (Frac.mul b b)
    ((Frac.div (Frac.sub (Frac.mul x c) (Frac.mul y b)) d).norm, (Frac.div (Frac.sub (Frac.mul a y) (Frac.mul b x)) d).norm)
  else ((Frac.div x a).norm, ⟨0, 1⟩)

/-- A whole number of parts per million, saturating at 65,535. -/
def ppm (x : Frac) : Nat := min 65535 (Frac.mul x ⟨1000000, 1⟩).round.toNat

/-- Mean head temperature of the run in °C (R256, R257). -/
def Cal.meanTemp (c : Cal) : B32 := if c.tN = 0 then 0x41C80000#32 else F32.ofFrac c.tSum (128 * c.tN)

/-- The fit of a set: its eight words and its residual (R256, R265). Where the points do not determine a line, gain and
offset are open (log 2). -/
def State.calFit (s : State) (n i : Nat) (pts : List (B64 × B64)) : State × List Word × Nat :=
  let ps := pts.map (fun p => (F64.frac p.1, F64.frac p.2))
  let (s, gain, ofs) := match fitLine ps with
    | some (g, o) => (s, g.to32, o.to32)
    | none =>
      let a := s.freeW
      let b := a.1.freeW
      (b.1, a.2, b.2)
  let fs := F32.frac (s.calFs n i)
  let fast (r : Frac) : Frac := Frac.mul (F32.frac gain) (Frac.sub r (F32.frac ofs))
  let us := ps.map (fun p => ((Frac.div (fast p.1) fs).norm, (Frac.div (Frac.sub p.2 (fast p.1)) fs).norm))
  let bend := if ps.length < 3 then (⟨0, 1⟩, ⟨0, 1⟩) else fitBend us (decide (4 ≤ ps.length))
  let c2 := bend.1.to32
  let c3 := bend.2.to32
  let left (u : Frac × Frac) : Frac :=
    let q := Frac.mul u.1 u.1
    (Frac.abs (Frac.sub (Frac.add (Frac.mul (F32.frac c2) q) (Frac.mul (F32.frac c3) (Frac.mul q u.1))) u.2)).norm
  let res := us.foldl (fun m u => max m (ppm (left u))) 0
  let tc : B32 := BitVec.ofNat 32 (if 16 ≤ i then s.vrec n (i - 16) 12 4 else s.irec n i 12 4)
  (s, [gain, ofs, c2, c3, tc, s.cal.meanTemp, BitVec.ofNat 32 (res + 65536 * pts.length), 0x10000#32], res)

/-! ### Storing and loading constants (R261 to R263, R83) -/

/-- The eight words of each of the 24 sets as they stand in the window. -/
def State.calWindow (s : State) (n : Nat) : List (List Word) :=
  (rangeFrom 0 24).map (fun i => (rangeFrom 0 8).map (fun j => s.rd (chA n (0x800 + 0x20 * i + 4 * j))))

/-- The 832 bytes of a slot (R261). -/
def slotBytes (ch serial seq kind sec maker : Nat) (sets : List (List Word)) : List Byte :=
  let head := leBytes 4 0x53434B44 ++ leBytes 2 ch ++ leBytes 2 1 ++ leBytes 8 serial ++ leBytes 4 seq ++ leBytes 4 kind ++ leBytes 6 sec
    ++ leBytes 2 maker ++ leBytes 28 0
  let body := sets.flatMap (fun x => x.flatMap (fun w => leBytes 4 w.toNat))
  head ++ leBytes 4 (crc32c (head ++ body)).toNat ++ body

/-- Its commit record (R261). -/
def slotCommit (slot : List Byte) : List Byte :=
  let b := leBytes 4 0x43434B44 ++ (slot.drop 4).take 2 ++ leBytes 2 0 ++ (slot.drop 16).take 4 ++ (slot.drop 60).take 4 ++ leBytes 12 0
  b ++ leBytes 4 (crc32c b).toNat

/-- Slot `k` (0 A, 1 B) of a position, when it is valid (R263). -/
def State.slotOf (s : State) (n k : Nat) : Option (List Byte) :=
  match s.cel.journal n k, s.cel.journal n (k + 2) with
  | some p, some q =>
    let d := p.data
    let c := q.data
    if leNat ((d.drop 60).take 4) = (crc32c (d.take 60 ++ (d.drop 64).take 768)).toNat
        ∧ leNat ((c.drop 28).take 4) = (crc32c (c.take 28)).toNat
        ∧ (c.drop 4).take 2 = (d.drop 4).take 2 ∧ (c.drop 8).take 4 = (d.drop 16).take 4 ∧ (c.drop 12).take 4 = (d.drop 60).take 4 then some d
    else none
  | _, _ => none

def slotSeq (d : List Byte) : Nat := leNat ((d.drop 16).take 4)

/-- The constants in a slot. -/
def slotConst (src : Nat) (d : List Byte) : CalConst :=
  ⟨src, if src = 2 then 0 else slotSeq d, leNat ((d.drop 30).take 2), leNat ((d.drop 8).take 8),
    (rangeFrom 0 192).map (fun j => BitVec.ofNat 32 (leNat ((d.drop (64 + 4 * j)).take 4)))⟩

/-- The choice for a position: newest valid slot, the other one, the factory constants (R263, R454), or none. -/
def State.calChoose (s : State) (n : Nat) : CalConst :=
  match s.slotOf n 0, s.slotOf n 1 with
  | some a, some b => if newer (slotSeq b) (slotSeq a) then slotConst 4 b else slotConst 3 a
  | some a, none => slotConst 3 a
  | none, some b => slotConst 4 b
  | none, none =>
    match s.cel.unitData 0 0 with
    | some d =>
      let x := (d.drop (832 * n)).take 832
      if x.take 4 = leBytes 4 0x53434B44 then slotConst 2 x else {}
    | none => {}

/-- The constant cache of one position is filled (R263). -/
def State.calCache (s : State) (n : Nat) : State := s.modCal (fun c => { c with cache := Tbl.put c.cache n (s.calChoose n) })
def State.calCacheAll (s : State) : State := (rangeFrom 0 128).foldl (fun s n => s.calCache n) s

/-- Nominal constants of a head (R251). -/
def State.calNominal (s : State) (n : Nat) : List Word :=
  (rangeFrom 0 24).flatMap (fun i =>
    let tc := if 16 ≤ i then (if s.declV n (i - 16) then s.vrec n (i - 16) 12 4 else 0) else (if s.declI n i then s.irec n i 12 4 else 0)
    [0x3F800000#32, 0#32, 0#32, 0#32, BitVec.ofNat 32 tc, 0x41C80000#32, 0#32, 0#32])

/-- HEAD_READY: the constants of the position take effect at once, then head_ready is 1, its event is produced and the
channel arms itself where R84 says so (R83, R84, R263). -/
def State.headIsReady (s : State) (n : Nat) : State :=
  let c := s.ch n
  if !c.headLoading || !(s.lk n).descValid then s
  else
    let x := Tbl.get {} s.cal.cache n
    let own := x.src != 1 && x.maker == s.headMaker n && x.serial == s.headSerial n
    let ws := if own then x.sets else s.calNominal n
    let s := (List.zip (rangeFrom 0 192) ws).foldl (fun s e =>
      (s.wr (chA n (0x800 + 4 * e.1)) e.2).setAct (chA n (0x800 + 4 * e.1)) e.2) s
    let t := (rangeFrom 0 24).find? (fun i => bit (s.act (chA n (0x81C + 0x20 * i))) 16)
    let s := match t with
      | some i => if own then s.wr (chA n 0xB04) (s.calC n i 0x14) else s
      | none => s
    let s := s.wr (chA n 0xB08) (BitVec.ofNat 32 (if own then x.seq else 0))
    let gf := (rangeFrom 0 24).foldl (fun g i => if bit (s.act (chA n (0x81C + 0x20 * i))) 17 then g else Tbl.put g i (s.calC n i 0)) (s.cc n).gainFull
    let s := s.modCc n (fun k => { k with src := if own then x.src else 1, gainFull := gf, hostSet := false, hostNow := none })
    let s := s.setCh n { s.ch n with headReady := true, headLoading := false }
    let s := s.modMs n (fun m => { m with ap := { m.ap with noHead := false } })
    (s.launch (16 * n + 5)).autoArm n

/-- The slot to write and its sequence number (R262). -/
def State.calSlot (s : State) (n : Nat) : Nat × Nat :=
  let a := s.slotOf n 0
  let b := s.slotOf n 1
  let newest : Option (Nat × Nat) := match a, b with
    | some x, some y => if newer (slotSeq y) (slotSeq x) then some (1, slotSeq y) else some (0, slotSeq x)
    | some x, none => some (0, slotSeq x)
    | none, some y => some (1, slotSeq y)
    | none, none => none
  let src := (s.cc n).src
  let k := if src = 3 then 1 else if src = 4 then 0
    else match newest with
      | some (j, _) => if a.isSome && b.isSome then 1 - j else if j = 1 then 0 else 1
      | none => 0
  (k, match newest with
    | some (_, q) => (q + 1) % 2 ^ 32
    | none => 1)

/-- A slot and its commit record go to the Cellar (R262). -/
def State.calStore (s : State) (n kind : Nat) (sets : List (List Word)) : State × Nat × Nat :=
  let (k, q) := s.calSlot n
  let d := slotBytes n (s.headSerial n) q kind s.tod.sec.toNat (s.headMaker n) sets
  (s.celRequest { id := 0, kind := .cal, who := 4, region := 4, item := n, lblk := k, data := d, follow := slotCommit d }, k, q)

/-- The sets after the run, with the fits put in. -/
def State.calResult (s : State) : List (List Word) :=
  (List.zip (rangeFrom 0 24) (s.calWindow s.cal.ch)).map (fun e =>
    match s.cal.fits.find? (fun f => f.1 == e.1) with
    | some f => f.2
    | none => e.2)

/-- The constants of the run are written into the window; they take effect at the next boundary (R251, R262). -/
def State.calWrite (s : State) : State :=
  let n := s.cal.ch
  let s := s.cal.fits.foldl (fun s f => (List.zip (rangeFrom 0 8) f.2).foldl (fun s e =>
    (s.keepOld (chA n (0x800 + 0x20 * f.1 + 4 * e.1))).wr (chA n (0x800 + 0x20 * f.1 + 4 * e.1)) e.2) s) s
  s.modCal (fun c => { c with step := .write, wait := s.htick })

/-- The measurements are done and checked: the result is stored, or written at once with persist = 0 (R262). -/
def State.calCommit (s : State) : State :=
  let c := s.cal
  let s := s.modCal (fun c => { c with step := .store })
  if s.rb CAL 1 then
    (let r := s.calStore c.ch c.kind s.calResult
     r.1.modCal (fun c => { c with slot := r.2.1, seq := r.2.2 }))
  else s.calWrite

/-- A full run has its last point, or a gain-only run its last half-cycle: final check, release and commit (R254 to
R258). -/
def State.calFinal (s : State) : State :=
  match s.calPre true with
  | some code => s.calAbort code
  | none =>
    if s.cal.kind = 1 then (s.calRestore.calCommit)
    else s.calRestore.modCal (fun c => { c with step := .gainEnd })

/-- A set is fitted and the next one is routed (R255, R256). -/
def State.calSetDone (s : State) : State :=
  let c := s.cal
  match c.todo with
  | [] => s.calFinal
  | i :: rest =>
    let r := s.calFit c.ch i c.pts.reverse
    let s := r.1
    if s.rf CAL 16 16 < r.2.2 then s.calAbort 0x09
    else
      let s := s.modCal (fun c => { c with fits := c.fits ++ [(i, r.2.1)], todo := rest })
      if rest.isEmpty then s.calFinal else s.calRoute

/-- A point has its n_avg conversions (R255). -/
def State.calPointDone (s : State) : State :=
  let c := s.cal
  let n := c.ch
  match c.todo with
  | [] => s
  | i :: _ =>
    let truth := F64.div c.accT (F64.ofInt c.accTN)
    let raw := F64.div c.accR (F64.ofInt c.accRN)
    let vl := F64.mul s.calVrefx (F64.ofFrac c.dac 262144)
    let off := decide (i < 16) && !c.refDone && F64.lt (F64.mul (F64.ofFrac 1 100) vl) (F64.abs (F64.sub truth vl))
    if off then s.calAbort 0x06
    else
      let tr := if i < 16 then F64.div truth s.calRext else truth
      let x := F64.mul (F64.of32 (s.calRho n i)) tr
      let s := s.modCal (fun c => { c with pts := (raw, x) :: c.pts, refDone := c.refDone || decide (i < 16) })
      if s.cal.pts.length < s.calNp n i then s.calNextPoint else s.calSetDone

/-- The result of a gain-only run (R257). -/
def State.gainDone (s : State) : State :=
  let c := s.cal
  let n := c.ch
  let i := c.range
  let ms := c.means.reverse
  let cyc := ms.length / 2
  let diff (f : B64 × B64 → B64) : B64 :=
    F64.div ((rangeFrom 0 cyc).foldl (fun t k =>
      F64.add t (F64.sub (f (ms.getD (2 * k + 1) (0#64, 0#64))) (f (ms.getD (2 * k) (0#64, 0#64))))) 0#64) (F64.ofInt cyc)
  let g := F32.of64 (F64.div (F64.mul (F64.of32 (s.calC n i 0)) (diff (fun m => m.2))) (diff (fun m => m.1)))
  let full := Tbl.get (s.calC n i 0) (s.cc n).gainFull i
  let drift := ppm (Frac.abs (Frac.sub (Frac.div (F32.frac g) (F32.frac full)) ⟨1, 1⟩))
  let q := s.rd (chA n (0x81C + 0x20 * i))
  let set := (rangeFrom 0 8).map (fun j => if j = 0 then g else if j = 5 then c.meanTemp
    else if j = 7 then setBits (setBit q 17) 0 16 drift else s.rd (chA n (0x800 + 0x20 * i + 4 * j)))
  (s.modCal (fun c => { c with fits := [(i, set)] })).calFinal

/-- CAL_WAIT_EXPIRY: averaging starts after settle_ms, or an injection half-cycle ends after inj_ms (R255, R257),
as they stood where the wait began (R214). -/
def State.calWaitEnd (s : State) : State :=
  let c := s.cal
  let settle := 500000 * c.settleMs
  match c.step with
  | .settle => if settle ≤ s.since c.wait then s.modCal (fun c => { c.clear with step := .average }) else s
  | .injSettle => if settle ≤ s.since c.wait then s.modCal (fun c => { c.clear with step := .injAverage }) else s
  | .injAverage =>
    if 500000 * c.injMs ≤ s.since c.wait then
      let m := (F64.div c.accR (F64.ofInt c.accRN), F64.div c.accT (F64.ofInt c.accTN))
      let s := s.modCal (fun c => { c with means := m :: c.means, half := c.half + 1 })
      if 2 * s.rf (CAL + 0x10) 24 8 ≤ s.cal.half then s.gainDone else s.calHalf
    else s
  | _ => s

/-- A good frame of the channel under calibration counts into the sums (R255, R257). -/
def State.calFrame (s : State) (n : Nat) (f : Frame) : State :=
  let c := s.cal
  if c.ch ≠ n ∨ c.step = .idle ∨ (s.ms n).latch.all (fun q => q.edge != s.arrival) then s
  else
    let t := frP f 16 2
    let s := if t = 0x8000 ∨ !c.step.measuring then s
      else s.modCal (fun c => { c with tSum := c.tSum + (BitVec.ofNat 16 t).toInt, tN := c.tN + 1 })
    let pr := frP f 13 1 % 16
    let sr := frP f 13 1 / 16
    let iRaw (r : Nat) : B32 := BitVec.ofNat 32 (if pr ≠ r ∧ sr = r then frP f 8 4 else frP f 4 4)
    match c.step, c.todo with
    | .average, i :: _ =>
      let raw := if 16 ≤ i then BitVec.ofNat 32 (frP f 0 4) else iRaw i
      s.modCal (fun c => { c with accR := F64.add c.accR (F64.of32 raw), accRN := c.accRN + 1 })
    | .injAverage, _ =>
      s.modCal (fun c => { c with accR := F64.add c.accR (F64.of32 (s.fast n c.range (iRaw c.range))), accRN := c.accRN + 1 })
    | _, _ => s

/-! ### Boundaries (R248, R258) -/

/-- At a boundary the DAC code and the estimate commit, and the route release goes out (R258, R260). -/
def State.calBoundary (s : State) (n : Nat) : State :=
  let x := s.cc n
  let s := match x.estNext with
    | none => s
    | some (code, e) => (s.setCc n { x with est := e, estNext := none }).modCal (fun c => { c with dac := code })
  let s := if x.release then (s.modCc n (fun x => { x with release := false })).calMgmt n 0x13 0 else s
  let c := s.cal
  if c.ch ≠ n then s
  else if c.step = .injCommit ∧ x.estNext.isSome then s.modCal (fun c => { c with step := .injSettle, wait := s.htick, settleMs := s.settleMs, injMs := s.rf (CAL + 0x10) 16 8 })
  else if c.step = .gainEnd ∧ x.release then s.calCommit
  else s

/-- At the boundary that commits them, the run's constants take effect and the run has completed (R253, R265). -/
def State.calDone (s : State) (n : Nat) : State :=
  let c := s.cal
  if c.ch ≠ n ∨ c.step ≠ .write ∨ c.wait = s.htick then s
  else
    let stored := s.rb CAL 1
    let s := s.modCal (fun c => { c with step := .idle })
    let s := s.modCc n (fun x => { x with src := if stored then 3 + c.slot else 6,
                                          gainFull := if c.kind = 1 then c.fits.foldl (fun g f => Tbl.put g f.1 (f.2.getD 0 0#32)) x.gainFull
                                            else x.gainFull })
    let s := s.wr (chA n 0xB08) (BitVec.ofNat 32 (if stored then c.seq else 0))
    let s := s.wr (chA n 0xB04) c.meanTemp
    let s := ((s.wf (CAL + 0x20) 16 8 0).wf (CAL + 0x20) 24 7 n).wf (chA n 0xB00) 8 8 0
    ((s.wb (calDueReg n) (n % 32) false).incWrap (chA n 0xB10) 0 16).launch 0xB00

/-! ### The Cellar's answer (R262) -/

/-- CAL_STORE_CONFIRMED: the commit record is confirmed, or the store has failed. -/
def State.calConfirmed (s : State) : State :=
  match s.cel.results.find? (fun r => r.who == 4) with
  | none => s
  | some r =>
    let s := s.modCel (fun c => { c with results := c.results.erase r })
    match s.cal.saves.find? (fun v => v.1 == r.item) with
    | some v =>
      let s := s.modCal (fun c => { c with saves := c.saves.erase v })
      if r.ok then (s.modCc v.1 (fun x => { x with src := 3 + v.2.1 })).wr (chA v.1 0xB08) (BitVec.ofNat 32 v.2.2)
      else s.calFault 0x402 4
    | none =>
      if s.cal.step = .store ∧ s.cal.ch = r.item then
        (if r.ok then s.calWrite else (s.calFault 0x402 4).calAbort 0x0C)
      else s

/-- CAL_CMD op 3 (R262): a save, with persist = 1 and no store of the channel under way. -/
def State.calSave (s : State) (n : Nat) : State :=
  if !s.rb CAL 1 || s.unitFenced 0x402 || s.cal.saves.any (fun v => v.1 == n) || (s.cal.step == .store && s.cal.ch == n) then s
  else
    let r := s.calStore n 3 (s.calWindow n)
    r.1.modCal (fun c => { c with saves := c.saves ++ [(n, r.2.1, r.2.2)] })

/-- CAL_CMD op 4 (R259). -/
def State.calAbortCmd (s : State) : State := if s.cal.busy && s.cal.step != .write then s.calAbort 0x0B else s

/-- CAL_SEQUENCER_FENCE (R259, R304). -/
def State.calFence (s : State) : State :=
  let s := s.takeFence 0x402
  if s.cal.busy then s.calAbort 0x0F else s

/-! ### The REFADC (R243 to R247, R236, R237) -/

/-- The copy of the trims in use (R243). -/
def State.otpPick (s : State) : Nat :=
  let ok (o : Nat) : Bool :=
    leNat (Mem.bytes s.otp (o + 0x3C) 4) == (crc32c (Mem.bytes s.otp o 0x3C ++ Mem.bytes s.otp (o + 0x40) 0x7C0)).toNat
  if ok 0 then 1 else if ok 0x800 then 2 else 0

/-- The trims are read at power-on and after a device reset (R243). -/
def State.otpLoad (s : State) : State :=
  let c := s.otpPick
  let s := s.modCal (fun x => { x with otpCopy := c })
  let s := s.wr (CAL + 0x78) (BitVec.ofNat 32 (c + 256 * (if c = 0 then 0 else leNat (Mem.bytes s.otp (0x800 * (c - 1) + 8) 2))))
  if c = 0 then s.calFault 0x422 2
  else (s.wr64 0x004 (BitVec.ofNat 64 (leNat (Mem.bytes s.otp (0x800 * (c - 1)) 8)))).wb 0x000 20 Config.grade

/-- What a slot of the REFADC's schedule serves (R245). -/
inductive AdcUse where
  | trka (w : Nat) | cal | calExtra | die | bandgap | readback (n c : Nat) | direct | agnd | idle
deriving DecidableEq, Repr

/-- The comparator that wing `w` has due for readback: one asked for by rb_now, or the next of the scan (R236). -/
def State.rbDue (s : State) (w : Nat) : Option (Nat × Nat × Bool) :=
  let all := (rangeFrom (16 * w) 16).flatMap (fun n => (rangeFrom 0 4).map (fun c => (n, c)))
  match all.find? (fun p => ((s.mo p.1).cmp p.2).rbDue) with
  | some p => some (p.1, p.2, false)
  | none =>
    let ms := s.rf (wgA w 0x404) 0 8
    if ms ≠ 0 ∧ 500000 * ms ≤ s.since (Tbl.get 0#64 s.cal.rbAt w) then
      let i := Tbl.get 0 s.cal.rbPos w % 64
      some (16 * w + i / 4, i % 4, true)
    else none

def State.rbNext (s : State) : Option (Nat × Nat × Bool) := (rangeFrom 0 8).findSome? (fun w => s.rbDue w)

/-- The input that the running step of a run converts: the CALS ball, or the voltage across REXT. -/
def Cal.converts (c : Cal) : Bool :=
  c.step == .senseS || c.step == .senseR || c.step == .average || c.step == .injAverage

/-- SERVICE for a direct conversion (R246, R493): of the wing whose CALS ball dir_sel names, else of a wing
(DEDUCED, log 53). -/
def State.dirService (s : State) : Bool :=
  if s.rf (CAL + 0x60) 0 3 = 4 then s.wingMode (s.rf (CAL + 0x60) 3 3) == 5 else s.anyService

/-- The use of slot `m`, counted from reset (R245). -/
def State.adcUse (s : State) (m : Nat) : AdcUse :=
  let f := m / 10
  let k := m % 10
  if k < 8 then (if s.trkaUsed k then .trka k else if s.cal.step == .average || s.cal.step == .injAverage then .calExtra else .idle)
  else if k = 8 then
    (if f % 100 = 50 then .bandgap else if f % 10 = 0 then .die
     else match s.rbNext with
       | some (n, c, _) => .readback n c
       | none => .die)
  else if s.cal.converts then .cal
  else if s.dirService && !s.cal.busy && s.rb (CAL + 0x60) 6 then .direct
  else .agnd

/-- A bandgap conversion (R247). -/
def State.bandgapIn (s : State) (v : B64) : State :=
  let nom := if s.cal.otpCopy = 0 then F64.ofFrac 12 10 else Config.bandgap s.cal.otpCopy
  let est := F64.mul s.calVrefx (F64.div nom v)
  let s := s.wr (CAL + 0x54) (F32.of64 est)
  let d := F64.abs (F64.sub est s.calVrefx)
  if F64.lt (F64.mul (F64.ofFrac 5 1000) (F64.abs s.calVrefx)) d then
    ((s.calFault 0x422 1).incSat (CAL + 0x28) 16 16).launch 0xB03
  else s

/-- A conversion for the running step (R254, R255, R257, R258). -/
def State.calConv (s : State) (v : B64) (slot9 : Bool) : State :=
  let c := s.cal
  match c.step with
  | .senseS => if F64.le (F64.abs v) (F64.ofFrac 2 1000) then s.modCal (fun c => { c with step := .senseR }) else s.calAbort 0x04
  | .senseR => if F64.le (F64.abs v) (F64.ofFrac 2 1000) then s.calArm else s.calAbort 0x04
  | .average =>
    let s := s.modCal (fun c => { c with accT := F64.add c.accT v, accTN := c.accTN + 1, accSlots := c.accSlots + b2n slot9 })
    if s.rf (CAL + 0x10) 0 16 ≤ s.cal.accSlots then s.calPointDone else s
  | .injAverage =>
    let i := F64.div (F64.mul (F64.of32 (s.calRho c.ch c.range)) v) s.calRext
    let s := s.modCal (fun c => { c with accT := F64.add c.accT i, accTN := c.accTN + 1 })
    s.modCc c.ch (fun x => { x with est := match x.est with
      | some (r, _) => some (r, i)
      | none => none })
  | _ => s

/-- A readback conversion (R236, R237); a DAC whose code changed within the last 1 µs is skipped. -/
def State.rbConv (s : State) (n c : Nat) (v : B64) : State :=
  let w := wingOf n
  let s := match s.rbDue w with
    | some (_, _, true) => s.modCal (fun x => { x with rbPos := Tbl.put x.rbPos w ((Tbl.get 0 x.rbPos w + 1) % 64),
                                                       rbAt := Tbl.put x.rbAt w s.htick })
    | _ => s
  let k := (s.mo n).cmp c
  if k.codeAt ≠ 0#64 ∧ s.since k.codeAt < 500 then s
  else
    let lsb := (Frac.mul (Frac.sub (F64.frac v) ⟨15, 100⟩) ⟨65536 * 10, 15⟩).round
    s.readback n c (max 0 (min 65535 lsb)).toNat

/-- MON_CMD rb_now (R236). -/
def State.rbNow (s : State) (n : Nat) : State := (rangeFrom 0 4).foldl (fun s c => s.modCmp n c (fun k => { k with rbDue := true })) s

end Sys2Proof.Machine
end

