-- ==== Sys2Proof/Machine/Boundary.lean ====
section
/-!
DEFINITION. A channel's period boundary (R31): the commit of the shadow set and everything that happens at it.
-/

namespace Sys2Proof.Machine

/-- The output is live: REGULATING, COMPLIANCE, HOLD or RAMPDOWN (Table "Channel states"). -/
def ChState.outLive : ChState → Bool
  | .regulating => true
  | .compliance => true
  | .hold => true
  | .rampdown => true
  | _ => false

/-- A write of a range field that the boundary of this tick commits: one of an earlier tick (R31). -/
def State.vCommits (s : State) (n : Nat) : Bool :=
  let c := s.ch n
  c.vWritten || (c.vNow.isSome && c.vNow != some s.htick)
def State.iCommits (s : State) (n : Nat) : Bool :=
  let c := s.ch n
  c.iWritten || (c.iNow.isSome && c.iNow != some s.htick)

/-- The range writes that a commit has taken; one of this tick waits for the next boundary. -/
def State.writesTaken (s : State) (n : Nat) : State :=
  s.modCh n (fun c => { c with vWritten := false
                               iWritten := false
                               vNow := if c.vNow == some s.htick then c.vNow else none
                               iNow := if c.iNow == some s.htick then c.iNow else none })

/-- The constants that a host wrote are committed: their source is the host (R251). -/
def State.hostConstants (s : State) (n : Nat) : State :=
  let c := s.cc n
  let early := c.hostNow.isSome && c.hostNow != some s.htick
  if c.hostSet || early then s.setCc n { c with src := 5, hostSet := false, hostNow := if early then none else c.hostNow }
  else s

/-- The commit of a boundary: the shadow set, and the end of a calibration whose constants it commits (R31, R262). -/
def State.commitBoundary (s : State) (n : Nat) : State :=
  if s.commits n then (((s.commitAll n).writesTaken n).calDone n).hostConstants n else s

/-- PERIOD_BOUNDARY at house tick B (R31), in this order: commit; calibration estimate and release (R258, R260);
compliance counts (R57); HOLD exits and the end of ARMING (R60); voltage range (R52); current range (R146 to R151);
effective quantities (R53 to R56); monitors (R219, R230); apertures and the raw stream (R133, R136); the pulse trigger
(R78); a template replacement (R115). `tripped` says which Guard comparators are tripped now (R230). -/
def State.boundary (s : State) (n : Nat) (tripped : BitVec 2) : State :=
  if !s.atBoundary n || s.sleeping (wingOf n) then s
  else
    let md := s.mode n
    let cfg := s.act (chA n 0x200)
    let raw := s.act (chA n 0x210)
    let wroteV := s.commits n && s.vCommits n
    let wroteI := s.commits n && s.iCommits n
    let s := s.commitBoundary n
    let s := s.calBoundary n
    let s := s.complyBoundary n
    let s := s.holdExit n
    let arming := decide ((s.ch n).st = .arming)
    let s := s.armingExit n
    let entered := arming && decide ((s.ch n).st = .regulating)
    let s := s.vrangeBoundary n wroteV
    let s := s.rngBoundary n wroteI
    let changed := s.mode n != md && (s.ch n).st.outLive && !entered
    let s := if changed then s.modeChange n else s
    let s := s.effective n (entered || changed)
    let s := s.cmpRefreshAll n
    let s := s.monBoundary n tripped
    let s := s.apBoundary n cfg
    let s := s.rawBoundary n raw (s.act (chA n 0x210))
    let s := s.gpgFrom n 2
    s.replBoundary n

end Sys2Proof.Machine
end

