-- ==== Sys2Proof/Machine/RegMap.lean ====
section
/-!
DEFINITION. The register map (chapter 19) with the access codes of R10: which addresses hold a register, which of its
bits a host write stores (RW, RWL), clears (W1C) or acts on (WO), which registers each path has its own copy of (R522),
and which form pairs and groups (R18, R145, R213, R315, R437).
-/

namespace Sys2Proof.Machine

/-- How a register takes part in a pair or a group: the low or the high word of a pair; the register whose read copies
a group, and a member of the group. -/
inductive RegPart where
  | single | low | high | lead | member
deriving DecidableEq, Repr

/-- A register, or `n` registers `stride` bytes apart: its offset, the bits of each access code, and whether RWL, own
copies and pairs apply. Bits in none of the masks are RO or reserved. -/
structure RegRow where
  off : Nat
  n : Nat := 1
  stride : Nat := 4
  rw : Nat := 0
  w1c : Nat := 0
  wo : Nat := 0
  lock : Bool := false
  own : Bool := false
  part : RegPart := .single
deriving DecidableEq, Repr

def all32 : Nat := 0xFFFFFFFF

/-- The registers of one channel (chapters 02, 03, 04, 07, 08, 09). -/
def chRows : List RegRow :=
  [{ off := 0x000, wo := 0xF }, { off := 0x004, rw := 0x77 }, { off := 0x008 }, { off := 0x00C, w1c := 0xFFFF },
   { off := 0x010 }, { off := 0x014, rw := 0xFFFF }, { off := 0x018, rw := 0x1FFF }, { off := 0x01C, rw := 0xFFFF },
   { off := 0x020, rw := 0xFFFFFF }, { off := 0x024, rw := 0xFFFF }, { off := 0x028, rw := all32 },
   { off := 0x030, part := .low }, { off := 0x034, part := .high }, { off := 0x038 },
   { off := 0x040, part := .low }, { off := 0x044, part := .high }] ++
  [{ off := 0x100, rw := 0xF73 }, { off := 0x104 }, { off := 0x108, n := 6, rw := all32 }, { off := 0x120, n := 7 }] ++
  [{ off := 0x200, rw := 0xFFFF }, { off := 0x204, rw := 0x3FFFFFF }, { off := 0x208, rw := 0x3FFF },
   { off := 0x20C, rw := all32 }, { off := 0x210, rw := 0x1FFFF01 }, { off := 0x214, wo := 3 },
   { off := 0x218, rw := 0xFFFF, lock := true }, { off := 0x21C }, { off := 0x220, w1c := 0x1F },
   { off := 0x224, rw := all32 }, { off := 0x228, rw := all32 }, { off := 0x230, part := .lead },
   { off := 0x234, n := 9, part := .member }, { off := 0x258, part := .low }, { off := 0x25C, part := .high },
   { off := 0x260, n := 3 }] ++
  [{ off := 0x300, rw := 0x3F0FF3 }, { off := 0x304, rw := 0x3FF03FF }, { off := 0x308, rw := 0xFFFFFF },
   { off := 0x30C, rw := 0x3FF }, { off := 0x310 }, { off := 0x314, w1c := 0x7F }, { off := 0x318, rw := all32 }] ++
  [{ off := 0x400, rw := 0xF }, { off := 0x404, rw := 0x3FFFFF, lock := true }, { off := 0x408, rw := all32, lock := true },
   { off := 0x40C }, { off := 0x410, w1c := 0x7FF }, { off := 0x414, rw := all32 }, { off := 0x418, part := .low },
   { off := 0x41C, part := .high }, { off := 0x420, n := 2 }, { off := 0x428, rw := 7 },
   { off := 0x480, n := 32, rw := all32 }] ++
  [{ off := 0x500, n := 4, rw := 0x1FF }, { off := 0x510, n := 4, rw := all32 }, { off := 0x520, n := 4 },
   { off := 0x530, rw := 3 }, { off := 0x534, w1c := 0x7000F }, { off := 0x538, rw := all32 }, { off := 0x540, n := 4 },
   { off := 0x550, wo := 1 }] ++
  [{ off := 0x600, rw := 1 }, { off := 0x604 }, { off := 0x608, w1c := 0x1FFF }, { off := 0x60C, n := 2, rw := all32 },
   { off := 0x614, n := 3 }, { off := 0x620, part := .low }, { off := 0x624, part := .high }, { off := 0x628, wo := 3 }] ++
  [{ off := 0x700, rw := 0xFF }, { off := 0x704, n := 3, rw := all32 }, { off := 0x710, rw := 0xFFFF }, { off := 0x714 },
   { off := 0x718, rw := 0xFFFF }, { off := 0x71C, wo := 3 }] ++
  [{ off := 0x800, n := 24, stride := 0x20, rw := all32 }, { off := 0x804, n := 24, stride := 0x20, rw := all32 },
   { off := 0x808, n := 24, stride := 0x20, rw := all32 }, { off := 0x80C, n := 24, stride := 0x20, rw := all32 },
   { off := 0x810, n := 24, stride := 0x20, rw := all32 }, { off := 0x814, n := 24, stride := 0x20, rw := all32 },
   { off := 0x818, n := 24, stride := 0x20, rw := 0xFFFFFF }, { off := 0x81C, n := 24, stride := 0x20, rw := 0x3FFFF },
   { off := 0xB00, n := 3 }, { off := 0xB0C, rw := 3 }, { off := 0xB10, rw := all32 }] ++
  [{ off := 0xC00, n := 3, rw := all32 }, { off := 0xC0C, wo := 1 }, { off := 0xC10, n := 3 }, { off := 0xC1C, w1c := 0xE },
   { off := 0xD00, n := 189 }]

/-- The registers of one wing. -/
def wgRows : List RegRow :=
  [{ off := 0x100, wo := 0xFFFF }, { off := 0x104, wo := all32 }, { off := 0x108, n := 2 },
   { off := 0x200, n := 2, rw := all32 }, { off := 0x208 }, { off := 0x20C, rw := 0x3FF0003 }, { off := 0x210, rw := 0xFFFFFF },
   { off := 0x214 }, { off := 0x218, rw := 0xFFFF00, w1c := 0xC }, { off := 0x300, n := 32, rw := 0xFFFFF },
   { off := 0x380, rw := 0xFFF }, { off := 0x400 }, { off := 0x404, rw := 0xFFFF }, { off := 0x408 }]

/-- The registers of one tile (R129). -/
def tlRows : List RegRow :=
  [{ off := 0x000 }, { off := 0x004, w1c := 0x3F }, { off := 0x008, rw := all32 }, { off := 0x00C, rw := 0xFFF0000 },
   { off := 0x080, n := 32 }, { off := 0x100, n := 16, stride := 8, part := .low },
   { off := 0x104, n := 16, stride := 8, part := .high }, { off := 0x180, n := 32 },
   { off := 0x800, n := 200, stride := 8, part := .low }, { off := 0x804, n := 200, stride := 8, part := .high }]

/-- The registers of GLB (R494), HRT (R327), PHS (R216), CAL (R266), CFG (R356). -/
def glbRows : List RegRow :=
  [{ off := 0x000 }, { off := 0x004, part := .low }, { off := 0x008, part := .high }, { off := 0x010 },
   { off := 0x014, rw := 0x1FFFFF }, { off := 0x018, wo := 3 }, { off := 0x01C }, { off := 0x020, wo := 0x1FFFF },
   { off := 0x024 }, { off := 0x030, wo := 0xFF0F }, { off := 0x034, n := 2 }, { off := 0x03C, w1c := 0xFF },
   { off := 0x040, rw := 0xFFFF }, { off := 0x044, rw := 0xFFFFFF }, { off := 0x050 }, { off := 0x054, w1c := 0x37E },
   { off := 0x058, w1c := 3 }, { off := 0x05C, rw := 0xFF }]

def hrtRows : List RegRow :=
  [{ off := 0x000, w1c := 0xFFFFFFF }, { off := 0x004 }, { off := 0x008, part := .low }, { off := 0x00C, part := .high },
   { off := 0x010, rw := 0xFFFFFFF, part := .low }, { off := 0x014, part := .high }, { off := 0x018, part := .low },
   { off := 0x01C, part := .high }, { off := 0x020, n := 2 }, { off := 0x030, w1c := 0x80 }, { off := 0x034, wo := 7 },
   { off := 0x040, part := .lead }, { off := 0x044, n := 5, part := .member }, { off := 0x060 }, { off := 0x064, part := .low },
   { off := 0x068, part := .high }, { off := 0x070 }, { off := 0x074, part := .low }, { off := 0x078, part := .high },
   { off := 0x080, w1c := 7 }, { off := 0x100, rw := 0x7FF, own := true }, { off := 0x104, rw := 0xFFFF0F, own := true },
   { off := 0x108, rw := 0x3FFFFFFF, own := true }, { off := 0x10C, n := 2, own := true }, { off := 0x114, wo := 7 },
   { off := 0x200, n := 16 }]

def phsRows : List RegRow :=
  [{ off := 0x000, rw := 0xFF1F }, { off := 0x004, rw := 0xFFFFF }, { off := 0x008, rw := all32 }, { off := 0x00C },
   { off := 0x010, w1c := 0xFFF }, { off := 0x014, rw := all32 }, { off := 0x018, n := 2 }, { off := 0x020, part := .low },
   { off := 0x024, part := .high }, { off := 0x028, n := 4 }, { off := 0x038, part := .low }, { off := 0x03C, part := .high },
   { off := 0x040, n := 2 }, { off := 0x048, rw := all32, part := .low }, { off := 0x04C, rw := 0xFFFF, part := .high },
   { off := 0x050, rw := all32 }, { off := 0x054, rw := all32, part := .low }, { off := 0x058, rw := 0xFFFF, part := .high },
   { off := 0x05C, wo := 7 }, { off := 0x080, part := .low }, { off := 0x084, part := .high }, { off := 0x088, part := .low },
   { off := 0x08C, part := .high }, { off := 0x090, n := 4 }, { off := 0x0A0, part := .low }, { off := 0x0A4, part := .high },
   { off := 0x0A8 }, { off := 0x0C0, part := .lead }, { off := 0x0C4, n := 4, part := .member }, { off := 0x0E0, part := .lead },
   { off := 0x0E4, n := 3, part := .member }, { off := 0x100, rw := 0xFFF, own := true }, { off := 0x104, rw := 0xFFFF03FF, own := true },
   { off := 0x108, rw := all32, own := true, part := .low }, { off := 0x10C, rw := all32, own := true, part := .high },
   { off := 0x110, rw := all32, own := true }, { off := 0x114, wo := 3 }, { off := 0x118, own := true }, { off := 0x11C },
   { off := 0x200, n := 128, w1c := all32 }]

def calRows : List RegRow :=
  [{ off := 0x000, rw := 0xFFFFFF0F }, { off := 0x004, rw := 0x3FF }, { off := 0x008, rw := 0xFFFF },
   { off := 0x00C, n := 4, rw := all32 }, { off := 0x01C, wo := 0x77F }, { off := 0x020 }, { off := 0x024, w1c := 0x1F },
   { off := 0x028, rw := all32 }, { off := 0x030, n := 4 }, { off := 0x040, n := 4 }, { off := 0x050, n := 2 },
   { off := 0x060, rw := 0x7F }, { off := 0x064 }, { off := 0x070, rw := 0x3FF }, { off := 0x074, n := 2 }]

def cfgRows : List RegRow :=
  [{ off := 0x000 }, { off := 0x004, w1c := 0xFF }, { off := 0x008, wo := 0x3F7F }, { off := 0x00C, n := 2 },
   { off := 0x014, rw := 0x3F, lock := true }, { off := 0x018, part := .low }, { off := 0x01C, part := .high },
   { off := 0x020, n := 2 }, { off := 0x028, rw := all32 }, { off := 0x030, part := .low }, { off := 0x034, part := .high },
   { off := 0x040, n := 8, stride := 8, part := .low }, { off := 0x044, n := 8, stride := 8, part := .high }, { off := 0x080 },
   { off := 0x090, rw := 1 }, { off := 0x094, w1c := 3 }, { off := 0x098, rw := all32 }, { off := 0x09C, n := 2 }]

/-- The registers of HWY (R400, places by log 10), PAN (R382), one Chute (R383), PRC (R446), CEL (R466). -/
def hwyRows : List RegRow :=
  [{ off := 0x000, w1c := 0xF }, { off := 0x004, rw := 0x7FFFFFFF }, { off := 0x008, wo := 0xFFFF },
   { off := 0x010, n := 8, w1c := all32 }, { off := 0x030, n := 4, w1c := all32 }, { off := 0x040, n := 8, rw := all32 },
   { off := 0x060, n := 4, w1c := all32 }, { off := 0x100, rw := 0xFF, own := true }, { off := 0x104, wo := 3 },
   { off := 0x108, rw := 0x13F, own := true }, { off := 0x10C, n := 12, rw := all32, own := true },
   { off := 0x13C, n := 2, own := true }, { off := 0x144, own := true, part := .low }, { off := 0x148, own := true, part := .high },
   { off := 0x180, rw := 0xFFFF, own := true }, { off := 0x184 }, { off := 0x188, wo := 1 }]

def panRows : List RegRow :=
  [{ off := 0x000, n := 8, rw := 0x77777777 }, { off := 0x020, n := 2 }, { off := 0x030, w1c := 0x1F }, { off := 0x034, n := 2 },
   { off := 0x03C, rw := all32 }, { off := 0x040, wo := 0xFF3F07 }, { off := 0x044, rw := 0xFFFF01 },
   { off := 0x048, n := 2, rw := all32 }, { off := 0x050 }, { off := 0x060, rw := 0x3F, own := true }, { off := 0x064 },
   { off := 0x068, w1c := 0x3F }, { off := 0x06C, rw := all32 }, { off := 0x070, rw := 0xFFFF }, { off := 0x074 }]

def chuRows : List RegRow :=
  [{ off := 0x00, rw := 0xFFFF3F1F, lock := true }, { off := 0x04, rw := 0xFFFFFF }, { off := 0x08, n := 3 },
   { off := 0x14, w1c := 0xFF }, { off := 0x18, wo := 0x80000000 }, { off := 0x1C, rw := all32 }]

def portRows : List RegRow :=
  [{ off := 0x00, rw := 0x3FFFF }, { off := 0x04 }, { off := 0x08, w1c := 0xFF }, { off := 0x0C, n := 3, rw := all32 },
   { off := 0x18, rw := all32, part := .low }, { off := 0x1C, rw := 0xFFFF, part := .high }, { off := 0x20, n := 5, rw := all32 },
   { off := 0x34, rw := 0xFFFF }]

def prcRows : List RegRow :=
  [{ off := 0x400, rw := 0x3FFF }, { off := 0x404, rw := 0xFFFFF }, { off := 0x408, wo := 3 },
   { off := 0x40C, rw := 0x3F3F, lock := true }, { off := 0x410, rw := 3 }, { off := 0x414, n := 8, wo := all32 },
   { off := 0x440, rw := 0xFFFFFF03 }, { off := 0x444, n := 8, rw := all32 }, { off := 0x480, n := 2 },
   { off := 0x488, part := .lead }, { off := 0x48C, n := 2, part := .member }, { off := 0x494, w1c := 3 },
   { off := 0x4C0, rw := 0x3F, own := true }, { off := 0x4C4 }, { off := 0x800, n := 64, rw := 0x0F0F0F0F }]

def celRows : List RegRow :=
  [{ off := 0x000, rw := 0x3F }, { off := 0x004 }, { off := 0x008, w1c := 0xFF }, { off := 0x00C, n := 5 },
   { off := 0x020, rw := 0xFFFFFF3F }, { off := 0x024, rw := 0xFFFFFF }, { off := 0x028, rw := all32 }, { off := 0x02C, n := 2 },
   { off := 0x034, wo := 0x1FFF0007 }, { off := 0x038, n := 2 }, { off := 0x040, rw := 0xFF }]

/-- The registers of STD (R418), SDR and KPR (R447), SWP and one context (R187, R188). -/
def stdRows : List RegRow := [{ off := 0x000 }, { off := 0x004, w1c := 1 }]

def engRows : List RegRow :=
  [{ off := 0x00 }, { off := 0x04, w1c := 0x7F }, { off := 0x08 }, { off := 0x0C, n := 3, rw := all32 },
   { off := 0x18, part := .low }, { off := 0x1C, part := .high }]

def sdrRows : List RegRow :=
  [{ off := 0x000, w1c := 7 }, { off := 0x004, rw := all32 }, { off := 0x100, w1c := 0xF }, { off := 0x104, rw := 0xFF },
   { off := 0x108, n := 4, rw := all32 }, { off := 0x118, wo := 1 }, { off := 0x11C, n := 5 }]

def swpRows : List RegRow :=
  [{ off := 0x000, rw := 0x3F3F, lock := true }, { off := 0x004 }, { off := 0x008, rw := 0x7FFF }, { off := 0x00C },
   { off := 0x010, w1c := 0x1F }, { off := 0x100, n := 16, stride := 8, rw := 3 },
   { off := 0x104, n := 16, stride := 8, rw := all32 }, { off := 0x200, n := 32, rw := all32 }]

def ctxRows : List RegRow :=
  [{ off := 0x00, rw := 0xF3FF }, { off := 0x04, rw := 0x7FFFF }, { off := 0x08, rw := 0xFFFF7FFF }, { off := 0x0C, n := 5, rw := all32 },
   { off := 0x20, rw := 0xFFFFFF }, { off := 0x24, rw := all32, part := .low }, { off := 0x28, rw := 0xFFFF, part := .high },
   { off := 0x2C, wo := 7 }, { off := 0x30 }, { off := 0x34, w1c := 0x1FF }, { off := 0x38 }, { off := 0x3C, rw := all32 }]

/-- The row of an offset. -/
def rowAt (rows : List RegRow) (o : Nat) : Option RegRow :=
  rows.find? (fun r => decide (r.off ≤ o) && decide (o < r.off + r.n * r.stride) && (o - r.off) % r.stride == 0)

/-- The register at an address, with its row (R519, R521); none where the map places no register. -/
def regRow (a : Nat) : Option RegRow :=
  if a % 4 ≠ 0 then none
  else if a < 0x1000 then rowAt glbRows a
  else if a < 0x2000 then rowAt hrtRows (a - 0x1000)
  else if a < 0x3000 then rowAt phsRows (a - 0x2000)
  else if a < 0x4000 then rowAt calRows (a - 0x3000)
  else if a < 0x5000 then rowAt cfgRows (a - 0x4000)
  else if a < 0x6000 then rowAt hwyRows (a - 0x5000)
  else if a < 0x7000 then rowAt panRows (a - 0x6000)
  else if a < 0x8000 then none
  else if a < 0xA000 then rowAt chuRows (a % 0x20)
  else if a < 0xA200 then rowAt portRows (a % 0x100)
  else if a < 0xB000 then rowAt prcRows (a - 0xA000)
  else if a < 0xC000 then rowAt celRows (a - 0xB000)
  else if a < 0xC100 then rowAt stdRows (a - 0xC000)
  else if a < 0xC300 then rowAt engRows (a % 0x20)
  else if a < 0xD000 then none
  else if a < 0xE000 then rowAt sdrRows (a - 0xD000)
  else if a < 0xE800 then rowAt swpRows (a - 0xE000)
  else if a < 0xF000 then rowAt ctxRows (a % 0x40)
  else if a < 0x10000 then none
  else if a < 0x18000 then rowAt wgRows (a % 0x1000)
  else if 0x100000 ≤ a ∧ a < 0x180000 then rowAt chRows (a % 0x1000)
  else if 0x200000 ≤ a ∧ a < 0x310000 then rowAt tlRows (a % 0x1000)
  else none

/-- The address lies in the Pantry window (R357). -/
def inPantry (a : Nat) : Bool := decide (0x2000000 ≤ a) && decide (a < 0x4000000) && a % 4 == 0

/-- Instance number of a channel, wing, tile address. -/
def chOf (a : Nat) : Nat := (a - 0x100000) / 0x1000
def wgOf (a : Nat) : Nat := (a - 0x10000) / 0x1000
def isCh (a : Nat) : Bool := decide (0x100000 ≤ a) && decide (a < 0x180000)
def isWg (a : Nat) : Bool := decide (0x10000 ≤ a) && decide (a < 0x18000)
def isCtx (a : Nat) : Bool := decide (0xE800 ≤ a) && decide (a < 0xF000)
def ctxOf (a : Nat) : Nat := (a - 0xE800) / 0x40

/-- The key under which path `p` finds the register at address `a` in the register file: its own copy (R522), a bank
register of the bank that it selects (R382), or the shared one. -/
def State.keyOf (s : State) (p : Path) (a : Nat) (r : RegRow) : Nat :=
  if r.own then pkey p a
  else if 0x6064 ≤ a ∧ a ≤ 0x6074 then 0x10080000000 + s.rf (pkey p 0x6060) 0 6 * 0x100 + (a - 0x6000)
  else a

end Sys2Proof.Machine
end

