-- ==== Sys2Proof/Machine/PanCmd.lean ====
section
/-!
DEFINITION. Operations of the Pantry and the Chutes that commands start (chapter 12): window accesses, handovers of
ownership, the patrol, rows and banks out of service, the memory tests, pointer checks and the stale timer.
-/

namespace Sys2Proof.Machine

/-! ### Access status (R428) -/

def stDone : Nat := 0
def stNoReg : Nat := 1
def stLocked : Nat := 2
def stReserved : Nat := 3
def stData : Nat := 4

/-! ### Holding registers of the paths (R18 to R20) -/

def State.setHolds (s : State) (f : Holds → Holds) : State := { s with holds := f s.holds }

/-- Whether a table lists a number. -/
def Tbl.has {α : Type} (t : Tbl α) (k : Nat) : Bool := List.any t (fun e => e.1 == k)

/-- The copy of a high word that a read of the low word at `k` has made. -/
def State.rdHeld (s : State) (k : Nat) : Option Word :=
  if Tbl.has s.holds.rd k then some (Tbl.get 0#32 s.holds.rd k) else none
/-- The low word that waits for its high word (R19). -/
def State.wrHeld (s : State) (k : Nat) : Option Word :=
  if Tbl.has s.holds.wr k then some (Tbl.get 0#32 s.holds.wr k) else none
def State.holdRd (s : State) (k : Nat) (v : Word) (st : Nat) : State :=
  s.setHolds (fun h => { h with rd := Tbl.put h.rd k v, st := Tbl.put h.st k st })
def State.dropRd (s : State) (k : Nat) : State :=
  s.setHolds (fun h => { h with rd := Tbl.drop h.rd (fun a => a == k), st := Tbl.drop h.st (fun a => a == k) })
def State.holdWr (s : State) (k : Nat) (v : Word) : State := s.setHolds (fun h => { h with wr := Tbl.put h.wr k v })
def State.dropWr (s : State) (k : Nat) : State := s.setHolds (fun h => { h with wr := Tbl.drop h.wr (fun a => a == k) })

/-! ### Window accesses (R358 to R365) -/

/-- The window address of word `i` of bank `b`. -/
def panAddr (b i : Nat) : Nat := 0x2000000 + b * 0x80000 + 8 * i

/-- A bank under a full BIST (R369). -/
def State.fullOn (s : State) (b : Nat) : Bool := match s.panOps.full with
  | some (x, _) => x == b
  | none => false

/-- The read of a word through the window (R359, R361, R368, R369), with its status. -/
def State.windowWord (s : State) (b i : Nat) (e : Ecc) : State × DWord × Nat :=
  if s.fullOn b then (s, 0#64, stLocked)
  else
    let r := s.panRead b i e
    (r.1, r.2.1, if r.2.2 then stData else stDone)

/-- PANTRY_WINDOW_READ: a read of one half of a word (R18, R358, R359). -/
def State.windowRead (s : State) (p : Path) (b i : Nat) (high : Bool) (e : Ecc) : State × Reply :=
  let k := pkey p (panAddr b i)
  if high then
    match s.rdHeld k with
    | some v => (s.dropRd k, ⟨Tbl.get 0 s.holds.st k, v⟩)
    | none =>
      let r := s.windowWord b i e
      (r.1, ⟨r.2.2, (r.2.1 >>> 32).setWidth 32⟩)
  else
    let r := s.windowWord b i e
    (r.1.holdRd k ((r.2.1 >>> 32).setWidth 32) r.2.2, ⟨r.2.2, r.2.1.setWidth 32⟩)

/-- A word that port A writes in the same tick with other data stays, and the collision is recorded (R365). -/
def State.collision (s : State) (b i : Nat) : State :=
  let s := if s.rb (PAN + 0x30) 0 then s else s.wr (PAN + 0x34) (BitVec.ofNat 32 (b * 65536 + i))
  (s.incSat (PAN + 0x3C) 0 16).arbFault 0

/-- The write of a whole word through the window; `other` is what port A writes to the same word in this tick (R365). -/
def State.windowPut (s : State) (b i : Nat) (v : DWord) (other : Option DWord) : State × Nat :=
  let o := s.owner b
  if s.fullOn b ∨ o = 1 ∨ o = 3 ∨ o = 4 ∨ o = 5 then (s, stLocked)
  else if (s.bank b).withdrawn then (s.panPut b i v, stData)
  else if o = 2 then
    (let r := s.stepBankWrite b i v
     (r.1, if r.2 then stLocked else stDone))
  else
    match other with
    | some a =>
      if a = v then ((s.panTouch b i).panPut b i v, stDone)
      else (((s.panTouch b i).panPut b i a).collision b i, stDone)
    | none => ((s.panTouch b i).panPut b i v, stDone)

/-- A write to the low half of a word is held (R19). -/
def State.windowLow (s : State) (p : Path) (b i : Nat) (v : Word) : State := s.holdWr (pkey p (panAddr b i)) v

/-- PANTRY_WINDOW_WRITE: a write to the high half commits the word, with the held low half or its present one (R358). -/
def State.windowWrite (s : State) (p : Path) (b i : Nat) (v : Word) (e : Ecc) (other : Option DWord) : State × Nat :=
  let k := pkey p (panAddr b i)
  match s.wrHeld k with
  | some lo => (s.dropWr k).windowPut b i (v ++ lo) other
  | none =>
    if s.fullOn b then (s, stLocked)
    else
      let r := s.panRead b i e
      r.1.windowPut b i (v ++ r.2.1.setWidth 32) other

/-! ### Ownership (R363, R364) -/

/-- The owner of bank `b` may not change (R364). -/
def State.ownLocked (s : State) (b : Nat) : Bool :=
  let ck := match s.found.ckptBase with
    | none => false
    | some a => decide ((a - 0x2000000) / 0x80000 ≤ b) && decide (b ≤ (a - 0x2000000 + 65535) / 0x80000) || s.found.tplBank == b
  ck || s.fullOn b || (rangeFrom 0 256).any (fun c => s.chuDepth c != 0 && s.chuBank c == b)

/-- The banks whose owner a write of `v` to PAN_OWN_n changes, with the new code. -/
def State.ownChanges (s : State) (n : Nat) (v : Word) : List (Nat × Nat) :=
  (rangeFrom 0 8).filterMap (fun j =>
    let c := bits v (4 * j) 3
    if c = 7 ∨ c = s.owner (8 * n + j) then none else some (8 * n + j, c))

/-- One bank is handed over: the new owner is named, and the acknowledge waits for the drain (R363). -/
def State.handOver (s : State) (b c : Nat) : State :=
  let s := s.wf (PAN + 4 * (b / 8)) (4 * (b % 8)) 3 c
  let s := s.wb (PAN + 0x20 + 4 * (b / 32)) (b % 32) false
  let o := s.panOps
  let st := o.toStudy.filter (fun x => x != b)
  { s with panOps := { o with drain := Tbl.put o.drain b (some s.htick), toStudy := if c = 3 then st ++ [b] else st } }

/-- PAN_OWN_WRITE (R363, R364, R16), with its status. -/
def State.panOwnWrite (s : State) (n : Nat) (v : Word) : State × Nat :=
  let l := s.ownChanges n v
  if l.any (fun e => s.ownLocked e.1) then (s, stLocked)
  else
    let s := l.foldl (fun s e => s.handOver e.1 e.2) s
    let s := if s.swpBanks then s else s.swpBankLost
    (s, if (rangeFrom 0 8).any (fun j => bits v (4 * j) 3 == 7) then stReserved else stDone)

/-- OWN_DRAIN_ACK: the old owner's accesses to bank `b` have drained (R363). -/
def State.ownDrained (s : State) (b : Nat) : State :=
  match Tbl.get none s.panOps.drain b with
  | none => s
  | some _ =>
    let o := s.panOps
    let s := { s.wb (PAN + 0x20 + 4 * (b / 32)) (b % 32) true with
      panOps := { o with drain := Tbl.put o.drain b none, toStudy := o.toStudy.filter (fun x => x != b) } }
    if o.toStudy.contains b then { s with stdLoads := s.stdLoads ++ [b] } else s

/-! ### The patrol (R360) -/

/-- PATROL_READ: the patrol reads the next word of bank `b`; a poisoned word is reported once per pass. -/
def State.patrolRead (s : State) (b : Nat) (e : Ecc) : State :=
  let k := s.bank b
  let i := k.patrol
  let s := s.setBank b { k with patrol := (i + 1) % 65536 }
  if k.withdrawn then s.arbFault 2
  else if s.poisoned b i then (s.bankFault b 1).rowRemap b (i / 256)
  else s.eccCheck b i e

/-! ### Rows and banks out of service (R367, R368) -/

/-- ROW_REMAP_DONE: the copy of the first row that waits is complete (R367). -/
def State.rowDone (s : State) (b : Nat) : State :=
  let k := s.bank b
  match k.remap with
  | [] => s
  | r :: t => (s.setBank b { k with rows := k.rows ++ [r], remap := t }).bankFlag b 2

/-- PAN_CMD op 2 (R368). -/
def State.migrateCmd (s : State) (b : Nat) : State :=
  if (s.bank b).mig.isSome then s
  else
    match s.sparesFree with
    | p :: _ => s.migrate b p
    | [] => s.flag (PAN + 0x30) 4

/-- BANK_FENCE (R368): the bank is migrated, or withdrawn from service. -/
def State.bankFence (s : State) (b : Nat) : State :=
  let s := s.takeFence (0x240 + b)
  if (s.bank b).mig.isSome then s
  else
    match s.sparesFree with
    | p :: _ => s.migrate b p
    | [] => s.modBank b (fun k => { k with withdrawn := true })

/-- MIGRATION_DONE (R368). -/
def State.migrated (s : State) (b : Nat) : State :=
  match (s.bank b).mig with
  | none => s
  | some p => s.modBank b (fun k => { k with onSpare := some p, mig := none })

/-! ### Memory tests (R369 to R371) -/

/-- PAN_CMD op 3 (R369): the test starts, or the command completes "locked". -/
def State.fullBist (s : State) (b : Nat) : State × Nat :=
  if s.owner b = 0 ∧ s.anyService ∧ s.panOps.full.isNone then
    ({ s.modBank b (fun k => { k with full := true }) with panOps := { s.panOps with full := some (b, s.htick), bistBank := b } }, stDone)
  else (s, stLocked)

/-- All 65,536 words of a bank hold 0 with valid check bits. -/
def State.zeroBank (s : State) (b : Nat) : State :=
  { s with pan := s.pan.filter (fun e => !(decide (b * 0x80000 ≤ e.1) && decide (e.1 < (b + 1) * 0x80000)))
           poison := s.poison.filter (fun e => e.1 / 65536 != b) }

/-- FULL_BIST_DONE (R369); `rows` are the rows in which the test has failed a cell. -/
def State.fullDone (s : State) (rows : List Nat) : State :=
  match s.panOps.full with
  | none => s
  | some (b, t) =>
    if s.since t < 655360 then s
    else
      let k := s.bank b
      let n := rows.eraseDups.length
      let room := decide (k.rows.length + k.remap.length + n ≤ 4)
      let s := (s.zeroBank b).modBank b (fun k => { k with full := false, fullResult := if n = 0 then 1 else if room then 2 else 3 })
      let s := { s with panOps := { s.panOps with full := none } }
      let s := if n = 0 then s else s.bankFault b 4
      rows.eraseDups.foldl (fun s r => s.rowRemap b r) s

/-- The online BIST takes part in bank `b` now (R370). -/
def State.bistBankOk (s : State) (b : Nat) : Bool :=
  s.rb (PAN + 0x48 + 4 * (b / 32)) (b % 32) && (s.bank b).mig.isNone && !s.fullOn b && !(s.bank b).withdrawn

/-- The next bank in turn that the online BIST visits. -/
def State.bistNext (s : State) : Option Nat :=
  ((rangeFrom 1 64).map (fun i => (s.panOps.bistBank + i) % 64)).find? s.bistBankOk

/-- The next region of a bank that does not lie in a row being remapped. -/
def State.bistRegion (s : State) (b : Nat) : Option Nat :=
  let k := s.bank b
  ((rangeFrom 0 1024).map (fun i => (k.region + i) % 1024)).find? (fun r => !k.remap.contains (r / 4))

/-- The borrow in progress, if it has not ended yet (R370). -/
def State.borrowed (s : State) : Option Borrow :=
  match s.borrow with
  | none => none
  | some w => if s.since w.start < 768 then some w else none

/-- ONLINE_BIST_BORROW (R370): the next region is borrowed; `fails` says that its test fails a cell. -/
def State.bistBorrow (s : State) (fails : Bool) : State :=
  let us := s.rf (PAN + 0x44) 8 16
  if !s.rb (PAN + 0x44) 0 || us == 0 || decide (s.since s.panOps.bistAt < us * 500) || s.borrowed.isSome then s
  else
    let s := { s with panOps := { s.panOps with bistAt := s.htick } }
    match s.bistNext with
    | none => s
    | some b =>
      let s := { s with panOps := { s.panOps with bistBank := b } }
      match s.bistRegion b with
      | none => s
      | some r =>
        let s := { s.modBank b (fun k => { k with region := (r + 1) % 1024 }) with borrow := some ⟨b, r, s.htick⟩ }
        if fails then (s.bankFault b 4).rowRemap b (r / 4) else s

/-! ### PAN_CMD (R382) -/

/-- A write of PAN_CMD, with its status. -/
def State.panCmd (s : State) (v : Word) : State × Nat :=
  let b := bits v 8 6
  match bits v 0 3 with
  | 1 => (s.rowRemap b (bits v 16 8), stDone)
  | 2 => (s.migrateCmd b, stDone)
  | 3 => s.fullBist b
  | _ => (s, stDone)

/-! ### Chutes (R379, R380) -/

/-- POINTER_CHECK_FAIL (R379): the copies of the pointers stand at `w`, `w2`, `r`, `r2`. -/
def State.pointerCheck (s : State) (c : Nat) (w w2 r r2 : BitVec 17) : State :=
  if w = w2 ∧ r = r2 then s
  else
    let s := s.setChute c { s.chuTick c with w := w, w2 := w, r := w, r2 := w }
    (s.chuFlush c false).chuFault c 3

/-- CHUTE_STALE (R380). -/
def State.chuStale (s : State) (c : Nat) : State :=
  let x := s.chute c
  match x.stale with
  | none => s
  | some t =>
    if x.staleUs = 0 ∨ s.since t < x.staleUs * 500 then s
    else ((s.setChute c { x with stale := none, staleLive := true }).chuFault c 2).launch (0xE00 + c)

end Sys2Proof.Machine
end

