-- ==== Sys2Proof/Machine/RegFx.lean ====
section
/-!
DEFINITION. What a host write does to a register (R10 to R16): reserved values, locks, W1C flags, counters, and what
the write of some registers sets off.
-/

namespace Sys2Proof.Machine

/-! ### Reserved values (R16) -/

/-- The bits of a field. -/
def fldMask (lo w : Nat) : Nat := (2 ^ w - 1) * 2 ^ lo
/-- The bits of a field whose written value is reserved. -/
def resv (bad : Bool) (lo w : Nat) : Nat := if bad then fldMask lo w else 0
/-- A field of the written word lies outside `a` to `b`. -/
def outOf (v : Word) (lo w a b : Nat) : Bool := decide (bits v lo w < a) || decide (b < bits v lo w)
/-- The whole word is no finite binary32 number. -/
def notFin (v : Word) : Nat := resv (!F32.isFin v) 0 32
/-- The whole word is no finite binary32 number from 0 up. -/
def notPos (v : Word) : Nat := resv (!F32.isFin v || F32.lt v 0#32) 0 32

/-- Reserved fields of a write to a channel register at offset `o`. -/
def State.badCh (s : State) (n o : Nat) (v : Word) : Nat :=
  if o = 0x004 then resv (outOf v 4 2 0 2) 4 2
  else if o = 0x014 then resv (outOf v 0 16 1 65535) 0 16
  else if o = 0x018 then resv (outOf v 0 13 16 6000) 0 13
  else if o = 0x01C then resv (outOf v 0 8 1 255) 0 8 + resv (outOf v 8 8 1 255) 8 8
  else if o = 0x024 then resv (outOf v 0 16 1 65535) 0 16
  else if o = 0x100 then resv (!s.vrangeOk n (bits v 4 3)) 4 3 + resv (!s.irangeOk n (bits v 8 4)) 8 4
  else if o = 0x108 ∨ o = 0x10C ∨ o = 0x110 ∨ o = 0x11C then notFin v
  else if o = 0x114 ∨ o = 0x118 then notPos v
  else if o = 0x200 then resv (outOf v 2 2 0 1) 2 2 + resv (outOf v 4 2 0 2) 4 2 + resv (outOf v 8 8 0 100) 8 8
  else if o = 0x204 then resv (outOf v 0 26 40 39062500) 0 26
  else if o = 0x208 then resv (outOf v 0 14 1 10000) 0 14
  else if o = 0x20C then resv (outOf v 16 16 1 65535) 16 16
  else if o = 0x210 then resv (outOf v 8 17 1 65536) 8 17
  else if o = 0x300 then resv (outOf v 16 6 4 63) 16 6 + resv (decide (bits v 4 4 < bits v 8 4)) 4 8
  else if o = 0x304 then resv (outOf v 0 10 500 1000) 0 10 + resv (outOf v 16 10 10 450) 16 10
  else if o = 0x308 then resv (outOf v 0 8 1 255) 0 8 + resv (outOf v 8 8 1 255) 8 8
  else if o = 0x30C then resv (outOf v 0 10 10 500) 0 10
  else if o = 0x404 then resv (outOf v 0 22 2 3906250) 0 22
  else if o = 0x428 then resv (outOf v 0 2 0 2) 0 2
  else if 0x480 ≤ o ∧ o < 0x500 then notFin v
  else if 0x500 ≤ o ∧ o < 0x510 then resv (outOf v 5 2 0 2) 5 2
  else if 0x510 ≤ o ∧ o < 0x520 then (if s.monUnit n ((o - 0x510) / 4) then notFin v else 0)
  else if o = 0x700 then resv (outOf v 1 2 0 2) 1 2 + resv (outOf v 4 4 4 12) 4 4
  else if 0x800 ≤ o ∧ o < 0xB00 ∧ o % 0x20 ≤ 0x14 then notFin v
  else 0

/-- Reserved fields of a write to a register of chapters 05 and 06. -/
def badPhs (a : Nat) (v : Word) (cfg : Word) : Nat :=
  if a = 0x2004 then resv (outOf v 0 20 15 1048575) 0 20
  else if a = 0x2008 then resv (outOf v 0 16 1 65535) 0 16 + resv (outOf v 16 16 1 65535) 16 16
  else if a = 0x2104 then
    resv (outOf v 1 2 0 2) 1 2 + resv (bits v 1 2 != 2 && bit v 3 && bits v 16 16 == 0) 16 16
  else if a = 0x210C then
    resv (bits cfg 1 2 != 2 && bit cfg 3 && decide (bits cfg 16 16 ≤ bits v 0 16)) 0 16
  else 0

/-- The length word of an aperture of kind `k` holds no value outside its range (R171, R188). -/
def badLen (k : Nat) (v : Word) : Bool :=
  if k = 0 then outOf v 0 32 40 39062500
  else if k = 1 then outOf v 0 32 1 10000
  else if k = 2 then decide (bits v 16 16 = 0)
  else false

/-- The number names a task input (R395). -/
def hwyTiOk (t : Nat) : Bool :=
  decide (t < 0x180) || t == 0x180 || t == 0x181 || (decide (0x190 ≤ t) && decide (t < 0x198))
    || (decide (0x1A0 ≤ t) && decide (t < 0x1C0))

/-- Reserved fields of a write to a register below 0x1_0000, by blocks. -/
def State.badLow (s : State) (p : Path) (a : Nat) (v : Word) : Nat :=
  if a < 0x1000 then
    (if a = 0x014 then resv (outOf v 0 21 56 1048576 || bits v 0 2 != 0) 0 21
     else if a = 0x040 then ((rangeFrom 0 8).map (fun w => resv (bits v (2 * w) 2 == 3) (2 * w) 2)).sum
     else if a = 0x044 then ((rangeFrom 0 8).map (fun w => resv (decide (5 < bits v (3 * w) 3)) (3 * w) 3)).sum
     else if a = 0x05C then resv (outOf v 0 8 60 115) 0 8
     else 0)
  else if a < 0x2000 then
    (if a = 0x1100 then resv ((srcGroup (bits v 0 11)).isNone) 0 11
     else if a = 0x1104 then resv (outOf v 8 8 1 255) 8 8
     else if a = 0x1108 then resv (outOf v 0 30 1 1000000000) 0 30
     else 0)
  else if a < 0x3000 then badPhs a v (s.rd (pkey p 0x2104))
  else if a < 0x4000 then
    (if a = 0x3000 then resv (outOf v 8 8 1 255) 8 8 + resv (outOf v 16 16 1 65535) 16 16
     else if a = 0x3004 then resv (outOf v 0 10 25 1000) 0 10
     else if a = 0x3008 then resv (outOf v 0 16 1 65535) 0 16
     else if a = 0x300C then resv (outOf v 0 8 1 255) 0 8 + resv (outOf v 8 8 1 255) 8 8 + resv (outOf v 16 8 1 255) 16 8
       + resv (outOf v 24 8 1 20) 24 8
     else if a = 0x3010 then resv (outOf v 0 16 1 1000) 0 16 + resv (decide (bits v 16 8 ≤ s.settleMs)) 16 8
       + resv (outOf v 24 8 2 64) 24 8
     else if a = 0x3060 then resv (outOf v 0 3 0 4) 0 3
     else 0)
  else if a < 0x6000 then
    (if a = 0x5004 then resv (outOf v 0 16 1 65535) 0 16 + resv (outOf v 16 14 1 16383) 16 14
     else if a = 0x5108 then resv (outOf v 0 6 2 63) 0 6
     else if a = 0x5180 then resv (!(hwyTiOk (bits v 0 16))) 0 16
     else 0)
  else if a < 0x8000 then 0
  else if a < 0xA000 then
    (if a % 0x20 = 0 then resv (bits v 0 5 != 0 && outOf v 0 5 4 16) 0 5
     else if a % 0x20 = 4 then resv (outOf v 0 24 0 16000000) 0 24
     else 0)
  else if a < 0xB000 then
    (if a = 0xA000 ∨ a = 0xA100 then
       (resv (outOf v 1 2 0 2) 1 2 + resv (outOf v 3 2 0 2 || (bits v 3 2 == 2 && bits v 1 2 == 2)) 3 2)
     else if a = 0xA404 then resv (outOf v 2 8 1 255) 2 8
     else if 0xA800 ≤ a then
       ((rangeFrom 0 4).map (fun i => resv (outOf v (8 * i) 2 0 2) (8 * i) 2 + resv (outOf v (8 * i + 2) 2 0 2) (8 * i + 2) 2)).sum
     else 0)
  else if a < 0xC000 then
    (if a = 0xB000 then resv (outOf v 0 6 0 5) 0 6
     else if a = 0xB020 then resv (outOf v 0 6 1 40) 0 6 + resv (outOf v 16 16 1 65535) 16 16
     else if a = 0xB024 then resv (outOf v 0 24 1000 16777215) 0 24
     else 0)
  else if a < 0xE000 then 0
  else if a < 0xE800 then
    (if 0xE100 ≤ a ∧ a < 0xE180 then
       (if a % 8 = 0 then resv (badLen (bits v 0 2) (s.rd (a + 4))) 0 2 else resv (badLen (s.rf (a - 4) 0 2) v) 0 32)
     else if 0xE200 ≤ a ∧ a < 0xE280 then notFin v
     else 0)
  else if a < 0xF000 then
    (let o := a % 0x40
     if o = 0 then resv (outOf v 0 2 0 2) 0 2 + resv (outOf v 4 2 0 2) 4 2
     else if o = 0x0C ∨ o = 0x10 then notFin v
     else if o = 0x14 ∨ o = 0x18 then notPos v
     else 0)
  else 0

/-- The bits of a written word whose fields keep their previous value, because the value written to them is reserved. -/
def State.badBits (s : State) (p : Path) (a : Nat) (v : Word) : Word :=
  BitVec.ofNat 32 (
    if isCh a then s.badCh (chOf a) (a % 0x1000) v
    else if isWg a then
      (let o := a % 0x1000
       if o = 0x20C then resv (outOf v 16 10 1 1000) 16 10
       else if o = 0x210 then resv (outOf v 0 24 1 16777215) 0 24
       else if o = 0x404 then resv (outOf v 8 8 1 255) 8 8
       else 0)
    else if a < 0x10000 then s.badLow p a v else 0)

/-! ### Locks (R11 and the rules that name "locked") -/

/-- The Foundation has committed. -/
def State.committed (s : State) : Bool := s.rf 0x4000 0 2 == 2

/-- The write changes nothing and completes "locked". -/
def State.wrLocked (s : State) (a : Nat) (r : RegRow) : Bool :=
  (r.lock && s.committed)
    || (a == 0x2004 && s.machEn)
    || (isCtx a && (a % 0x40 == 0 || a % 0x40 == 4 || a % 0x40 == 8 || a % 0x40 == 0x0C || a % 0x40 == 0x1C)
        && (s.ctx (ctxOf a)).st != .idle)
    || (isCh a && decide (0x800 ≤ a % 0x1000) && decide (a % 0x1000 < 0xB00)
        && (s.cal.step == .store || s.cal.step == .write) && s.cal.ch == chOf a)

/-- The bits of a write that are locked while the rest of it takes effect. -/
def State.wrLockedBits (s : State) (a : Nat) (v : Word) : Word :=
  if a = 0x2000 ∧ s.machEn ∧ bit v 2 ≠ s.rb 0x2000 2 then 4#32
  else if a = 0x4090 ∧ !bit v 0 ∧ !s.allService then 1#32
  else 0#32

/-! ### The store (R10, R12, R14, R173) -/

/-- A counter that hardware incremented in the tick of the write takes the written value plus its increments (R14). -/
def State.incAfter (s : State) (k : Nat) (eff : Word) : State :=
  s.tickInc.foldl (fun s e =>
    if e.key = k ∧ bits eff e.lo e.width = 2 ^ e.width - 1 then
      (let v := s.rf k e.lo e.width + e.n
       s.wf k e.lo e.width (if e.wrap then v else min v (2 ^ e.width - 1)))
    else s) s

/-- The word that the write leaves: RW bits take the written value, but for flags that hardware sets in this tick (R12)
and bits that the Stairwell writes in this tick (R173); W1C bits that are written 1 clear, but for those that hardware
sets in this tick. -/
def State.stored (s : State) (k : Nat) (r : RegRow) (v keep : Word) : Word :=
  let eff := BitVec.ofNat 32 r.rw &&& ~~~keep &&& ~~~(Tbl.get 0#32 s.tickSwp k)
  let set := Tbl.get 0#32 s.tickSet k
  let old := s.rd k
  let clr := v &&& BitVec.ofNat 32 r.w1c &&& ~~~set
  ((old &&& ~~~eff) ||| (v &&& eff) ||| (set &&& eff)) &&& ~~~clr

/-! ### What some writes set off -/

/-- MON_STAT: the latches that the host clears (R230); `tripped` says which Guard comparators are tripped at this
instant. -/
def State.latchWrite (s : State) (n : Nat) (v : Word) (tripped : BitVec 2) : State :=
  (rangeFrom 0 4).foldl (fun s c => if bit v c then s.latchClear n c (bit tripped c) else s) s

/-- The comparators that are tripped now, as far as the block knows. -/
def State.rawTripped (s : State) (n : Nat) : BitVec 2 :=
  BitVec.ofNat 2 (b2n (s.mo n).c0.raw + 2 * b2n (s.mo n).c1.raw)

/-- HRT_CLASS of the groups whose bit is 0 reads 0 (R321). -/
def State.classClear (s : State) : State :=
  (rangeFrom 0 28).foldl (fun s g =>
    if s.rb 0x1000 g then s else s.wf (if g < 16 then 0x1020 else 0x1024) (2 * (g % 16)) 2 0) s

/-- What a stored write to address `a` sets off; `old` is the word before it, `bad` its reserved bits. -/
def State.writeFx (s : State) (a : Nat) (old v bad : Word) : State :=
  if isCh a then
    (let n := chOf a
     let o := a % 0x1000
     if o = 0x100 then
       (let s := if bit bad 4 then s else s.noteV n
        let s := if bit bad 8 then s else s.noteI n
        s.calHostWrite n)
     else if o = 0x400 then s.replRequest n (bits v 0 4)
     else if o = 0x534 then s.latchWrite n v (s.rawTripped n)
     else if o = 0x600 then (if bit old 0 && !bit v 0 then s.linkDisable n else s)
     else if 0x800 ≤ o ∧ o < 0xB00 then (s.calHostWrite n).noteCal n
     else s)
  else if a = 0x1000 then s.classClear
  else if a = 0x2000 then
    (let s := if bit old 0 && !bit v 0 then s.machOff else s
     if bit old 1 && !bit v 1 then { s with mains := { s.mains with st := .none, pos := s.mainsPos s.htick, posAt := s.htick, run := 0, edged := false } } else s)
  else if isCtx a ∧ a % 0x40 = 0x28 then
    (let c := ctxOf a
     s.swpTakeT c ((s.rd64 (ctxA c 0x24)).setWidth 48))
  else s

/-- A host write to a register that is no command (R10 to R16), with its status. `k` is the key under which the path
finds it. -/
def State.hostStore (s : State) (p : Path) (k a : Nat) (r : RegRow) (v : Word) : State × Nat :=
  if s.wrLocked a r then (s, stLocked)
  else
    let bad := s.badBits p a v
    let lk := s.wrLockedBits a v
    let old := s.rd k
    let s := s.keepOld k
    let s := s.wr k (s.stored k r v (bad ||| lk))
    let s := s.incAfter k (BitVec.ofNat 32 r.rw &&& ~~~bad)
    let s := s.writeFx a old v bad
    (s, if lk ≠ 0#32 then stLocked else if bad ≠ 0#32 then stReserved else stDone)

end Sys2Proof.Machine
end

