-- ==== Sys2Proof/Machine/Hallway.lean ====
section
/-!
DEFINITION. The Hallway (chapter 13): routes, the passing and absorbing of producer edges, rate monitors, and task
inputs. A producer edge that a block launches waits in the outbox `launched` until HALLWAY_EVENT carries it (log 3).
-/

namespace Sys2Proof.Machine

def State.hw (s : State) (c : Nat) : HwyCh := Tbl.get {} s.hwy c
def State.setHw (s : State) (c : Nat) (x : HwyCh) : State := { s with hwy := Tbl.put s.hwy c x }
def State.ti (s : State) (k : Nat) : HwyTi := Tbl.get {} s.hwyTi k
def State.setTi (s : State) (k : Nat) (x : HwyTi) : State := { s with hwyTi := Tbl.put s.hwyTi k x }

/-- The number names a producer (R394). -/
def hwyProdOk (p : Nat) : Bool :=
  (decide (p < 0x800) && p % 16 != 15)
    || (decide (0x800 ≤ p) && decide (p < 0x840) && decide (p % 8 < 6))
    || (decide (0x900 ≤ p) && decide (p < 0x948))
    || (decide (0xA00 ≤ p) && decide (p < 0xB00) && decide (p % 8 < 5))
    || (decide (0xB00 ≤ p) && decide (p < 0xB04)) || (decide (0xB10 ≤ p) && decide (p < 0xB13))
    || (decide (0xB20 ≤ p) && decide (p < 0xB23)) || (decide (0xC00 ≤ p) && decide (p < 0xC40))
    || (decide (0xD00 ≤ p) && decide (p < 0xD20)) || (decide (0xE00 ≤ p) && decide (p < 0xF00))

/-! ### The route in force (R387, R398) -/

/-- Time in ns of an edge: the tick, and whether it falls into the tick's second half. -/
def edgeNs (e : DWord × Bool) : Int := 2 * (e.1.toNat : Int) + (if e.2 then 1 else 0)

/-- The slots that an edge at tick `t` meets: those of the route before the last write, for an edge at or before it. -/
def HwyCh.route (x : HwyCh) (t : DWord) : List Nat × List Nat :=
  match x.old with
  | some (r, ps, ts) => if (r - t).toNat < 2 ^ 63 then (ps, ts) else (x.prods, x.tis)
  | none => (x.prods, x.tis)

/-! ### Task inputs (R388, R389) -/

/-- The clock of the unit behind a task input is stopped: those of the channels of a sleeping wing (R389, R490). -/
def State.tiGated (s : State) (k : Nat) : Bool := decide (k < 0x100) && s.sleeping (wingOf (k / 2))

/-- A merge is counted (R388). -/
def State.tiMerge (s : State) (k : Nat) : State :=
  let x := s.ti k
  let n := if x.mergeAt.1 = s.htick then x.mergeAt.2 + 1 else 1
  (s.setTi k { x with coinc := true, merges := min (x.merges + 1) 65535, mergeAt := (s.htick, n) }).flag HWY 2

/-- An event arrives at task input `k` (R388, R389). The delay of R385 lies between 1 ns and 3 ns for each input, so that
edges 1 ns to 6 ns apart may or may not merge. -/
def State.tiArrive (s : State) (k : Nat) (e : DWord × Bool) : State :=
  if s.tiGated k then s
  else
    let x := s.ti k
    let gap := match x.last with
      | none => 1000
      | some l => (edgeNs e - edgeNs l).natAbs
    let r := if gap = 0 then (s, true) else if gap < 7 then s.freeB else (s, false)
    let s := r.1.setTi k { x with last := some e }
    if r.2 then s.tiMerge k
    else if 3 ≤ x.pend then s.tiMerge k
    else s.setTi k { s.ti k with pend := x.pend + 1 }

/-- A unit acts on a pending trigger of its task input (R27, R389); one that no HALLWAY_EVENT has brought is taken all
the same (log 12). -/
def State.tiTake (s : State) (k : Nat) : State := s.setTi k { s.ti k with pend := (s.ti k).pend - 1 }

/-! ### Channels (R386, R390 to R392) -/

/-- The channel is muted. -/
def State.muted (s : State) (c : Nat) : Bool := s.rb (HWY + 0x40 + 4 * (c / 32)) (c % 32)

/-- The register of a rate-hit bit (places by log 10). -/
def rateHitReg (c : Nat) : Nat := HWY + (if c < 128 then 0x30 + 4 * (c / 32) else 0x60 + 4 * (c / 32 - 4))

/-- The guard of a channel absorbs an edge (R386): certainly below 0.8 of refr, certainly not from 1.25 on; in between,
until REFRACTORY_END says that the guard has ended. -/
def HwyCh.refractory (x : HwyCh) (e : DWord × Bool) : Bool :=
  match x.guard with
  | none => false
  | some g => decide (4 * (edgeNs e - edgeNs g) < 5 * (4 * (x.grefr : Int)))

/-- An absorbed edge (R386, R392). -/
def State.hwyAbsorb (s : State) (c : Nat) : State :=
  let x := s.hw c
  let n := if x.absAt.1 = s.htick then x.absAt.2 + 1 else 1
  (s.setHw c { x with absorb := min (x.absorb + 1) 65535, absAt := (s.htick, n) }).flag HWY 3

/-- A rate hit (R391, R392). -/
def State.rateHit (s : State) (c : Nat) : State :=
  let x := s.hw c
  let n := if x.hitAt.1 = s.htick then x.hitAt.2 + 1 else 1
  let s := s.setHw c { x with win := none, hits := min (x.hits + 1) 65535, hitAt := (s.htick, n) }
  let s := ((s.flag (rateHitReg c) (c % 32)).flag HWY 0).report 0x400 0
  if s.rb (HWY + 4) 30 then (s.flag (HWY + 0x40 + 4 * (c / 32)) (c % 32)).flag HWY 1 else s

/-- The rate monitor counts a passed event at tick `t` (R391). -/
def State.rateCount (s : State) (c : Nat) (t : DWord) : State :=
  let x := s.hw c
  if !x.rateEn then s
  else
    let runs := match x.win with
      | some w => decide ((t - w).toNat < x.winUs * 500)
      | none => false
    let y := if runs then { x with winN := x.winN + 1 }
      else { x with win := some t, winMax := s.rf (HWY + 4) 0 16, winUs := s.rf (HWY + 4) 16 14, winN := 1 }
    let s := s.setHw c y
    if y.winN = y.winMax + 1 then s.rateHit c else s

/-- A channel passes an edge to its task inputs (R384, R390). -/
def State.hwyPass (s : State) (c : Nat) (tis : List Nat) (e : DWord × Bool) : State :=
  let x := s.hw c
  let n := if x.evAt.1 = s.htick then x.evAt.2 + 1 else 1
  let r := s.freeB
  let ts := if r.2 then e.1 + 1#64 else e.1
  let s := r.1.setHw c { x with guard := some e, grefr := x.refr, count := x.count + 1#32, ts := ts, evAt := (s.htick, n) }
  let s := s.flag (HWY + 0x10 + 4 * (c / 32)) (c % 32)
  let s := s.rateCount c e.1
  ((tis.filter hwyTiOk).eraseDups).foldl (fun s k => s.tiArrive k e) s

/-- HALLWAY_EVENT (R384): the oldest edge that producer `p` has launched, or one that the line gives now (log 12), meets
every channel that names it. `half` says that the edge falls into the second half of its house tick. -/
def State.hallway (s : State) (p : Nat) (half : Bool) : State :=
  let l := (s.launched.find? (fun l => l.prod == p && decide ((s.htick - l.at_).toNat < 2 ^ 63))).getD ⟨p, s.htick⟩
  let s := { s with launched := s.launched.erase l }
  let e := (l.at_, half)
  s.hwy.foldl (fun s h =>
    let rt := h.2.route l.at_
    if !rt.1.contains p then s
    else if s.muted h.1 || (s.hw h.1).refractory e then s.hwyAbsorb h.1
    else s.hwyPass h.1 rt.2 e) s

/-- REFRACTORY_END (R386): the guard of a channel ends, no earlier than 0.8 of refr. -/
def State.guardEnd (s : State) (c : Nat) : State :=
  let x := s.hw c
  match x.guard with
  | none => s
  | some g =>
    if 5 * (edgeNs (s.htick, true) - edgeNs g) < 4 * (4 * (x.grefr : Int)) then s
    else s.setHw c { x with guard := none }

/-- RATE_WINDOW_EXPIRY (R391). -/
def State.rateExpire (s : State) (c : Nat) : State :=
  let x := s.hw c
  match x.win with
  | none => s
  | some w => if s.since w < x.winUs * 500 then s else s.setHw c { x with win := none }

/-! ### Host commands (R396, R398, R400) -/

/-- HWY_FIRE: an edge on ev_host_k for each bit k (R396). -/
def State.hwyFire (s : State) (v : Nat) : State :=
  (rangeFrom 0 16).foldl (fun s k => if v / 2 ^ k % 2 = 1 then s.launch (0xD10 + k) else s) s

/-- Slot `i` of a row of staged slot registers of path `p` at offset `o`. -/
def State.stagedSlot (s : State) (p : Path) (o i : Nat) : Nat := s.rf (pkey p (HWY + o + 4 * (i / 2))) (16 * (i % 2)) 16

/-- The slots that a route write leaves: a staged reserved number keeps the present slot (R398). -/
def slotsKept (n : Nat) (ok : Nat → Bool) (staged : Nat → Nat) (old : List Nat) : List Nat :=
  (rangeFrom 0 n).map (fun i => if staged i = 0xFFFF ∨ ok (staged i) then staged i else old.getD i 0xFFFF)

/-- HWY_CH_CMD cmd = 1 (R398), with its status. -/
def State.routeWrite (s : State) (p : Path) : State × Nat :=
  let c := s.rf (pkey p (HWY + 0x100)) 0 8
  let x := s.hw c
  let ps := slotsKept 16 hwyProdOk (s.stagedSlot p 0x10C) x.prods
  let ts := slotsKept 8 hwyTiOk (s.stagedSlot p 0x12C) x.tis
  let bad := (rangeFrom 0 16).any (fun i => !(s.stagedSlot p 0x10C i == 0xFFFF || hwyProdOk (s.stagedSlot p 0x10C i)))
    || (rangeFrom 0 8).any (fun i => !(s.stagedSlot p 0x12C i == 0xFFFF || hwyTiOk (s.stagedSlot p 0x12C i)))
  let cfg := s.rd (pkey p (HWY + 0x108))
  (s.setHw c { x with prods := ps, tis := ts, refr := bits cfg 0 6, rateEn := bit cfg 8,
                      old := some (s.htick, x.prods, x.tis) }, if bad then stReserved else stDone)

/-- HWY_CH_CMD cmd = 2 (R400): route and counts into the path's registers. -/
def State.routeRead (s : State) (p : Path) : State :=
  let x := s.hw (s.rf (pkey p (HWY + 0x100)) 0 8)
  let two (l : List Nat) (i : Nat) : Word := BitVec.ofNat 32 (l.getD (2 * i) 0xFFFF + 65536 * l.getD (2 * i + 1) 0xFFFF)
  let s := s.wr (pkey p (HWY + 0x108)) (BitVec.ofNat 32 (x.refr + 256 * b2n x.rateEn))
  let s := (rangeFrom 0 8).foldl (fun s i => s.wr (pkey p (HWY + 0x10C + 4 * i)) (two x.prods i)) s
  let s := (rangeFrom 0 4).foldl (fun s i => s.wr (pkey p (HWY + 0x12C + 4 * i)) (two x.tis i)) s
  let s := s.wr (pkey p (HWY + 0x13C)) x.count
  let s := s.wr (pkey p (HWY + 0x140)) (BitVec.ofNat 32 (x.absorb + 65536 * x.hits))
  s.wr64 (pkey p (HWY + 0x144)) x.ts

/-- HWY_CH_CMD cmd = 3 (R400): the counts are cleared; events of the same tick stay counted (R14). -/
def State.routeClear (s : State) (p : Path) : State :=
  let c := s.rf (pkey p (HWY + 0x100)) 0 8
  let x := s.hw c
  let now (e : DWord × Nat) : Nat := if e.1 = s.htick then e.2 else 0
  s.setHw c { x with count := BitVec.ofNat 32 (now x.evAt), absorb := now x.absAt, hits := now x.hitAt }

/-- HWY_CH_CMD, with its status. -/
def State.hwyCmd (s : State) (p : Path) (cmd : Nat) : State × Nat :=
  match cmd with
  | 1 => s.routeWrite p
  | 2 => (s.routeRead p, stDone)
  | 3 => (s.routeClear p, stDone)
  | _ => (s, stDone)

/-- HWY_TI_CMD clr (R400): coinc and its count are cleared; a merge of the same tick stays (R14). -/
def State.tiClear (s : State) (p : Path) : State :=
  let k := s.rf (pkey p (HWY + 0x180)) 0 16
  let x := s.ti k
  let n := if x.mergeAt.1 = s.htick then x.mergeAt.2 else 0
  s.setTi k { x with coinc := n != 0, merges := n }

/-- A route that the Foundation's ROUTE entry sets (R397). -/
def State.routeSet (s : State) (c : Nat) (ps ts : List Nat) : State :=
  s.setHw c { s.hw c with prods := ps, tis := ts, refr := 5, rateEn := true }

end Sys2Proof.Machine
end

