-- ==== Sys2Proof/Machine/Study.lean ====
section
/-!
DEFINITION. The Study (chapter 14): descriptors and their checks, popping and passing items, the kernels, their output
items and events. Means, deviations and fits are the exact values, rounded once to binary64 (DEDUCED from R402, log 13).
-/

namespace Sys2Proof.Machine

def State.eng (s : State) (e : Nat) : Eng := Tbl.get {} s.engs e
def State.setEng (s : State) (e : Nat) (x : Eng) : State := { s with engs := Tbl.put s.engs e x }
def State.modEng (s : State) (e : Nat) (f : Eng → Eng) : State := s.setEng e (f (s.eng e))

/-- An engine sets a flag of STD_ENG_FLAGS (R418). -/
def State.engFlag (s : State) (e i : Nat) : State := s.flag (engA e 4) i
/-- An engine raises its error line for a flag (R414, R415). -/
def State.engFault (s : State) (e i : Nat) : State := ((s.engFlag e i).report (0x410 + e) i).launch (0xC03 + 4 * e)
def State.engFenced (s : State) (e : Nat) : Bool := s.unitFenced (0x410 + e)

/-! ### Descriptors (R407, R409) -/

/-- A field of a descriptor, little-endian. -/
def dsc (d : List Byte) (o w : Nat) : Nat := leNat ((d.drop o).take w)
def dscF (d : List Byte) (o : Nat) : B64 := BitVec.ofNat 64 (dsc d o 8)
def dKernel (d : List Byte) : Nat := dsc d 0 1
def dIn (d : List Byte) : Nat := dsc d 1 1
def dFmt (d : List Byte) : Nat := dsc d 2 1 % 4
def dQ (d : List Byte) : Nat := dsc d 3 1 % 8
def dOut (d : List Byte) : Nat := dsc d 4 1
def dOutEn (d : List Byte) : Bool := dsc d 5 1 % 2 == 1
def dPassEn (d : List Byte) : Bool := dsc d 5 1 / 2 % 2 == 1
def dEvEach (d : List Byte) : Bool := dsc d 5 1 / 4 % 2 == 1
def dPass (d : List Byte) : Nat := dsc d 6 1
def dBank (d : List Byte) : Nat := dsc d 16 1
def dBase (d : List Byte) : Nat := dsc d 20 4

/-- Words of an item of input format `f` (R401). -/
def fmtWords (f : Nat) : Nat := if f = 0 then 4 else if f = 1 then 1 else 8

/-- Scratch words of a descriptor (R407). -/
def dScratch (d : List Byte) : Nat :=
  if dKernel d = 1 then dsc d 32 4 else if dKernel d = 6 then dsc d 32 4 + 2 else 0

/-- The parameter bytes that a kernel uses: offset and length. -/
def dUsed (d : List Byte) : List (Nat × Nat) :=
  match dKernel d with
  | 1 => [(32, 8)]
  | 2 => [(32, 6), (40, 8 * dsc d 32 2)]
  | 3 => [(32, 4)]
  | 4 => [(32, 4), (40, 32)]
  | 5 => [(32, 1), (40, 32)]
  | 6 => [(32, 4), (40, 16)]
  | 7 => [(32, 2), (40, 24)]
  | _ => []

/-- Bytes that must be 0 are 0. -/
def dReserved (d : List Byte) : Bool :=
  dsc d 7 1 == 0 && dsc d 12 4 == 0 && dsc d 17 3 == 0 && dsc d 24 8 == 0
    && dsc d 2 1 / 4 == 0 && dsc d 3 1 / 8 == 0 && dsc d 5 1 / 8 == 0
    && (rangeFrom 32 220).all (fun i => (dUsed d).any (fun u => decide (u.1 ≤ i) && decide (i < u.1 + u.2)) || dsc d i 1 == 0)

/-- The input formats of a kernel. -/
def dFmtOk (d : List Byte) : Bool :=
  match dKernel d with
  | 0 => true
  | 1 => decide (dFmt d ≤ 2)
  | 2 => decide (dFmt d ≤ 2)
  | 6 => decide (dFmt d ≤ 2)
  | 7 => dFmt d == 0 || dFmt d == 2
  | _ => dFmt d == 0

/-- Every parameter lies in its range and every binary64 parameter is finite. -/
def dParams (d : List Byte) : Bool :=
  let fins (l : List Nat) : Bool := l.all (fun o => F64.isFin (dscF d o))
  let rng (o w a b : Nat) : Bool := decide (a ≤ dsc d o w) && decide (dsc d o w ≤ b)
  dsc d 8 4 != 0 && (dKernel d == 0 || decide (dQ d ≤ if dFmt d = 2 then 5 else 2)) &&
  match dKernel d with
  | 1 => rng 32 4 2 4096 && rng 36 4 1 (dsc d 32 4)
  | 2 => rng 32 2 1 24 && rng 34 4 1 65536 && fins ((rangeFrom 0 (dsc d 32 2)).map (fun i => 40 + 8 * i))
  | 3 => rng 32 4 2 65535
  | 4 => rng 32 1 0 1 && rng 33 1 1 16 && rng 34 2 2 64 && fins [40, 48, 56, 64]
  | 5 => rng 32 1 0 1 && fins [40, 48, 56, 64]
  | 6 => rng 32 4 1 65536 && fins [40, 48] && F64.lt (dscF d 40) (dscF d 48)
  | 7 => rng 32 2 1 64 && fins [40, 48, 56]
  | _ => true

/-- The code with which engine `e` refuses a descriptor; 0 where it passes (R409). -/
def State.dscCode (s : State) (e : Nat) (d : List Byte) : Nat :=
  let k := dKernel d
  let same (x : List Byte) : Bool := !x.isEmpty && dKernel x != 0 && dIn x == dIn d
  if (crc32c (d.take 252)).toNat ≠ dsc d 252 4 then 0x01
  else if 7 < k then 0x02
  else if !dReserved d || !dFmtOk d then 0x03
  else if !dParams d then 0x04
  else if k ≠ 0 ∧ (s.chuDepth (dIn d) = 0 ∨ (dOutEn d ∧ s.chuDepth (dOut d) = 0) ∨ (dPassEn d ∧ s.chuDepth (dPass d) = 0)) then 0x05
  else if dScratch d ≠ 0 ∧ (63 < dBank d ∨ s.owner (dBank d) ≠ 3 ∨ 65536 < dBase d + dScratch d) then 0x06
  else if k ≠ 0 ∧ (rangeFrom 0 16).any (fun i => i != e && (same (s.eng i).act || same ((s.eng i).pend.getD []))) then 0x07
  else if s.engFenced e then 0x08
  else 0

/-- A descriptor is installed as the pending one of engine `e`, or refused (R409); the flag says that it is installed. -/
def State.dscInstall (s : State) (e : Nat) (d : List Byte) : State × Bool :=
  let c := s.dscCode e d
  let s := s.modEng e (fun x => { x with loadCode := c })
  if c = 0 then (s.modEng e (fun x => { x with pend := some d }), true) else (s.engFault e 6, false)

/-- `n` bytes of a bank from byte `o` on, as the Study reads them. -/
def State.stdBytes (s : State) (b o n : Nat) : List Byte := s.panBytes b o n

/-- The entries of a descriptor set, in order; the result has a bit for each engine that took a descriptor. -/
def State.setEntries (s : State) (b : Nat) : List Nat → Nat → State × Nat
  | [], m => (s, m)
  | i :: is, m =>
    let h := s.stdBytes b (16 + 8 * i) 8
    let e := dsc h 0 1
    let w := dsc h 4 4
    if 16 ≤ e then State.setEntries s b is m
    else if dsc h 1 3 ≠ 0 ∨ w % 32 ≠ 0 ∨ 65536 < w + 32 then
      State.setEntries ((s.modEng e (fun x => { x with loadCode := 0x03 })).engFault e 6) b is m
    else
      let r := s.dscInstall e (s.stdBytes b (8 * w) 256)
      State.setEntries r.1 b is (if r.2 then Nat.lor m (2 ^ e) else m)

/-- DESCRIPTOR_SET_LOAD (R408): the Study reads the bank handed to it first. -/
def State.setLoad (s : State) : State :=
  match s.stdLoads with
  | [] => s
  | b :: t =>
    let s := { s with stdLoads := t }
    if s.owner b ≠ 3 then s.ownViol 3 b
    else
      let h := s.stdBytes b 0 16
      let n := dsc h 4 2
      if dsc h 0 4 ≠ 0x44534B44 then s
      else if n = 0 ∨ 16 < n ∨ dsc h 6 10 ≠ 0 then
        (s.wr STD (BitVec.ofNat 32 (b + 256 * 9))).flag (STD + 4) 0
      else
        let r := s.setEntries b (rangeFrom 0 n) 0
        r.1.wr STD (BitVec.ofNat 32 (b + 65536 * r.2))

/-! ### Descriptor change (R410) -/

/-- `n` words of a bank from word `i` on become 0, if the Study holds the bank. -/
def State.zeroWords (s : State) (b i n : Nat) : State :=
  if n = 0 then s
  else if s.owner b ≠ 3 then s.ownViol 3 b
  else if (s.bank b).withdrawn then s.arbFault 2
  else
    let lo := b * 0x80000 + 8 * i
    { s with pan := s.pan.filter (fun e => !(decide (lo ≤ e.1) && decide (e.1 < lo + 8 * n)))
             poison := s.poison.filter (fun e => !(decide (b * 65536 + i ≤ e.1) && decide (e.1 < b * 65536 + i + n))) }

/-- Kernel state as it is after a descriptor change. -/
def Eng.cleared (x : Eng) : Eng :=
  { x with xs := [], tss := [], n := 0, seg := [], kept := [], hits := 0, latched := false, sum := 0#64,
           skipped := false, skipAge := 1048576 }

/-- DESCRIPTOR_BOUNDARY (R410): no kernel runs and no word is held. -/
def State.dscBoundary (s : State) (e : Nat) : State :=
  let x := s.eng e
  match x.pend with
  | none => s
  | some d =>
    if x.run.isSome || !x.words.isEmpty || s.engFenced e then s
    else
      let s := s.setEng e { x.cleared with act := d, pend := none }
      (s.zeroWords (dBank d) (dBase d) (dScratch d)).launch (0xC02 + 4 * e)

/-- A torn item (R378, R401). -/
def State.tornItem (s : State) (e : Nat) : State :=
  ((s.modEng e (fun x => { x with skipped := true, skipAge := 0 })).incSat (engA e 0x14) 0 16).engFlag e 1

/-- HELD_WORDS_TIMEOUT (R410): words of an unfinished item held for 1 ms while a descriptor is pending are discarded, and
the boundary is taken. -/
def State.heldTimeout (s : State) (e : Nat) : State :=
  let x := s.eng e
  match x.words with
  | [] => s
  | w :: _ =>
    if x.pend.isNone || x.run.isSome || decide (fmtWords (dFmt x.act) ≤ x.words.length)
        || decide (s.since w.at_ < 500000) || decide (2 ^ 63 ≤ s.since w.at_) then s
    else ((s.setEng e { x with words := [] }).tornItem e).dscBoundary e

/-! ### Popping (R401, R406, R378) -/

/-- Words held that make no whole item. -/
def Eng.partial_ (x : Eng) : Nat := x.words.length % fmtWords (dFmt x.act)

/-- The words of an unfinished item are discarded when a flush has come between (R378). -/
def State.flushSeen (s : State) (e : Nat) : State :=
  let x := s.eng e
  let p := x.partial_
  match x.words.getLast? with
  | none => s
  | some w =>
    if p = 0 ∨ w.gen = s.chuGen (dIn x.act) then s
    else (s.setEng e { x with words := x.words.take (x.words.length - p) }).tornItem e

/-- A word popped from the input reaches the engine 3 house ticks later. -/
def State.engTake (s : State) (e : Nat) (r : DWord × Bool) : State :=
  let s := s.flushSeen e
  let g := s.chuGen (dIn (s.eng e).act)
  s.modEng e (fun x => { x with words := x.words ++ [⟨r.1, r.2, s.htick + 3#64, g⟩] })

/-- The engine can pop: a kernel is set, room for a word, and words in the Chute (R374, R406). -/
def State.engPops (s : State) (e : Nat) : Bool :=
  let x := s.eng e
  !x.act.isEmpty && dKernel x.act != 0 && decide (x.words.length < 8) && !s.engFenced e && s.chuLevel (dIn x.act) != 0

/-- STUDY_POP. -/
def State.studyPop (s : State) (e : Nat) (c : Ecc) : State :=
  if !s.engPops e then s
  else
    let r := s.chuPop (dIn (s.eng e).act) (16 + e) c
    match r.2 with
    | none => r.1
    | some w => r.1.engTake e w

/-! ### Pushing items (R377, R404, R405) -/

/-- Words of an item go to Chute `c` one by one until one finds it full; `fl` is the push in whose tick a flush acts.
The number says how many words of the item remain in the Chute, none that it was full. -/
def State.pushItem (s : State) (c u : Nat) (fl : Option Nat) : Nat → Nat → List DWord → State × Option Nat
  | _, n, [] => (s, some n)
  | k, n, w :: ws =>
    let r := s.chuPush c u w
    if fl = some k then State.pushItem (s.flushPush c) c u fl (k + 1) 0 ws
    else if !r.2 then (r.1, none)
    else State.pushItem r.1 c u fl (k + 1) (n + 1) ws

/-- An item is pushed under R377: after a flush the rest is filled up to a whole item, and the item is pushed again or
given up, which R377 leaves open (log 2). -/
def State.engPush (s : State) (e c : Nat) (ws : List DWord) (fl : Option Nat) (flag : Nat) : State :=
  let u := 256 + e
  let r := s.pushItem c u fl 0 0 ws
  let s := r.1
  match r.2 with
  | none => (s.incSat (engA e 0x14) 16 16).engFault e flag
  | some n =>
    if n = ws.length then s
    else
      let fill := if n = 0 then [] else List.replicate (ws.length - n) allOnes
      let f := s.pushItem c u none 0 0 fill
      let b := f.1.freeB
      if b.2 then
        (let a := b.1.pushItem c u none 0 0 ws
         match a.2 with
         | none => (a.1.incSat (engA e 0x14) 16 16).engFault e flag
         | some _ => a.1)
      else b.1

/-! ### Items in (R401, R402) -/

/-- What an item holds: whether it is skipped, V, I, the timestamp, and the quantity x. -/
structure Item where
  skip : Bool
  v : B64
  i : B64
  ts : DWord
  x : B64

/-- The item that words make, by input format and quantity. -/
def itemOf (fmt q : Nat) (ws : List PopWord) : Item :=
  let w (j : Nat) : DWord := (ws.map (fun p => p.v)).getD j 0#64
  let vi (a b : B64) : B64 := if q = 0 then a else if q = 1 then b else F64.abs b
  if fmt = 0 then
    (let x := vi (w 0) (w 1)
     ⟨w 3 == allOnes || !bit (w 3) 0 || F64.isNaN (w 0) || F64.isNaN (w 1), w 0, w 1, w 2, x⟩)
  else if fmt = 1 then
    (let a := F64.of32 ((w 0).setWidth 32)
     let b := F64.of32 ((w 0 >>> 32).setWidth 32)
     ⟨w 0 == 0x7FC000007FC00000#64 || (w 0).setWidth 32 == 0x7FC00001#32 || F64.isNaN (vi a b), a, b,
      match ws with
      | p :: _ => p.at_
      | [] => 0#64, vi a b⟩)
  else
    ⟨w 7 == allOnes || !bit (w 7) 0 || F64.isNaN (w q), w 0, w 1, w 6, w q⟩

/-- House ticks that an item costs (R406). -/
def Eng.cost (x : Eng) : Nat :=
  match dKernel x.act with
  | 1 => 12
  | 2 => 8 + (dsc x.act 32 2 + 3) / 4
  | 3 => if x.seg.length + 1 = dsc x.act 32 4 then 74 else 10
  | 4 => 368
  | 5 => 96
  | 6 => 6
  | 7 => 24
  | _ => 1

/-- KERNEL_START (R406): the oldest whole item is taken; it is passed on, skipped or run. -/
def State.kernelStart (s : State) (e : Nat) (fl : Option Nat) : State :=
  let x := s.eng e
  let d := x.act
  let m := fmtWords (dFmt d)
  let ws := x.words.take m
  let arrived := ws.all (fun w => decide ((s.htick - w.at_).toNat < 2 ^ 63))
  if x.run.isSome || d.isEmpty || dKernel d == 0 || s.engFenced e || decide (x.words.length < m) || !arrived then s
  else
    let s := s.setEng e { x with words := x.words.drop m }
    let s := s.incWrap (engA e 0x0C) 0 32
    if ws.any (fun w => w.poison) then
      ((s.modEng e (fun y => { y with skipped := true, skipAge := 0 })).engFault e 0)
    else
      let s := if dPassEn d then s.engPush e (dPass d) (ws.map (fun w => w.v)) fl 3 else s
      let it := itemOf (dFmt d) (dQ d) ws
      if it.skip then (s.modEng e (fun y => { y with skipped := true, skipAge := 0 })).incSat (engA e 0x14) 0 16
      else if dKernel d = 4 ∧ x.latched then s
      else
        let t := s.rd (chA (bits (ws.getD 3 ⟨0#64, false, 0#64, 0⟩).v 48 7) 0x61C)
        s.modEng e (fun y => { y with run := some ([it.v, it.i, it.x, it.ts, t.setWidth 64], s.htick + BitVec.ofNat 64 x.cost),
                                      skipAge := y.skipAge + 1 })

/-! ### Exact arithmetic of the kernels -/

/-- The greatest r with r² ≤ n, from bit `b` down. -/
def isqrtGo (n : Nat) : Nat → Nat → Nat
  | 0, r => r
  | b + 1, r => isqrtGo n b (if (r + 2 ^ b) * (r + 2 ^ b) ≤ n then r + 2 ^ b else r)

/-- The square root of a fraction that is not negative, to nearest binary64. -/
def sqrtFrac (a : Frac) : B64 :=
  if a.num ≤ 0 then 0#64
  else
    let n := a.num.natAbs
    let sh : Int := (122 - ilog2Q n a.den) / 2
    let n1 := if 0 ≤ sh then n * 4 ^ sh.toNat else n
    let d1 := if 0 ≤ sh then a.den else a.den * 4 ^ (-sh).toNat
    let r := isqrtGo (n1 / d1) 64 0
    let m := 2 * r + (if r * r * d1 = n1 then 0 else 1)
    if 0 ≤ sh then F64.ofFrac m (2 * 2 ^ sh.toNat) else F64.ofFrac (m * 2 ^ (-sh).toNat) 2

def allFin (l : List B64) : Bool := l.all F64.isFin
def meanF (l : List B64) : Frac := Frac.div (sumF (l.map F64.frac)) ⟨l.length, 1⟩

/-- A NaN result. -/
def qNaN : B64 := 0x7FF8000000000000#64

/-- Mean and sample standard deviation of a window (R411). -/
def statOf (l : List B64) : B64 × B64 :=
  if !allFin l then (qNaN, qNaN)
  else
    let m := (meanF l).norm
    let ss := sumF (l.map (fun x => let r := Frac.sub (F64.frac x) m
                                    Frac.mul r r))
    (m.to64, if l.length ≤ 1 then 0#64 else sqrtFrac (Frac.div ss ⟨l.length - 1, 1⟩))

/-- Least squares of I on V: slope, intercept, rms residual; none where the V values do not differ (R411). -/
def fitIV (pts : List (B64 × B64)) : Option (B64 × B64 × B64) :=
  if !allFin (pts.map (fun p => p.1)) || !allFin (pts.map (fun p => p.2)) then none
  else
    let ps := pts.map (fun p => (F64.frac p.1, F64.frac p.2))
    let k : Frac := ⟨ps.length, 1⟩
    let sx := sumF (ps.map (fun p => p.1))
    let sy := sumF (ps.map (fun p => p.2))
    let sxx := sumF (ps.map (fun p => Frac.mul p.1 p.1))
    let sxy := sumF (ps.map (fun p => Frac.mul p.1 p.2))
    let d := Frac.sub (Frac.mul k sxx) (Frac.mul sx sx)
    if d.isZero then none
    else
      let a := (Frac.div (Frac.sub (Frac.mul k sxy) (Frac.mul sx sy)) d).norm
      let b := (Frac.div (Frac.sub sy (Frac.mul a sx)) k).norm
      let rr := sumF (ps.map (fun p => let r := Frac.sub p.2 (Frac.add (Frac.mul a p.1) b)
                                       Frac.mul r r))
      some (a.to64, b.to64, sqrtFrac (Frac.div rr k))

/-! ### Output items (R403, R405, R413) -/

/-- A NaN or infinite result is replaced (R413). -/
def fixNum (x : B64) : B64 := if F64.isFin x then x else qNaN

/-- An output item is built, pushed and announced (R403, R405, R406): six values, timestamp, valid, alarm, skipped,
short. A NaN that the kernel itself puts into the item is named by its place in `nan`. -/
def State.engOut (s : State) (e : Nat) (vs : List B64) (ts : DWord) (valid alarm skipped short : Bool) (nan : Option Nat)
    (fl : Option Nat) : State :=
  let x := s.eng e
  let d := x.act
  let six := (rangeFrom 0 6).map (fun i => vs.getD i 0#64)
  let bad := (List.zip (rangeFrom 0 6) six).any (fun p => !F64.isFin p.2 && nan != some p.1)
  let w7 := b2n (valid && !bad) + 2 * b2n alarm + 4 * b2n skipped + 8 * b2n short + 16 * b2n bad
    + 2 ^ 32 * (x.outSeq % 65536) + 2 ^ 48 * (0x80 + e) + 2 ^ 56 * dKernel d
  let ws := six.map fixNum ++ [ts, BitVec.ofNat 64 w7]
  let s := s.setEng e { x with outSeq := (x.outSeq + 1) % 65536 }
  let s := if bad then s.engFlag e 4 else s
  let s := s.incWrap (engA e 0x10) 0 32
  let s := if dOutEn d then s.engPush e (dOut d) ws fl 2 else s
  if dEvEach d then s.launch (0xC01 + 4 * e) else s

/-- A verdict or alarm: event, latch, and its tick (R411, R412). -/
def State.engVerdict (s : State) (e : Nat) : State :=
  ((s.modEng e (fun x => { x with latched := true })).wr64 (engA e 0x18) s.htick).launch (0xC00 + 4 * e)

/-! ### Kernels (R411, R412) -/

/-- The statistics item of the present window. -/
def State.statOut (s : State) (e : Nat) (short : Bool) (fl : Option Nat) : State :=
  let x := s.eng e
  if x.xs.isEmpty then s
  else
    let m := statOf x.xs
    let lo := x.xs.foldl F64.min (x.xs.headD 0#64)
    let hi := x.xs.foldl F64.max (x.xs.headD 0#64)
    s.engOut e [m.1, m.2, lo, hi, F64.ofInt x.xs.length] x.lastTs true false (decide (x.skipAge < x.xs.length)) short none fl

/-- Kernel 1. The history in the scratch words is a ring (DESIGN CHOICE, log 13). -/
def State.kStat (s : State) (e : Nat) (xv : B64) (ts : DWord) (fl : Option Nat) : State :=
  let x := s.eng e
  let d := x.act
  let s := s.unitWrite 3 (dBank d) (dBase d + x.n % dsc d 32 4) xv
  let s := s.setEng e { x with xs := (xv :: x.xs).take (dsc d 32 4), n := x.n + 1, lastTs := ts }
  if (x.n + 1) % dsc d 36 4 = 0 then s.statOut e false fl else s

/-- Kernel 2. -/
def State.kFilter (s : State) (e : Nat) (xv : B64) (ts : DWord) (fl : Option Nat) : State :=
  let x := s.eng e
  let d := x.act
  let t := dsc d 32 2
  let xs := (xv :: x.xs).take t
  let s := s.setEng e { x with xs := xs, n := x.n + 1, lastTs := ts }
  if (x.n + 1) % dsc d 34 4 = 0 then
    (let y := (rangeFrom 0 t).foldl (fun a j => F64.add a (F64.mul (dscF d (40 + 8 * j)) (xs.getD j 0#64))) 0#64
     s.engOut e [y, xv] ts true false (decide (x.skipAge < xs.length)) false none fl)
  else s

/-- The item of the segment that closes (R411). -/
def State.fitOut (s : State) (e : Nat) (short : Bool) (fl : Option Nat) : State :=
  let x := s.eng e
  match x.seg, x.seg.getLast? with
  | p :: _, some q =>
    let n := x.seg.length
    let f := fitIV x.seg
    let s := s.setEng e { x with seg := [] }
    let r := f.getD (qNaN, qNaN, qNaN)
    s.engOut e [r.1, r.2.1, r.2.2, F64.ofInt n, q.1, p.1] x.lastTs (f.isSome && decide (2 ≤ n)) false
      (decide (x.skipAge < n)) short none fl
  | _, _ => s

/-- Kernel 3. -/
def State.kFit (s : State) (e : Nat) (v i : B64) (ts : DWord) (fl : Option Nat) : State :=
  let x := s.eng e
  let s := s.setEng e { x with seg := (v, i) :: x.seg, lastTs := ts }
  if x.seg.length + 1 = dsc x.act 32 4 then s.fitOut e false fl else s

/-- Kernel 4 (R412). The slope g of an i_max verdict is not stated: it is open (log 2). -/
def State.kBreak (s : State) (e : Nat) (v i : B64) (ts : DWord) (fl : Option Nat) : State :=
  let x := s.eng e
  let d := x.act
  let thr := dscF d 40
  let imax := dscF d 48
  let imin := dscF d 64
  let s := s.setEng e { x with lastTs := ts }
  let verdict (s : State) (m g : B64) (nan : Option Nat) : State :=
    let s := s.engVerdict e
    s.engOut e [v, i, m, thr, g] ts true true x.skipped false nan fl
  if F64.lt 0#64 imax && F64.le imax (F64.abs i) then
    (let r := s.freeD
     verdict r.1 qNaN r.2 (some 2))
  else
    match x.kept with
    | [] => s.modEng e (fun y => { y with kept := [(v, i)], skipped := false })
    | (vp, ip) :: _ =>
      if F64.lt (F64.abs (F64.sub v vp)) (dscF d 56) then s.modEng e (fun y => { y with skipped := true })
      else
        let g := F64.div (F64.sub i ip) (F64.sub v vp)
        let m : Option B64 :=
          if dsc d 32 1 = 1 then
            (if F64.lt (F64.abs (F64.add i ip)) (F64.mul 0x4000000000000000#64 imin) then none
             else some (F64.div (F64.mul g (F64.add v vp)) (F64.add i ip)))
          else
            (let w := dsc d 34 2
             if x.kept.length < w then none
             else
               match fitIV (x.kept.take w) with
               | none => none
               | some r => if F64.lt 0#64 r.1 then some (F64.div g r.1) else none)
        let hit := match m with
          | some y => F64.lt thr y
          | none => false
        let hits := if hit then x.hits + 1 else 0
        let s := s.modEng e (fun y => { y with kept := ((v, i) :: y.kept).take 65, hits := hits, skipped := false })
        if dsc d 33 1 ≤ hits then verdict s (m.getD qNaN) g none else s

/-- Kernel 5; with no head temperature the values that need it are open (log 2). -/
def State.kLeak (s : State) (e : Nat) (v i : B64) (ts : DWord) (t : DWord) (fl : Option Nat) : State :=
  let d := (s.eng e).act
  let s := s.modEng e (fun y => { y with lastTs := ts })
  let raw : BitVec 16 := t.setWidth 16
  if dsc d 32 1 = 0 ∧ raw = 0x8000#16 then
    (let a := s.freeD
     let b := a.1.freeD
     let c := b.1.freeD
     (c.1.engFlag e 5).engOut e [a.2, i, b.2, v, c.2] ts false false false false none fl)
  else
    let tc := if dsc d 32 1 = 0 then F64.add (F64.ofFrac raw.toInt 128) (dscF d 64) else dscF d 56
    let kz := F64.ofFrac 27315 100
    let tk := F64.add tc kz
    let tr := F64.add (dscF d 40) kz
    let q := F64.div tr tk
    let two : B64 := 0x4000000000000000#64
    let one : B64 := 0x3FF0000000000000#64
    let kb := F64.ofFrac 8617333 100000000000
    let ex := F64.mul (F64.neg (F64.div (dscF d 48) (F64.mul two kb))) (F64.sub (F64.div one tr) (F64.div one tk))
    let f := F64.mul (F64.mul q q) (F64.exp ex)
    s.engOut e [F64.mul i f, i, tk, v, f] ts true false false false none fl

/-- A 64-bit counter of the histogram, saturating. -/
def State.binInc (s : State) (b i : Nat) : State :=
  let r := s.unitRead 3 b i
  match r.2 with
  | none => r.1
  | some (w, _) => if w = allOnes then r.1 else r.1.unitWrite 3 b i (w + 1#64)

/-- Kernel 6. -/
def State.kHist (s : State) (e : Nat) (xv : B64) (ts : DWord) : State :=
  let x := s.eng e
  let d := x.act
  let nb := dsc d 32 4
  let lo := dscF d 40
  let hi := dscF d 48
  let b :=
    if F64.lt xv lo then 0
    else if F64.le hi xv then nb + 1
    else 1 + min (nb - 1) (F64.frac (F64.mul (F64.div (F64.sub xv lo) (F64.sub hi lo)) (F64.ofInt nb))).floor.toNat
  let s := s.setEng e { x with n := x.n + 1, sum := F64.add x.sum xv, lastTs := ts }
  s.binInc (dBank d) (dBase d + b)

/-- The histogram's summary item (R411). -/
def State.histOut (s : State) (e : Nat) (fl : Option Nat) : State :=
  let x := s.eng e
  let d := x.act
  let a := s.unitRead 3 (dBank d) (dBase d)
  let b := a.1.unitRead 3 (dBank d) (dBase d + dsc d 32 4 + 1)
  let num (r : Option (DWord × Bool)) : B64 := match r with
    | some (w, _) => F64.ofInt w.toNat
    | none => qNaN
  b.1.engOut e [F64.ofInt x.n, num a.2, num b.2, F64.div x.sum (F64.ofInt x.n)] x.lastTs true false x.skipped false none fl

/-- Kernel 7. -/
def State.kRate (s : State) (e : Nat) (xv : B64) (ts : DWord) (fl : Option Nat) : State :=
  let x := s.eng e
  let d := x.act
  let l := dsc d 32 2
  let s := s.setEng e { x with xs := (xv :: x.xs).take l, tss := (ts :: x.tss).take l, lastTs := ts }
  if x.xs.length < l then s
  else
    let dt := F64.mul (F64.ofInt ((ts - x.tss.getD (l - 1) 0#64).toInt)) (F64.ofFrac 2 1000000000)
    if F64.lt dt (dscF d 56) then s
    else
      let r := F64.div (F64.sub xv (x.xs.getD (l - 1) 0#64)) dt
      let up := F64.lt (dscF d 40) r
      let dn := F64.lt r (dscF d 48)
      if !F64.isFin r then s.engFlag e 4
      else if up || dn then
        (if x.latched then s
         else (s.engVerdict e).engOut e [r, xv, if up then dscF d 40 else dscF d 48] ts true true
           (decide (x.skipAge < l + 1)) false none fl)
      else s.modEng e (fun y => { y with latched := false })

/-! ### Task inputs (R414) -/

/-- ti_std_e_0 at an item boundary. -/
def State.engClose (s : State) (e : Nat) (fl : Option Nat) : State :=
  let s := s.modEng e (fun x => { x with closeDue := false })
  match dKernel (s.eng e).act with
  | 1 => s.statOut e true fl
  | 3 => s.fitOut e true fl
  | 6 => s.histOut e fl
  | _ => s

/-- ti_std_e_1 at an item boundary: history, segment, verdict latch, alarm state and bins are cleared. -/
def State.engReset (s : State) (e : Nat) : State :=
  let x := s.eng e
  let s := s.setEng e { x.cleared with resetDue := false }
  if dKernel x.act = 6 then s.zeroWords (dBank x.act) (dBase x.act) (dScratch x.act) else s

/-- The triggers that wait for the item boundary; the close comes first. -/
def State.engTriggers (s : State) (e : Nat) (fl : Option Nat) : State :=
  let s := if (s.eng e).closeDue then s.engClose e fl else s
  if (s.eng e).resetDue then s.engReset e else s

/-- TI_STD_CLOSE, TI_STD_RESET. -/
def State.tiStd (s : State) (e k : Nat) (fl : Option Nat) : State :=
  let s := s.tiTake (0x1A0 + 2 * e + k)
  if s.engFenced e || (s.eng e).act.isEmpty then s
  else
    let s := s.modEng e (fun x => if k = 0 then { x with closeDue := true } else { x with resetDue := true })
    if (s.eng e).run.isSome then s else s.engTriggers e fl

/-! ### The end of a kernel (R406) -/

/-- KERNEL_END: the running item's cost has passed. -/
def State.kernelEnd (s : State) (e : Nat) (fl : Option Nat) : State :=
  let x := s.eng e
  match x.run with
  | some ([v, i, xv, ts, t], at_) =>
    if (s.htick - at_).toNat ≥ 2 ^ 63 then s
    else
      let s := s.setEng e { x with run := none }
      let s :=
        match dKernel x.act with
        | 1 => s.kStat e xv ts fl
        | 2 => s.kFilter e xv ts fl
        | 3 => s.kFit e v i ts fl
        | 4 => s.kBreak e v i ts fl
        | 5 => s.kLeak e v i ts t fl
        | 6 => s.kHist e xv ts
        | 7 => s.kRate e xv ts fl
        | _ => s
      s.engTriggers e none
  | _ => s

/-- STUDY_FENCE (R416). -/
def State.engFence (s : State) (e : Nat) : State :=
  (s.takeFence (0x410 + e)).modEng e
    (fun x => { x with act := [], pend := none, run := none, words := [], closeDue := false, resetDue := false })

end Sys2Proof.Machine
end

