-- ==== Sys2Proof/Machine/Image.lean ====
section
/-!
DEFINITION. Images (chapter 11): the header, records and payloads of Foundations and overlays, and their checks of
structure, signature and, for a Foundation, meaning (R330 to R340).
-/

namespace Sys2Proof.Machine

/-- Why an image is refused: the result code, and index and offset of the failing record (R339). -/
structure ImgErr where
  code : Nat
  idx : Nat := 0xFFFF
  ofs : Nat := 0
deriving DecidableEq, Repr

/-- One record (R332): index, byte offset, type and payload. -/
structure ImgRec where
  idx : Nat
  ofs : Nat
  typ : Nat
  data : List Byte
deriving DecidableEq, Repr

/-- An image that has passed the check of its structure. -/
structure Img where
  ovl : Bool
  ver : Nat
  wing : Nat
  mode : Nat
  build : Nat
  base : Nat
  /-- the records before END, without the skipped ones -/
  recs : List ImgRec
  sig : Option (List Byte)
  /-- bytes 0 to the last byte of END -/
  signed : List Byte
deriving DecidableEq, Repr

/-- A field of `w` bytes at offset `o`, little-endian (R330). -/
def fld (b : List Byte) (o w : Nat) : Nat := leNat ((b.drop o).take w)

/-- The entries of a payload. -/
def entries (n : Nat) : Nat → List Byte → List (List Byte)
  | 0, _ => []
  | f + 1, b => if b.isEmpty ∨ n = 0 then [] else b.take n :: entries n f (b.drop n)
def ImgRec.items (r : ImgRec) (n : Nat) : List (List Byte) := entries n r.data.length r.data

/-- The records of a type, in image order. -/
def Img.ofType (m : Img) (t : Nat) : List ImgRec := m.recs.filter (fun r => r.typ == t)
/-- The entries of all records of a type, in image order. -/
def Img.allItems (m : Img) (t n : Nat) : List (List Byte) := (m.ofType t).flatMap (fun r => r.items n)

/-! ### Header and records (R330 to R334) -/

def magicFnd : Nat := 0x44464B44
def magicOvl : Nat := 0x564F4B44

/-- The image begins as an overlay. -/
def isOvl (b : List Byte) : Bool := fld b 0 4 == magicOvl

/-- The kinds of image: Foundation, overlay, Keeper image (R445). -/
inductive ImgKind where
  | fnd | ovl | kpr
deriving DecidableEq, Repr

def ImgKind.magic : ImgKind → Nat
  | .fnd => magicFnd
  | .ovl => magicOvl
  | .kpr => 0x504B4B44
def ImgKind.limit : ImgKind → Nat
  | .fnd => 0x100000
  | .ovl => 0x4000
  | .kpr => 0x80000

/-- The code with which the header fails; 0 where it passes (R330, R331; order of the checks: log 14). -/
def hdrCode (kind : ImgKind) (b : List Byte) : Nat :=
  if fld b 44 4 ≠ (crc32c (b.take 44)).toNat then 0x01
  else if fld b 0 4 ≠ kind.magic ∨ fld b 4 2 ≠ 1 ∨ fld b 6 2 ≠ 0x30 ∨ fld b 16 2 ≠ 0x9128 then 0x02
  else if kind.limit < fld b 8 4 then 0x13
  else if fld b 40 4 ≠ 0 ∨ fld b 24 8 = 0
      ∨ (if kind = .ovl then 7 < fld b 18 1 ∨ 5 < fld b 19 1
         else fld b 18 1 ≠ 0xFF ∨ fld b 19 1 ≠ 0xFF ∨ (kind = .fnd ∧ fld b 32 8 ≠ 0)) then 0x12
  else 0

/-- The record types that the engine knows, other than END and SIG. -/
def knownType (t : Nat) : Bool := [0x10, 0x11, 0x12, 0x13, 0x20, 0x30, 0x31, 0x40, 0x50, 0x51, 0x60, 0x70].contains t
def ovlType (t : Nat) : Bool := [0x11, 0x12, 0x40, 0x50].contains t

/-- What the walk over the records has found. -/
structure Walk where
  recs : List ImgRec := []
  endOfs : Option Nat := none
  sig : Option (List Byte) := none
  n : Nat := 0
deriving DecidableEq, Repr

/-- One record at offset `o`: refused with a code, or taken (R332, R334). -/
def recTake (kind : ImgKind) (len : Nat) (b : List Byte) (o : Nat) (w : Walk) : Except Nat (Walk × Nat) :=
  let t := fld b 0 2
  let fl := fld b 2 2
  let n := fld b 4 4
  let r : ImgRec := ⟨w.n, o, t, (b.drop 8).take n⟩
  let w' := { w with n := w.n + 1 }
  if len < o + 12 + n then .error 0x03
  else if n % 4 ≠ 0 then .error 0x06
  else if (crc32c (b.take (8 + n))).toNat ≠ fld b (8 + n) 4 then .error 0x04
  else if 1 < fl then .error 0x12
  else if w.endOfs.isSome then
    (if t = 0x02 ∧ w.sig.isNone then .ok ({ w' with sig := some r.data }, 12 + n) else .error 0x07)
  else if t = 0x01 then (if n = 0 then .ok ({ w' with endOfs := some (o + 12) }, 12) else .error 0x06)
  else if t = 0x02 then .error 0x07
  else if kind ≠ .kpr ∧ !knownType t then (if fl = 1 then .ok (w', 12 + n) else .error 0x05)
  else if kind = .ovl ∧ !ovlType t then .error 0x07
  else if kind = .fnd ∧ (t = 0x11 ∨ t = 0x13 ∨ t = 0x31 ∨ t = 0x60) ∧ w.recs.any (fun x => x.typ == t) then .error 0x07
  else .ok ({ w' with recs := w.recs ++ [r] }, 12 + n)

/-- The walk over the records from offset `o` to the end `len` of the image. -/
def recWalk (kind : ImgKind) (len : Nat) : Nat → List Byte → Nat → Walk → Except ImgErr Walk
  | 0, _, _, w => .ok w
  | f + 1, b, o, w =>
    if o = len then .ok w
    else if len < o + 12 then .error ⟨0x03, w.n, o⟩
    else
      match recTake kind len b o w with
      | .error c => .error ⟨c, w.n, o⟩
      | .ok (w', n) => recWalk kind len f (b.drop n) (o + n) w'

/-! ### Payloads (R335 to R337) -/

/-- What the check of a payload may look at. -/
structure ImgCtx where
  ovl : Bool
  wing : Nat
  /-- register values against which written values are judged -/
  s : State

/-- The channel belongs to the overlay's wing, or the image is a Foundation. -/
def ImgCtx.chOk (c : ImgCtx) (n : Nat) : Bool := !c.ovl || wingOf n == c.wing

/-- The first code that is not 0. -/
def firstCode : List Nat → Nat
  | [] => 0
  | x :: xs => if x = 0 then firstCode xs else x

/-- A payload of entries of `n` bytes, each judged by `f`. -/
def eachItem (n : Nat) (r : ImgRec) (f : List Byte → Nat) : Nat :=
  if r.data.length % n ≠ 0 then 0x06 else firstCode ((r.items n).map f)

/-- The offsets of a channel that an overlay may name in REG entries (R337). -/
def ovlChOff (o : Nat) : Bool :=
  let within (a b : Nat) : Bool := decide (a ≤ o) && decide (o ≤ b)
  o == 0x004 || within 0x014 0x024 || within 0x100 0x11C || within 0x200 0x210 || within 0x300 0x30C || o == 0x428
    || within 0x480 0x4FC || within 0x500 0x530 || within 0x700 0x718 || o == 0xB0C

/-- The offsets of a wing that an overlay may name. -/
def ovlWgOff (o : Nat) : Bool := (decide (0x200 ≤ o) && decide (o ≤ 0x214)) || (decide (0x300 ≤ o) && decide (o ≤ 0x380)) || o == 0x404

/-- A REG entry may name the register (R336, R337). -/
def ImgCtx.regOk (c : ImgCtx) (a : Nat) (r : RegRow) : Bool :=
  let block (x : Nat) : Bool := decide (x ≤ a) && decide (a < x + 0x1000)
  r.rw != 0 && !r.own &&
  if c.ovl then
    (isCh a && wingOf (chOf a) == c.wing && ovlChOff (a % 0x1000)) || (isWg a && wgOf a == c.wing && ovlWgOff (a % 0x1000))
  else !(block HRT || block CFG || block HWY || block PAN || (decide (0x8000 ≤ a) && decide (a < 0xA000))
    || (decide (0x2100 ≤ a) && decide (a < 0x2120)))

/-- The REG entries in order: the code of the first that fails, each value judged after those before it (log 15). -/
def ImgCtx.regCode (c : ImgCtx) : List (List Byte) → Nat
  | [] => 0
  | e :: es =>
    let a := fld e 0 4
    let v : Word := BitVec.ofNat 32 (fld e 4 4)
    match regRow a with
    | none => 0x11
    | some r =>
      if !c.regOk a r then 0x11
      else if v &&& ~~~(BitVec.ofNat 32 r.rw) ≠ 0#32 ∨ c.s.badBits .keeper a v ≠ 0#32 then 0x12
      else ImgCtx.regCode { c with s := c.s.wr a v } es

/-- The code of one payload; 0 where it passes. -/
def ImgCtx.payload (c : ImgCtx) (r : ImgRec) : Nat :=
  let d := r.data
  let z (e : List Byte) (o n : Nat) : Bool := fld e o n == 0
  match r.typ with
  | 0x10 =>
    if d.length < 12 ∨ fld d 2 2 = 0 ∨ 200 < fld d 2 2 ∨ d.length ≠ 12 + 8 * fld d 2 2 then 0x06
    else if 15 < fld d 0 1 ∨ !z d 1 1 ∨ !z d 6 2 then 0x12 else 0
  | 0x11 => eachItem 12 r (fun e =>
      if 127 < fld e 0 1 ∨ 15 < fld e 1 1 ∨ (c.ovl ∧ fld e 2 2 ≠ 0xFFFF) then 0x12
      else if !c.chOk (fld e 0 1) then 0x11 else 0)
  | 0x12 =>
    let m := fld d 2 1
    if d.length < 4 ∨ d.length ≠ 4 + 4 * m ∨ 32 < fld d 1 1 + m then 0x06
    else if 127 < fld d 0 1 ∨ !z d 3 1 ∨ ((entries 4 m (d.drop 4)).any (fun e => !F32.isFin (BitVec.ofNat 32 (leNat e)))) then 0x12
    else if !c.chOk (fld d 0 1) then 0x11 else 0
  | 0x13 => if d.length ≠ 8 then 0x06 else if 63 < fld d 4 1 ∨ !z d 5 3 then 0x12 else 0
  | 0x20 => eachItem 52 r (fun e =>
      let slot (o i : Nat) : Nat := fld e (o + 2 * i) 2
      if fld e 1 1 = 0 ∨ 16 < fld e 1 1 ∨ fld e 2 1 = 0 ∨ 8 < fld e 2 1 then 0x06
      else if !z e 3 1 ∨ (rangeFrom 0 16).any (fun i => !(slot 4 i == 0xFFFF || hwyProdOk (slot 4 i)))
        ∨ (rangeFrom 0 8).any (fun i => !(slot 36 i == 0xFFFF || hwyTiOk (slot 36 i))) then 0x12 else 0)
  | 0x30 => eachItem 16 r (fun e =>
      if fld e 1 1 < 4 ∨ 16 < fld e 1 1 ∨ 63 < fld e 2 1 ∨ !z e 3 1 ∨ 16000000 < fld e 8 4 ∨ !z e 12 4 then 0x12 else 0)
  | 0x31 => if d.length ≠ 64 then 0x06 else if d.any (fun b => decide (6 < b.toNat)) then 0x12 else 0
  | 0x40 => if d.length % 8 ≠ 0 then 0x06 else c.regCode (r.items 8)
  | 0x50 => eachItem 12 r (fun e =>
      let k := fld e 0 2
      if srcGroup k = none ∨ 3 < fld e 2 1 ∨ 3 < fld e 3 1 ∨ fld e 4 1 = 0 ∨ !z e 5 3 ∨ fld e 8 4 = 0 ∨ 1000000000 < fld e 8 4 then 0x12
      else if c.ovl && !(decide (k < 0x80) && wingOf k == c.wing || k == 0x80 + c.wing) then 0x11 else 0)
  | 0x51 => eachItem 20 r (fun e =>
      let cfg : Word := BitVec.ofNat 32 (fld e 4 4)
      if 4095 < fld e 0 2 ∨ !z e 2 2 ∨ cfg &&& ~~~0xFFFF03FF#32 ≠ 0#32 ∨ badPhs 0x2104 cfg 0#32 ≠ 0
        ∨ badPhs 0x210C (BitVec.ofNat 32 (fld e 12 4)) cfg ≠ 0 then 0x12 else 0)
  | 0x60 => eachItem 4 r (fun e => if 7 < fld e 0 1 ∨ 5 < fld e 1 1 ∨ 47 < fld e 2 2 then 0x12 else 0)
  | 0x70 => if d.length ≠ 260 then 0x06 else if 15 < fld d 0 1 ∨ !z d 1 3 then 0x12 else 0
  | _ => 0

/-- Payloads in record order: the first that fails, with index and offset. The register values of earlier REG records
stand for those after them. -/
def ImgCtx.payloads (c : ImgCtx) : List ImgRec → Option ImgErr
  | [] => none
  | r :: rs =>
    let k := c.payload r
    if k ≠ 0 then some ⟨k, r.idx, r.ofs⟩
    else
      let c' := if r.typ = 0x40 then
          { c with s := (r.items 8).foldl (fun s e => s.wr (fld e 0 4) (BitVec.ofNat 32 (fld e 4 4))) c.s } else c
      ImgCtx.payloads c' rs

/-- The payload of a SIG record (R338). -/
def sigCode (d : List Byte) : Nat := if d.length ≠ 196 then 0x06 else if 3 < fld d 0 1 ∨ fld d 1 3 ≠ 0 then 0x12 else 0

/-- A "once" type of a Foundation is missing, or its templates are none, more than 16 or share an index (R334). -/
def onceMissing (rs : List ImgRec) : Bool :=
  let tpl := (rs.filter (fun r => r.typ == 0x10)).map (fun r => fld r.data 0 1)
  [0x11, 0x13, 0x31, 0x60].any (fun t => !rs.any (fun r => r.typ == t)) || tpl.isEmpty || decide (16 < tpl.length)
    || tpl.eraseDups.length != tpl.length

/-- Phase 1 (R339): the structure of the image that begins with bytes `b`. -/
def State.imgParse (s : State) (ovl : Bool) (b : List Byte) : Except ImgErr Img :=
  let kind : ImgKind := if ovl then .ovl else .fnd
  let h := hdrCode kind b
  if h ≠ 0 then .error ⟨h, 0xFFFF, 0⟩
  else
    let len := fld b 8 4
    if b.length < len then .error ⟨0x03, 0xFFFF, 0⟩
    else
      let b := b.take len
      match recWalk kind len (len / 12 + 1) (b.drop 48) 48 {} with
      | .error e => .error e
      | .ok w =>
        match w.endOfs with
        | none => .error ⟨0x03, 0xFFFF, 0⟩
        | some e =>
          if w.n ≠ fld b 20 4 then .error ⟨0x03, 0xFFFF, 0⟩
          else if !ovl && onceMissing w.recs then .error ⟨0x07, 0xFFFF, 0⟩
          else
            let wing := fld b 18 1
            let st := if ovl then s else State.reset
            match ImgCtx.payloads ⟨ovl, wing, st⟩ w.recs with
            | some x => .error x
            | none =>
              let c := match w.sig with
                | some d => sigCode d
                | none => 0
              if c ≠ 0 then .error ⟨c, w.n - 1, e⟩
              else .ok ⟨ovl, fld b 12 4, wing, fld b 19 1, fld b 24 8, fld b 32 8, w.recs, w.sig, b.take e⟩

/-! ### Signatures and versions (R338) -/

def State.secureEn (s : State) : Bool := bit s.fuses 0
def State.keyRevoked (s : State) (k : Nat) : Bool := bit s.fuses (k + 1)
/-- min_ver: how many of the fuse bits 64 to 127 are burned. -/
def State.minVer (s : State) : Nat := ((rangeFrom 64 64).filter (fun i => bit s.fuses i)).length
/-- The fused hash of key `k`; byte `i` of it lies at bits 8 i on (log 16). -/
def State.keyHash (s : State) (k : Nat) : List Byte := leBytes 48 (bits s.fuses (128 + 384 * k) 384)

/-- A signature record over signed bytes: 0, or the code with which it fails. -/
def State.sigCheck (s : State) (d signed : List Byte) : Nat :=
  let k := fld d 0 1
  let num (o : Nat) : Nat := beNat ((d.drop o).take 48)
  if sha384 ((d.drop 4).take 96) ≠ s.keyHash k ∨ s.keyRevoked k then 0x0A
  else if !ecdsaOk (num 4) (num 52) (num 100) (num 148) (sha384 signed) then 0x09
  else 0

/-- Phase 2 (R339): 0 or the code. -/
def State.imgSigned (s : State) (m : Img) : Nat :=
  match m.sig with
  | none => if s.secureEn then 0x08 else 0
  | some d =>
    let c := s.sigCheck d m.signed
    if c ≠ 0 then c else if s.secureEn && decide (m.ver < s.minVer) then 0x0B else 0

/-- Phases 1 and 2. -/
def State.imgCheck (s : State) (ovl : Bool) (b : List Byte) : Except ImgErr Img :=
  match s.imgParse ovl b with
  | .error e => .error e
  | .ok m =>
    let c := s.imgSigned m
    if c ≠ 0 then .error { code := c } else .ok m

/-! ### The meaning of a Foundation (R340) -/

/-- A binding entry. -/
structure Binding where
  ch : Nat
  tpl : Nat
  tile : Nat
  k : Nat
  phi : Nat
  lat : Nat
deriving DecidableEq, Repr

def bindOf (e : List Byte) : Binding := ⟨fld e 0 1, fld e 1 1, fld e 2 2, fld e 4 4, fld e 8 2, fld e 10 2⟩
def Img.binds (m : Img) : List Binding := (m.allItems 0x11 12).map bindOf

/-- The words of template `i` in an image; none where it holds no such template. -/
def Img.tpl (m : Img) (i : Nat) : Option ImgRec := (m.ofType 0x10).find? (fun r => fld r.data 0 1 == i)
def tplRecWords (r : ImgRec) : List DWord := (entries 8 200 (r.data.drop 12)).map (fun e => BitVec.ofNat 64 (leNat e))

/-- A binding of a Foundation stands: tile of the wing, template present, R108 (code 0x0E otherwise). -/
def Img.bindOk (m : Img) (b : Binding) : Bool :=
  decide (b.tile < 256) && b.tile / 32 == wingOf b.ch && decide (2 ≤ b.k) && decide (b.k ≤ 3906250) &&
  match m.tpl b.tpl with
  | none => false
  | some r => templateOk (tplRecWords r) b.k b.phi b.lat

/-- The owner code that BANKS gives a bank. -/
def Img.bankOwner (m : Img) (b : Nat) : Nat := match m.ofType 0x31 with
  | r :: _ => fld r.data b 1
  | [] => 0

/-- A Chute's place: Chute, log2 of its depth, bank, base word. -/
structure Place where
  c : Nat
  lg : Nat
  bank : Nat
  base : Nat
  stale : Nat
deriving DecidableEq, Repr

/-- The Chutes that the image places; a later entry for a Chute replaces an earlier one (R335). -/
def Img.chutes (m : Img) : List Place :=
  let l := (m.allItems 0x30 16).map (fun e => (⟨fld e 0 1, fld e 1 1, fld e 2 1, fld e 4 4, fld e 8 4⟩ : Place))
  l.foldl (fun t p => t.filter (fun q => q.c != p.c) ++ [p]) []

/-- Two Chutes share a word. -/
def Place.overlaps (p q : Place) : Bool := p.bank == q.bank && decide (p.base < q.base + 2 ^ q.lg) && decide (q.base < p.base + 2 ^ p.lg)

/-- Every Chute lies as R335 and R372 require. -/
def Img.chutesOk (m : Img) : Bool :=
  m.chutes.all (fun p => m.bankOwner p.bank == 5 && p.base % 2 ^ p.lg == 0 && decide (p.base + 2 ^ p.lg ≤ 65536)
    && m.chutes.all (fun q => p.c == q.c || !p.overlaps q))

/-- The checkpoint area and the template store lie as R335 requires. -/
def Img.ltaOk (m : Img) : Bool := match m.ofType 0x13 with
  | r :: _ =>
    let a := fld r.data 0 4
    decide (0x2000000 ≤ a) && decide (a + 65536 ≤ 0x4000000) && a % 512 == 0
      && (a - 0x2000000) / 0x80000 == (a + 65535 - 0x2000000) / 0x80000
      && m.bankOwner ((a - 0x2000000) / 0x80000) == 1 && m.bankOwner (fld r.data 4 1) == 1
  | [] => false

/-- Phase 3 for a Foundation: 0, or the code and the record. -/
def Img.meaning (m : Img) : Option ImgErr :=
  let at_ (t code : Nat) : Option ImgErr := match m.ofType t with
    | r :: _ => some ⟨code, r.idx, r.ofs⟩
    | [] => some { code := code }
  let b := m.binds
  if b.length ≠ 128 ∨ (b.map Binding.ch).eraseDups.length ≠ 128 ∨ (b.map Binding.tile).eraseDups.length ≠ 128
      ∨ !b.all m.bindOk then at_ 0x11 0x0E
  else if !m.ltaOk then at_ 0x13 0x17
  else if !m.chutesOk then at_ 0x30 0x17
  else none

/-- The checks of a Foundation, all three phases. -/
def State.fndCheck (s : State) (b : List Byte) : Except ImgErr Img :=
  match s.imgCheck false b with
  | .error e => .error e
  | .ok m => match m.meaning with
    | some e => .error e
    | none => .ok m

end Sys2Proof.Machine
end

