-- ==== Sys2Proof/Machine/Modes.lean ====
section
/-!
DEFINITION. Wing modes (R483 to R489): the mode code and what its change does to the wing, requests and refusals.
-/

namespace Sys2Proof.Machine

def State.md (s : State) (w : Nat) : ModeReq := Tbl.get {} s.pwr.modes w
def State.setMd (s : State) (w : Nat) (x : ModeReq) : State := { s with pwr := { s.pwr with modes := Tbl.put s.pwr.modes w x } }
def State.modMd (s : State) (w : Nat) (f : ModeReq → ModeReq) : State := s.setMd w (f (s.md w))

/-- The channels of a wing, each taken through `f`. -/
def State.eachCh (s : State) (w : Nat) (f : State → Nat → State) : State := (rangeFrom (16 * w) 16).foldl f s

/-- A request for a wing is refused with a code (R489). -/
def State.modeRefuse (s : State) (w code : Nat) : State := ((s.flag 0x3C w).wf 0x3C 8 8 code).wf 0x3C 16 3 w

/-- The transition from mode `a` to mode `b` is legal, directly or as a chain through STANDBY (R484). -/
def modeLegal (a b : Nat) : Bool :=
  b == 0 || b == 1 || a == 0 || a == 1 || (a == 2 && b == 3) || (a == 3 && b == 2)

/-- The force bits that needed SERVICE on wing `w` are cleared when the wing leaves it (R486, R322). -/
def State.forceDrop (s : State) (w : Nat) : State :=
  { s with srcs := s.srcs.map (fun e => match srcWing e.1 with
      | some v => if v = w then (e.1, { e.2 with force := false }) else e
      | none => (e.1, { e.2 with force := false })) }

/-- The mode code of a wing changes to `m`, with what ends (R486) and what begins on its channels (R74, R252); `now`
says that a SAFE request is immediate. -/
def State.modeSet (s : State) (w m : Nat) (now : Bool) : State :=
  let old := s.wingMode w
  let s := s.wf 0x34 (3 * w) 3 m
  let s := if old = m then s else if old = 3 then s.swpWingLeft w else if old = 5 then s.forceDrop w else s
  if m = 0 ∧ now then s.eachCh w (fun s n => s.cause n 0x15)
  else if m = 0 ∨ m = 1 then s.eachCh w (fun s n => s.latchCause n 0x14)
  else if m = 4 ∧ old ≠ 4 then
    let s := s.eachCh w (fun s n => s.latchCause n 0x14)
    if s.rb CAL 3 then s.eachCh w (fun s n => if (s.ch n).headReady then s.calRequest n 1 false else s) else s
  else s

/-- A request for mode `m` other than SAFE (R483, R484, R488). -/
def State.modeReq (s : State) (w m : Nat) : State :=
  if !s.committed then s.modeRefuse w 0x02
  else
    let x := s.md w
    if x.run.isSome then
      let s := if x.wait.isSome then s.modeRefuse w 0x05 else s
      s.setMd w { x with wait := some m }
    else if m = s.wingMode w then s
    else if modeLegal (s.wingMode w) m then s.setMd w { x with run := some m }
    else s.modeRefuse w 0x01

/-- A SAFE request: it acts at the next SAFE_ENTRY of the wing; of an immediate and a ramped one the immediate acts
(R487). -/
def State.safeRequest (s : State) (w : Nat) (now : Bool) : State :=
  s.modMd w (fun x => { x with safe := some (now || x.safe == some true) })

/-- Every wing takes an immediate SAFE request (R469 to R471, R515). -/
def State.safeAll (s : State) : State := (rangeFrom 0 8).foldl (fun s w => s.safeRequest w true) s

/-- The running request of a wing has ended; the waiting one takes its place (R488). -/
def State.modeNext (s : State) (w : Nat) : State :=
  let x := s.md w
  let s := s.setMd w { x with run := none, wait := none, overlay := false }
  match x.wait with
  | some m => s.modeReq w m
  | none => s

/-- The running request of a wing is refused (R488, R489). -/
def State.modeFail (s : State) (w code : Nat) : State := (s.modeRefuse w code).modeNext w

/-- The wing enters the mode that its running request calls for next: the first step of a chain leaves the request
running (R484). -/
def State.modeStep (s : State) (w m : Nat) : State :=
  let s := s.modeSet w m false
  if (s.md w).run = some m then s.modeNext w else s.modMd w (fun x => { x with overlay := false })

end Sys2Proof.Machine
end

