-- ==== Sys2Proof/Machine/Foundation.lean ====
section
/-!
DEFINITION. The Foundation (R329, R339 to R342, R351): refusals, the records taken into effect at tick C, the overlay
cache, and the results that the configuration engine waits for from the Cellar.
-/

namespace Sys2Proof.Machine

def State.modCfg (s : State) (f : Cfg → Cfg) : State := { s with cfg := f s.cfg }
def State.cfgFenced (s : State) : Bool := s.unitFenced 0x403

/-! ### Results and refusals (R339) -/

/-- CFG_RESULT and CFG_FAIL_OFS. -/
def State.cfgResult (s : State) (op : Nat) (e : ImgErr) : State :=
  (s.wr (CFG + 0x0C) (BitVec.ofNat 32 (e.code + 256 * op + 65536 * (e.idx % 65536)))).wr (CFG + 0x10) (BitVec.ofNat 32 e.ofs)

/-- The flag of CFG_FLAGS that a code sets (Table "Result codes"); none for 0x14 and 0x15. -/
def cfgFlag (ovl : Bool) (code : Nat) : Option Nat :=
  if code = 0x14 ∨ code = 0x15 then none
  else if 0x08 ≤ code ∧ code ≤ 0x0A then some 2
  else if code = 0x0B then some 3
  else if code = 0x16 then some 6
  else if code = 0x0C ∨ code = 0x0D ∨ code = 0x0F ∨ code = 0x10 then some 1
  else some (if ovl then 1 else 0)

/-- A flag of CFG_FLAGS with the engine's error line (R355). -/
def State.cfgFault (s : State) (i : Nat) : State := (s.flag (CFG + 4) i).report 0x403 i

/-- An image, an apply or a command is refused (R339). A command that finds the engine busy only loads the result. -/
def State.cfgRefuse (s : State) (op : Nat) (ovl : Bool) (e : ImgErr) : State :=
  let s := s.cfgResult op e
  if e.code = 0x14 then s
  else
    let s := (s.incSat (CFG + 0x28) 16 16).launch 0xB21
    match cfgFlag ovl e.code with
    | some i => s.cfgFault i
    | none => s

/-- An operation is done. -/
def State.cfgDone (s : State) (op : Nat) : State := s.cfgResult op { code := 0 }

/-- A check has an outcome: the image goes on to `f`, or is refused. -/
def State.cfgTake (s : State) (op : Nat) (ovl : Bool) (x : Except ImgErr Img) (f : State → Img → State) : State :=
  match x with
  | .error e => s.cfgRefuse op ovl e
  | .ok m => f s m

/-- An operation of the engine is under way (CFG_STAT busy). -/
def State.cfgBusy (s : State) : Bool := s.cfg.job.isSome || s.cfg.apply.isSome || s.cfg.commit.isSome

/-! ### Where images come from (R343) -/

/-- The staging bank, whole. -/
def State.stageBank (s : State) : Nat := s.rf (CFG + 0x14) 0 6
def State.stageImage (s : State) : List Byte :=
  let o := s.stageBank * 0x80000
  let n := min (fld (Mem.bytes s.pan o 12) 8 4) 0x80000
  Mem.bytes s.pan o (max n 48)

/-- An overlay for the active Foundation: phases 1 and 2, and code 0x0C. -/
def State.ovlCheck (s : State) (b : List Byte) : Except ImgErr Img :=
  match s.imgCheck true b with
  | .error e => .error e
  | .ok m => if m.base ≠ (s.rd64 (CFG + 0x18)).toNat then .error { code := 0x0C } else .ok m

/-! ### The records at C (R335, R340, R341) -/

/-- One record of a Foundation takes effect; the bindings' tiles follow in `fndTiles`. -/
def State.fndRec (s : State) (r : ImgRec) : State :=
  let d := r.data
  let w (e : List Byte) (o : Nat) : Word := BitVec.ofNat 32 (fld e o 4)
  match r.typ with
  | 0x10 =>
    let i := fld d 0 1
    let info : TplInfo := ⟨fld d 2 2, fld d 4 2, fld d 8 4⟩
    { s with found := { s.found with tpls := Tbl.put s.found.tpls i (some info) } }
  | 0x11 => (r.items 12).foldl (fun s e =>
      let b := bindOf e
      let s := s.wf (chA b.ch 0x400) 0 4 b.tpl
      let s := s.wf (chA b.ch 0x404) 0 22 b.k
      s.wr (chA b.ch 0x408) (BitVec.ofNat 32 (b.phi + 65536 * b.lat))) s
  | 0x12 => (List.zip (rangeFrom (fld d 1 1) (fld d 2 1)) (entries 4 (fld d 2 1) (d.drop 4))).foldl
      (fun s e => s.wr (chA (fld d 0 1) (0x480 + 4 * e.1)) (w e.2 0)) s
  | 0x13 => { s with found := { s.found with ckptBase := some (fld d 0 4), tplBank := fld d 4 1 } }
  | 0x20 => (r.items 52).foldl (fun s e =>
      let slots (o n : Nat) : List Nat := (rangeFrom 0 n).map (fun i => fld e (o + 2 * i) 2)
      s.routeSet (fld e 0 1) (slots 4 (fld e 1 1)) (slots 36 (fld e 2 1))) s
  | 0x30 => (r.items 16).foldl (fun s e =>
      let s := s.wr (chuA (fld e 0 1) 0) (BitVec.ofNat 32 (fld e 1 1 + 256 * fld e 2 1 + 65536 * fld e 4 4))
      s.wr (chuA (fld e 0 1) 4) (w e 8)) s
  | 0x31 =>
    let s := (rangeFrom 0 64).foldl (fun s b => s.wf (PAN + 4 * (b / 8)) (4 * (b % 8)) 3 (fld d b 1)) s
    let s := (s.wr (PAN + 0x20) 0xFFFFFFFF#32).wr (PAN + 0x24) 0xFFFFFFFF#32
    match (rangeFrom 0 64).find? (fun b => fld d b 1 == 6) with
    | some b => s.wf (CFG + 0x14) 0 6 b
    | none => s
  | 0x40 => (r.items 8).foldl (fun s e => s.wr (fld e 0 4) (w e 4)) s
  | 0x50 => (r.items 12).foldl (fun s e =>
      let k := fld e 0 2
      s.setSrc k { s.src k with cfg := ⟨fld e 2 1, fld e 3 1, fld e 4 1, fld e 8 4, (s.src k).cfg.injCause⟩ }) s
  | 0x51 => (r.items 20).foldl (fun s e =>
      s.setAlarm (fld e 0 2) { cfg := w e 4, val := BitVec.ofNat 64 (fld e 8 8), per := w e 16 }) s
  | 0x60 => (r.items 4).foldl (fun s e => s.modCfg (fun c =>
      { c with ovltab := Tbl.put c.ovltab (8 * fld e 0 1 + fld e 1 1) (some (fld e 2 2)) })) s
  | _ => s

/-- The template store holds the image's templates (R335). -/
def State.fndStore (s : State) (m : Img) : State :=
  (m.ofType 0x10).foldl (fun s r =>
    let b := s.found.tplBank
    let o := 256 * fld r.data 0 1
    (List.zip (rangeFrom o 200) (tplRecWords r)).foldl (fun s e => s.panPut b e.1 e.2) s) s

/-- The spare that serves a channel whose working tile is fenced: the one that served it before, else a free one
(R341). -/
def State.fndSpare (s : State) (n : Nat) : Option Nat :=
  match (rangeFrom 256 16).find? (fun t => (s.tile t).role == .bound && (s.tile t).ch == n) with
  | some t => some t
  | none => s.freeSpare (wingOf n)

/-- Spare tiles take role 4, except those that serve a channel whose working tile is fenced (R129, R341). -/
def State.fndSpares (s : State) (m : Img) : State :=
  let needs (n : Nat) : Bool := m.binds.any (fun b => b.ch == n && (s.tile b.tile).role == .fenced)
  (rangeFrom 256 16).foldl (fun s t =>
    let x := s.tile t
    if x.role = .fenced ∨ (x.role = .bound ∧ needs x.ch) then s else s.setTile t { role := .spareFree }) s

/-- The bindings take their tiles (R340, R341). -/
def State.fndTiles (s : State) (m : Img) : State :=
  m.binds.foldl (fun s b =>
    let s := s.modLp b.ch (fun l => { l with template := b.tpl, kArming := true })
    if (s.tile b.tile).role ≠ .fenced then ((s.loadTile b.tile b.ch b.tpl .bound).bindTile b.ch b.tile b.tpl)
    else match s.fndSpare b.ch with
      | some t => (s.loadTile t b.ch b.tpl .bound).bindTile b.ch t b.tpl
      | none => (s.modLp b.ch (fun l => { l with tile := none })).report 0x210 0xE0) (s.fndSpares m)

/-- The library slot that OVLTAB names for a wing and a mode. -/
def State.ovlSlot (s : State) (w m : Nat) : Option Nat := Tbl.get none s.cfg.ovltab (8 * w + m)

/-- A library slot's image as the cache takes it: none where it fails (R342). -/
def State.cacheSlot (s : State) (slot : Nat) (d : Option (List Byte)) : State :=
  let drop (s : State) : State := (s.modCfg (fun c => { c with cache := Tbl.put c.cache slot none })).cfgFault 4
  match d with
  | none => drop s
  | some b => match s.ovlCheck b with
    | .ok _ => s.modCfg (fun c => { c with cache := Tbl.put c.cache slot (some b) })
    | .error e => drop (s.cfgRefuse 0 true e)

/-- At C the cache takes every slot that OVLTAB names, where the Cellar is mounted (R342, R479). -/
def State.cacheFill (s : State) : State :=
  if s.cel.mount ≠ 2 then s
  else ((s.cfg.ovltab.filterMap (fun e => e.2)).eraseDups).foldl (fun s k => s.cacheSlot k (s.cel.unitData 3 k)) s

def State.setStage (s : State) (x : Nat) : State := s.wf 0x10 4 3 x
def State.stage (s : State) : Nat := s.rf 0x10 4 3

/-- Milliseconds since the release of the last reset, saturating (R494). -/
def State.bootMs (s : State) : Nat := min 65535 (s.since s.pwr.relAt / 500000)

/-- The commit in house tick C (R340): `b` are the bytes of image `m`, `src` is CFG_STAT fnd_src. -/
def State.fndCommit (s : State) (b : List Byte) (m : Img) (src : Nat) : State :=
  let s := { s with tickOld := [], found := {} }
  let s := m.recs.foldl (fun s r => s.fndRec r) s
  let s := s.fndStore m
  let s := (rangeFrom 0 128).foldl (fun s n => (s.commitAll n).writesTaken n) s
  let s := s.fndTiles m
  let s := (rangeFrom 0 128).foldl (fun s n => (s.cmpRefreshAll n).monRestart n true) s
  let s := (rangeFrom 0 128).foldl (fun s n => if (s.src n).fenced then
      s.modCh n (fun c => { c with st := .fenced, prev := c.st, cause := 0x17, transTs := s.htick }) else s) s
  let s := (rangeFrom 0 3).foldl (fun s d => s.almSweep d false) s
  let s := ((s.wf CFG 0 2 2).wf CFG 2 2 src).wr64 (CFG + 0x18) (BitVec.ofNat 64 m.build)
  let s := s.wr (CFG + 0x20) (BitVec.ofNat 32 m.ver)
  let key := m.sig.map (fun d => fld d 0 1)
  let s := s.wf (CFG + 0x24) 16 2 (key.getD 0)
  let s := s.modCfg (fun c => { c with commit := none, hostImg := if 2 ≤ src then some b else none, sigKey := key })
  let s := (m.ofType 0x70).foldl (fun s r => (s.dscInstall (fld r.data 0 1) ((r.data.drop 4).take 256)).1) s
  let s := (s.cfgDone 0).launch 0xB20
  let s : State := s.cacheFill
  let s : State := if s.cel.mount = 2 then s.calCacheAll else s
  let s := (s.setStage 4).wf 0x1C 0 16 s.bootMs
  (rangeFrom 0 8).foldl (fun s w => s.modMd w (fun x => { x with run := some 1 })) s

/-- No valid Foundation: fnd_state 3, and boot waits for a host (R340, R482). -/
def State.fndFailed (s : State) : State := ((s.wf CFG 0 2 3).setStage 2).modCfg (fun c => { c with commit := none })

/-- The two Foundation slots as read at boot: each is checked, and refused where it fails. -/
def State.fndSlot (s : State) (item : Nat) (d : Option (List Byte)) : State × Option (List Byte × Img) :=
  match d with
  | none => (if (s.cel.unitFind 1 item).isSome then s.cfgRefuse 0 false { code := 0x16 } else s, none)
  | some b => match s.fndCheck b with
    | .ok m => (s, some (b, m))
    | .error e => (s.cfgRefuse 0 false e, none)

/-- FOUNDATION_COMMIT (R340, R479, R482): a host's image that has been checked, or the better of the two slots once both
have been read. -/
def State.foundationCommit (s : State) : State :=
  match s.cfg.commit with
  | some (b, src) =>
    if s.cfgFenced then (s.cfgRefuse 0 false { code := 0x15 }).fndFailed
    else
      (match s.fndCheck b with
       | .ok m => s.fndCommit b m src
       | .error e => (s.cfgRefuse 0 false e).fndFailed)
  | none =>
    match s.cfg.bootA, s.cfg.bootB with
    | some a, some b =>
      if s.stage ≠ 1 then s
      else if s.cfgFenced then (s.cfgRefuse 0 false { code := 0x15 }).fndFailed
      else
        let ra := s.fndSlot 0 a
        let rb := ra.1.fndSlot 1 b
        let s := rb.1.modCfg (fun c => { c with bootA := none, bootB := none })
        (match ra.2, rb.2 with
         | some x, some y => if y.2.ver ≤ x.2.ver then s.fndCommit x.1 x.2 0 else s.fndCommit y.1 y.2 1
         | some x, none => s.fndCommit x.1 x.2 0
         | none, some y => s.fndCommit y.1 y.2 1
         | none, none => s.fndFailed)
    | _, _ => s

/-! ### Stores through the Cellar (R342, R351, R480) -/

/-- The Foundation slot not in use: the other one than the slot booted from, else slot A (log 17). -/
def State.freeSlot (s : State) : Nat := if s.rf CFG 2 2 = 0 then 1 else 0

/-- The engine hands a store to the Cellar and waits for its result. -/
def State.cfgStore (s : State) (op region item : Nat) (b : List Byte) : State :=
  let s := s.modCfg (fun c => { c with job := some ⟨op, 0, item, b⟩ })
  s.celRequest { id := 0, kind := .unitStore, who := 1, region := region, item := item, data := b }

/-- A Foundation that is to be stored: phases 1 and 2, and code 0x0B (R351). -/
def State.fndStoreCheck (s : State) (b : List Byte) : Except ImgErr Img :=
  match s.imgCheck false b with
  | .error e => .error e
  | .ok m => if m.ver < s.minVer then .error { code := 0x0B } else .ok m

/-- The result of the engine's request: a store is confirmed, or failed with code 0x16. -/
def State.cfgStored (s : State) (j : CfgJob) (r : CelRes) : State :=
  let s := s.modCfg (fun c => { c with job := none })
  if !r.ok then s.cfgRefuse j.op (j.op == 4) { code := 0x16 }
  else if j.op = 4 then (s.cacheSlot j.slot (some j.image)).cfgDone 4
  else s.cfgDone j.op

end Sys2Proof.Machine
end

