-- ==== Sys2Proof/Machine/Overlay.lean ====
section
/-!
DEFINITION. Applying an overlay (R343 to R348), the operations of CFG_CMD (R356), and the scrub engine (R352 to R354).
-/

namespace Sys2Proof.Machine

/-! ### The check of the meaning (R344) -/

/-- The bindings of an overlay: of two for a channel the later one (R335). -/
def Img.lastBinds (m : Img) : List Binding := m.binds.foldl (fun l b => l.filter (fun x => x.ch != b.ch) ++ [b]) []

/-- The binding changes the channel's template. -/
def State.bindSwaps (s : State) (b : Binding) : Bool := b.tpl != (s.lp b.ch).template

/-- The code of one binding. -/
def State.bindCode (s : State) (b : Binding) : Nat :=
  let st := (s.ch b.ch).st
  let ws := s.tplWords b.tpl
  if st ≠ .quenched ∧ st ≠ .fenced ∧ (b.k ≠ s.kOf b.ch ∨ b.phi ≠ s.phiS b.ch ∨ b.lat ≠ s.lat b.ch) then 0x10
  else if (s.tplInfo b.tpl).isNone ∨ b.k < 2 ∨ 3906250 < b.k ∨ !templateOk ws b.k b.phi b.lat then 0x0E
  else if st.live ∧ s.mode b.ch ≠ 2 ∧ !ws.any (fun w => pOp w == 0x18) then 0x0E
  else 0

/-- The checks of R344; `got` tiles are already loaded for this apply. -/
def State.ovlMeaning (s : State) (m : Img) (got : Nat) : Nat :=
  let bs := m.lastBinds
  let c := firstCode (bs.map s.bindCode)
  if c ≠ 0 then c
  else
    let idle := ((rangeFrom (32 * m.wing) 32).filter (fun t => (s.tile t).role == .idle)).length + got
    if idle < (bs.filter s.bindSwaps).length then 0x0F else 0

/-! ### Start, end and undoing of an apply (R344, R345, R347, R348) -/

/-- The register writes of an overlay, in image order. -/
def Img.writes (m : Img) : List (Nat × Word) := m.recs.flatMap (fun r =>
  if r.typ = 0x40 then (r.items 8).map (fun e => (fld e 0 4, BitVec.ofNat 32 (fld e 4 4)))
  else if r.typ = 0x12 then (List.zip (rangeFrom (fld r.data 1 1) (fld r.data 2 1)) (entries 4 (fld r.data 2 1) (r.data.drop 4))).map
    (fun e => (chA (fld r.data 0 1) (0x480 + 4 * e.1), BitVec.ofNat 32 (leNat e.2)))
  else [])

/-- Of two writes of one register in an image the later one stands (R335). -/
def Img.lastWrites (m : Img) : List (Nat × Word) := m.writes.foldl (fun l e => l.filter (fun x => x.1 != e.1) ++ [e]) []

/-- The engine writes a register: its value stands against a host write of the same tick, and the Stairwell's against it
(R347). -/
def State.ovlPut (s : State) (k : Nat) (v : Word) : State :=
  let rw : Word := match regRow k with
    | some r => BitVec.ofNat 32 r.rw
    | none => 0#32
  let swp := Tbl.get 0#32 s.tickSwp k
  let m := rw &&& ~~~swp
  let s := s.keepOld k
  let s := s.wr k ((s.rd k &&& ~~~m) ||| (v &&& m))
  let s := { s with tickSwp := Tbl.put s.tickSwp k (swp ||| rw) }
  if isCh k ∧ k % 0x1000 = 0x100 then (s.noteV (chOf k)).noteI (chOf k) else s

/-- A refused apply, and with it the mode entry that it belongs to (R339, R344, R489). -/
def State.apRefused (s : State) (r : ApReq) (e : ImgErr) : State :=
  let s := s.cfgRefuse r.op true e
  match r.entry with
  | none => s
  | some m => if m ≠ 0 ∧ (s.md r.wing).overlay then s.modeFail r.wing 0x03 else s

/-- The commit hold of a wing's channels. -/
def State.hold (s : State) (w : Nat) (on : Bool) : State := s.eachCh w (fun s n => s.modCc n (fun c => { c with applyHeld := on }))

/-- The writes of the checked overlay `m` (steps 1 to 3): tiles loaded, commits held, registers and sources written,
what they were before kept. -/
def State.apWrite (s : State) (r : ApReq) (m : Img) : State :=
  let a : Apply := { req := r, start := s.htick }
  let l := (m.lastBinds.filter s.bindSwaps).foldl (fun (x : State × List (Nat × Nat × Nat)) b =>
    match x.1.idleTile m.wing with
    | some t => (x.1.loadTile t b.ch b.tpl .loading, x.2 ++ [(b.ch, t, b.tpl)])
    | none => x) (s, [])
  let s := l.1.hold m.wing true
  let undo := m.lastWrites.map (fun e => (e.1, s.rd e.1))
  let s := m.lastWrites.foldl (fun s e => s.ovlPut e.1 e.2) s
  let fs := m.allItems 0x50 12
  let undoSrc := fs.map (fun e => (fld e 0 2, (s.src (fld e 0 2)).cfg))
  let s := (m.ofType 0x50).foldl (fun s r => s.fndRec r) s
  (s.wf CFG 8 3 m.wing).modCfg (fun c => { c with apply := some { a with tiles := l.2, undo := undo, undoSrc := undoSrc } })

/-- An apply starts (R343, R344), or is refused. -/
def State.apStart (s : State) (r : ApReq) : State :=
  let s := s.modCfg (fun c => { c with hostImg := none })
  if s.cfgFenced then s.apRefused r { code := 0x15 }
  else
    match s.ovlCheck r.image with
    | .error e => s.apRefused r e
    | .ok m =>
      if m.wing ≠ r.wing ∨ m.mode ≠ r.entry.getD (s.wingMode r.wing) then s.apRefused r { code := 0x0D }
      else
        let c := s.ovlMeaning m 0
        if c ≠ 0 then s.apRefused r { code := c } else s.apWrite r m

/-- The engine is free: the waiting request starts (R343). One that is refused leaves it free. -/
def State.apNext (s : State) : State :=
  if s.cfgBusy then s
  else
    match s.cfg.wait with
    | none => s
    | some r => (s.modCfg (fun c => { c with wait := none })).apStart r

/-- A request to apply starts, waits, or finds the waiting place taken; the flag says that it was taken in (R343). -/
def State.apRequest (s : State) (r : ApReq) : State × Bool :=
  if !s.cfgBusy ∧ s.cfg.wait.isNone then (s.apStart r, true)
  else if s.cfg.wait.isSome then (s.cfgRefuse r.op true { code := 0x14 }, false)
  else (s.modCfg (fun c => { c with wait := some r }), true)

/-- Everything the apply wrote goes back, and it is refused (R344, R348). -/
def State.apUndo (s : State) (a : Apply) (e : ImgErr) : State :=
  let s := a.undo.reverse.foldl (fun s x => (s.keepOld x.1).wr x.1 x.2) s
  let s := a.undoSrc.reverse.foldl (fun s x => s.setSrc x.1 { s.src x.1 with cfg := x.2 }) s
  let s := a.tiles.foldl (fun s x => s.releaseTile x.2.1) s
  let s := (s.hold a.req.wing false).modCfg (fun c => { c with apply := none })
  s.apRefused a.req e

/-- A binding of the overlay takes effect at A: the loop registers, and the loaded tile for the next boundary. -/
def State.apBind (s : State) (a : Apply) (b : Binding) : State :=
  let n := b.ch
  let s := s.wf (chA n 0x400) 0 4 b.tpl
  let s := s.wf (chA n 0x404) 0 22 b.k
  let s := s.wr (chA n 0x408) (BitVec.ofNat 32 (b.phi + 65536 * b.lat))
  match a.tiles.find? (fun x => x.1 == n) with
  | none => s
  | some x =>
    let s := match (s.lp n).repl with
      | some r => s.releaseTile r.tile
      | none => s
    s.modLp n (fun l => { l with repl := some ⟨x.2.1, x.2.2, true⟩ })

/-- The overlay counts as applied (R344, R355, R356). -/
def State.apFinish (s : State) (a : Apply) (m : Img) : State :=
  let w := a.req.wing
  let s := m.lastBinds.foldl (fun s b => s.apBind a b) s
  let s := (s.hold w false).modCfg (fun c => { c with apply := none })
  let s := s.wr64 (CFG + 0x30) s.htick
  let s := s.wr64 (CFG + 0x40 + 8 * w) (BitVec.ofNat 64 m.build)
  let s := (s.wf (CFG + 0x80) (3 * w) 3 m.mode).incWrap (CFG + 0x28) 0 16
  let s := (s.cfgDone a.req.op).launch (0x805 + 8 * w)
  match a.req.entry with
  | none => s
  | some t => if t ≠ 0 ∧ (s.md w).overlay then s.modeStep w t else s

/-- OVERLAY_APPLY_A: the repeated checks, then the end or the undoing (R344). -/
def State.applyA (s : State) : State :=
  match s.cfg.apply with
  | none => s
  | some a =>
    let s := match s.ovlCheck a.req.image with
      | .error e => s.apUndo a e
      | .ok m =>
        let c := s.ovlMeaning m a.tiles.length
        if c ≠ 0 then s.apUndo a { code := c } else s.apFinish a m
    s.apNext

/-- Op 7 (R348). -/
def State.cfgAbort (s : State) : State :=
  match s.cfg.apply with
  | none => s
  | some a => (s.apUndo a { code := 0x15 }).apNext

/-- CFG_ENGINE_FENCE (R348, R485): the apply is undone, the waiting one does not start. -/
def State.cfgFence (s : State) : State :=
  let s := s.takeFence 0x403
  let s := match s.cfg.apply with
    | none => s
    | some a => s.apUndo a { code := 0x15 }
  match s.cfg.wait with
  | none => s
  | some r =>
    let s := s.modCfg (fun c => { c with wait := none })
    match r.entry with
    | some m => if m ≠ 0 ∧ (s.md r.wing).overlay then s.modeFail r.wing 0x04 else s
    | none => s.cfgRefuse r.op true { code := 0x15 }

/-! ### Commands (R356) -/

/-- A command of ops 1 to 5 finds the engine busy, fenced, or free. -/
def State.cfgOp (s : State) (op : Nat) (f : State → State) : State :=
  let s := s.modCfg (fun c => { c with hostImg := none })
  if s.cfgBusy then s.cfgResult op { code := 0x14 }
  else if s.cfgFenced then s.cfgRefuse op true { code := 0x15 }
  else f s

/-- Op 1: the staging image is checked, a Foundation through all phases, an overlay also against the live controller. -/
def State.cfgCheck (s : State) : State := s.cfgOp 1 (fun s =>
  let b := s.stageImage
  if isOvl b then s.cfgTake 1 true (s.ovlCheck b) (fun s m =>
    let c := s.ovlMeaning m 0
    if c ≠ 0 then s.cfgRefuse 1 true { code := c } else s.cfgDone 1)
  else s.cfgTake 1 false (s.fndCheck b) (fun s _ => s.cfgDone 1))

/-- Op 2: the staging overlay is applied. -/
def State.cfgApply (s : State) (w : Nat) : State := s.cfgOp 2 (fun s => s.apStart { wing := w, image := s.stageImage, op := 2 })

/-- Op 3: a library slot is read, then applied. -/
def State.cfgApplySlot (s : State) (w k : Nat) : State := s.cfgOp 3 (fun s =>
  let s := s.modCfg (fun c => { c with job := some { op := 3, wing := w, slot := k } })
  s.celRequest { id := 0, kind := .unitRead, who := 1, region := 3, item := k })

/-- Op 4: the staging overlay is stored into a library slot. -/
def State.cfgStoreSlot (s : State) (k : Nat) : State := s.cfgOp 4 (fun s =>
  let b := s.stageImage
  s.cfgTake 4 true (s.imgCheck true b) (fun s _ => s.cfgStore 4 3 k (b.take (fld b 8 4))))

/-- Op 5: the staging Foundation is stored into the slot not in use. -/
def State.cfgStoreFnd (s : State) : State := s.cfgOp 5 (fun s =>
  let b := s.stageImage
  s.cfgTake 5 false (s.fndStoreCheck b) (fun s _ => s.cfgStore 5 1 s.freeSlot (b.take (fld b 8 4))))

/-- GLB_BOOT_CMD store (R480), with its status. -/
def State.bootStore (s : State) : State × Nat :=
  match s.cfg.hostImg with
  | none => (s, stLocked)
  | some b =>
    if s.cfgBusy ∨ s.cfgFenced then (s, stLocked)
    else (s.cfgOp 5 (fun s => s.cfgTake 5 false (s.fndStoreCheck b) (fun s _ => s.cfgStore 5 1 s.freeSlot (b.take (fld b 8 4)))), stDone)

/-- GLB_BOOT_CMD go (R479), with its status. `src` is the fnd_src of the path. -/
def State.bootGo (s : State) (src : Nat) : State × Nat :=
  if s.stage ≠ 2 then (s, stLocked)
  else
    let b := Mem.bytes s.pan 0 (s.rf 0x14 0 21)
    let s := s.setStage 3
    if s.cfgFenced then ((s.cfgRefuse 0 false { code := 0x15 }).fndFailed, stDone)
    else match s.fndCheck b with
      | .ok _ => ((s.wf CFG 0 2 1).modCfg (fun c => { c with commit := some (b, src) }), stDone)
      | .error e => ((s.cfgRefuse 0 false e).fndFailed, stDone)

/-! ### Results from the Cellar -/

/-- A result for the engine (who 1) or for boot (who 2). -/
def State.cfgResultIn (s : State) (r : CelRes) : State :=
  if r.who = 2 then
    let d := if r.ok then some r.data else none
    s.modCfg (fun c => if r.item = 0 then { c with bootA := some d } else { c with bootB := some d })
  else
    match s.cfg.job with
    | none => s
    | some j =>
      if j.op = 3 then
        let s := s.modCfg (fun c => { c with job := none })
        (if r.ok then s.apStart { wing := j.wing, image := r.data, op := 3 } else s.cfgRefuse 3 true { code := 0x16 }).apNext
      else (s.cfgStored j r).apNext

/-- Results in the Cellar's outbox that are for the engine or for boot are taken. -/
def State.cfgWatch (s : State) : State :=
  let mine (r : CelRes) : Bool := r.who == 1 || r.who == 2
  let rs := s.cel.results.filter mine
  if rs.isEmpty then s
  else rs.foldl (fun s r => s.cfgResultIn r) (s.modCel (fun c => { c with results := c.results.filter (fun r => !mine r) }))

/-! ### Scrubbing (R352 to R354) -/

/-- The scrub engine defers an item of a wing whose clocks are stopped or that an apply changes (R353). -/
def State.scrubDefers (s : State) (region index : Nat) : Bool :=
  let wing : Option Nat :=
    if region = 0 ∨ region = 1 then some (tileWing (index / 256))
    else if region = 6 then
      (let a := 4 * index
       if isCh a then some (wingOf (chOf a)) else if isWg a then some (wgOf a) else none)
    else none
  match wing with
  | none => false
  | some w => s.sleeping w || (match s.cfg.apply with
      | some a => a.req.wing == w
      | none => false)

/-- SCRUB_READ: an item is read; `differs` and `refBad` say what upsets show, `ends` that it ends a pass. -/
def State.scrubRead (s : State) (region index : Nat) (differs refBad ends : Bool) : State :=
  if !s.rb (CFG + 0x90) 0 ∨ s.scrubDefers region index then s
  else
    let s := if ends then s.incWrap (CFG + 0x98) 16 16 else s
    if s.cfg.refBad.contains (region, index) then s
    else if refBad then
      ((s.modCfg (fun c => { c with refBad := (region, index) :: c.refBad })).flag (CFG + 0x94) 1).cfgFault 7
    else if differs then
      let s := ((s.flag (CFG + 0x94) 0).incSat (CFG + 0x98) 0 16).wr (CFG + 0x9C) (BitVec.ofNat 32 (region + 16 * index))
      (s.report 0x404 0).launch 0xB22
    else s

end Sys2Proof.Machine
end

