-- ==== Sys2Proof/Machine/Porch.lean ====
section
/-!
DEFINITION. The Porch (chapter 15) but for its register accesses: ports, messages and sessions, responses, streams and
events, PTP, failover.
-/

namespace Sys2Proof.Machine

/-! ### Ports (R419, R475, R477, R478) -/

def State.port (s : State) (p : Nat) : Port := Tbl.get {} s.net.ports p
def State.modNet (s : State) (f : Net → Net) : State := { s with net := f s.net }
def State.setPort (s : State) (p : Nat) (x : Port) : State := s.modNet (fun n => { n with ports := Tbl.put n.ports p x })
def State.modPort (s : State) (p : Nat) (f : Port → Port) : State := s.setPort p (f (s.port p))

def State.prcFlag (s : State) (p i : Nat) : State := s.flag (prcA p 8) i
def State.prcFault (s : State) (p i : Nat) : State := (s.prcFlag p i).report (0x405 + p) i
/-- A message is dropped: drop_count. -/
def State.prcDrop (s : State) (p : Nat) : State := s.incSat (prcA p 0x14) 16 16

def State.portFenced (s : State) (p : Nat) : Bool := s.unitFenced (0x405 + p)
def State.bootSel (s : State) : Nat := s.rf 0x10 0 2

/-- The Porch accepts accesses before the commit (R477). -/
def State.porchOpen (s : State) : Bool := !s.committed && (s.bootSel == 2 || (s.bootSel != 1 && s.rf CFG 0 2 == 3))

/-- The port may run: enabled, not fenced, and not waiting for a Side Door boot (R475). -/
def State.portEnabled (s : State) (p : Nat) : Bool := s.rb (prcA p 0) 0 && !s.portFenced p && (s.committed || s.bootSel != 1)
def State.portOn (s : State) (p : Nat) : Bool := (s.port p).linkUp && s.portEnabled p

/-- The identity record, where the Cellar is mounted and it is valid (R478). -/
def State.identity (s : State) : Option (BitVec 48 × Word × BitVec 14) :=
  if s.cel.mount = 2 then (match s.cel.unitData 0 0 with
    | some d => Config.identity d
    | none => none) else none

/-- MAC address, IPv4 address, IPv6 addresses and node ID of a port (R420, R478). -/
def State.portMac (s : State) (p : Nat) : BitVec 48 :=
  if s.committed then (s.rd64 (prcA p 0x18)).setWidth 48
  else match s.identity with
    | some i => i.1
    | none => BitVec.ofNat 48 (0x02 * 2 ^ 40 + (s.rd64 0x004).toNat % 2 ^ 40)
def State.portIp4 (s : State) (p : Nat) : Word :=
  if s.committed then s.rd (prcA p 0x20) else match s.identity with
    | some i => i.2.1
    | none => 0#32
def State.nodeId (s : State) : Nat :=
  if s.committed then s.rf (PRC + 0x400) 0 14 else match s.identity with
    | some i => i.2.2.toNat
    | none => 0
/-- fe80::/64 with the modified EUI-64 of a MAC address. -/
def linkLocal (m : BitVec 48) : BitVec 128 :=
  BitVec.ofNat 128 (0xFE80 * 2 ^ 112 + (Nat.xor (bits m 24 24) 0x020000) * 2 ^ 40 + 0xFFFE * 2 ^ 24 + bits m 0 24)
def State.portIp6 (s : State) (p : Nat) : List (BitVec 128) :=
  if s.committed then
    (let a : BitVec 128 := s.rd (prcA p 0x24) ++ s.rd (prcA p 0x28) ++ s.rd (prcA p 0x2C) ++ s.rd (prcA p 0x30)
     if a = 0#128 then [] else [a])
  else [linkLocal (s.portMac p)]

/-- The ports for whose addresses port `p` answers (R438). -/
def State.answersFor (s : State) (p : Nat) : List Nat := if (s.port p).serving then [p, 1 - p] else [p]

/-- A port hands something to the MAC. -/
def State.sends (s : State) (p : Nat) (x : NetOut) : State := s.modPort p (fun t => { t with sent := t.sent ++ [x] })
/-- A message is handed to the MAC (PRC_CNT_TX). -/
def State.sendMsg (s : State) (p : Nat) (dst : List Byte) (udp : Nat) (b : List Byte) : State :=
  (s.sends p (.message dst udp b)).incWrap (prcA p 0x10) 0 32

/-- link_up falls (R446). -/
def State.linkFalls (s : State) (p : Nat) : State :=
  if (s.port p).linkUp then
    (s.modPort p (fun t => { t with linkUp := false, downAt := s.htick, foMs := s.rf 0xA404 2 8, tryAt := s.htick, try10 := false })).prcFault p 0
  else s

/-- PORT_BLOCK_LOCK: 10 ms of block lock without hi_ber (R419). -/
def State.blockLock (s : State) (p : Nat) : State :=
  let t := s.port p
  let sp := s.rf (prcA p 0) 1 2
  if !s.portEnabled p ∨ t.linkUp ∨ s.since t.tryAt < 5000000 then s
  else s.setPort p { t with linkUp := true, at25g := if sp = 1 ∧ s.committed then true else if sp = 2 ∧ s.committed then false else !t.try10 }

/-- SPEED_TRY_EXPIRY (R419; before the commit each port runs with speed = 0, R478). -/
def State.speedTry (s : State) (p : Nat) : State :=
  let t := s.port p
  if (s.rf (prcA p 0) 1 2 = 0 ∨ !s.committed) ∧ !t.linkUp ∧ s.portEnabled p ∧ 250000000 ≤ s.since t.tryAt then
    s.setPort p { t with tryAt := s.htick, try10 := !t.try10 }
  else s

/-! ### Frames that are no message (R420, R433, R438) -/

def State.member (s : State) (g : Nat) : Bool := s.rb (PRC + 0x444 + 4 * (g / 32)) (g % 32)
/-- The groups of which the node is a member, by their low 32 address bits (R433). -/
def State.groupAddrs (s : State) : List Word :=
  ((rangeFrom 0 256).filter s.member).map (fun g => BitVec.ofNat 32 (bits (s.rd (PRC + 0x440)) 8 24 * 256 + g))

/-- NETWORK_HOUSEKEEPING_FRAME (R419, R420). -/
def State.houseFrame (s : State) (p : Nat) (vid : Option (BitVec 12)) (f : HouseFrame) : State :=
  let c := s.rd (prcA p 0)
  let s := s.modPort p (fun t => { t with sent := [] })
  let own4 (a : Word) : Option Nat := if a = 0#32 then none else (s.answersFor p).find? (fun q => s.portIp4 q == a)
  let own6 (a : BitVec 128) : Option Nat := (s.answersFor p).find? (fun q => (s.portIp6 q).contains a)
  if !s.portOn p ∨ (!s.committed && !s.porchOpen) ∨ (bit c 5 ∧ s.committed ∧ vid ≠ some (BitVec.ofNat 12 (bits c 6 12))) then s
  else
    match f with
    | .arp a => match own4 a with
      | some q => s.sends p (.arpReply a (s.portMac q))
      | none => s
    | .neighbor a => match own6 a with
      | some q => s.sends p (.neighborAdv a (s.portMac q))
      | none => s
    | .echo4 a d => if (own4 a).isSome then s.sends p (.echo4 a d) else s
    | .echo6 a d => if (own6 a).isSome then s.sends p (.echo6 a d) else s
    | .query4 => if s.groupAddrs.isEmpty then s else s.sends p (.report4 s.groupAddrs)
    | .query6 => if s.groupAddrs.isEmpty then s
      else s.sends p (.report6 (s.groupAddrs.map (fun a => BitVec.ofNat 128 (0xFF15 * 2 ^ 112 + a.toNat))))
    | .fragment => (s.prcFlag p 2).prcDrop p
    | .options => (s.prcFlag p 2).prcDrop p
    | .badChecksum => (s.prcFlag p 2).prcDrop p
    | .badFcs => s.incSat (prcA p 0x14) 0 16
    | .pause => s
    | .tooLong => s

/-! ### Messages (R422, R423) -/

/-- The fields of a message header (Table "Claondea header"). -/
structure Msg where
  op : Nat
  node : Nat
  kind : Nat
  tag : Nat
  ack : Bool
  auth : Bool
  noReply : Bool
  seq : Nat
  sid : Nat
  key : Nat
  body : List Byte
  signed : List Byte
  mac : List Byte
deriving DecidableEq, Repr

def opKnown (o : Nat) : Bool := [0x01, 0x02, 0x03, 0x04, 0x05, 0x10, 0x11, 0x20, 0x30, 0x32, 0x40].contains o

/-- A datagram that meets R423 but for its node field; EVENT_NOTIFY only as an acknowledge. -/
def msgOf (b : List Byte) : Option Msg :=
  let fl := fld b 6 2
  let n := fld b 12 2
  let auth := fl / 4 % 2 == 1
  let ack := fl / 2 % 2 == 1
  let op := fld b 1 1
  if b.length < 16 ∨ fld b 0 1 ≠ 1 ∨ 3 * 2 ^ 14 ≤ fld b 2 2 ∨ 2 ^ 15 ≤ fld b 4 2 ∨ 32 ≤ fl ∨ 8192 < n
      ∨ b.length ≠ 16 + n + (if auth then 16 else 0) ∨ !(opKnown op || (op == 0x31 && ack && n == 0))
      ∨ (fl % 2 = 1 ∧ op ≠ 0x31) then none
  else some ⟨op, fld b 2 2 % 2 ^ 14, fld b 2 2 / 2 ^ 14, fld b 4 2, ack, auth, fl / 16 % 2 == 1, fld b 8 4,
             fld b 14 2 % 2 ^ 14, fld b 14 2 / 2 ^ 14, (b.drop 16).take n, b.take (16 + n), b.drop (16 + n)⟩

/-- The node field matches (R423, R477). -/
def State.nodeOk (s : State) (m : Msg) : Bool :=
  if m.kind = 0 then !s.committed || m.node == s.nodeId
  else if m.kind = 1 then decide (m.node < 256) && s.member m.node
  else m.kind == 2

/-- The key slot that signs a message of this kind (R423, R433), and its 32 bytes. -/
def State.msgKey (s : State) (m : Msg) : Nat := if m.kind = 0 then m.key else s.rf (PRC + 0x440) 0 2
def State.keyBytes (s : State) (k : Nat) : List Byte := (rangeFrom 0 8).flatMap (fun i => leBytes 4 (Tbl.get 0#32 s.net.keys (8 * k + i)).toNat)
def State.macOf (s : State) (k : Nat) (b : List Byte) : List Byte := (hmac256 (s.keyBytes k) b).take 16

/-- The authentication passes (R423, R477): none where it does, else whether auth_fail is set. -/
def State.authFails (s : State) (m : Msg) : Option Bool :=
  if !s.committed then (if m.auth then some false else none)
  else if m.auth then (if s.macOf (s.msgKey m) m.signed = m.mac then none else some true)
  else if s.rb (PRC + 0x404) 0 then some true else none

/-! ### Sessions (R424) -/

def State.sess (s : State) (i : Nat) : Session := Tbl.get {} s.net.sess i
def State.setSess (s : State) (i : Nat) (x : Session) : State := s.modNet (fun n => { n with sess := Tbl.put n.sess i x })

/-- The entry of a session, if it has one. -/
def State.findSess (s : State) (src : List Byte) (udp sid : Nat) : Option Nat :=
  (rangeFrom 0 16).find? (fun i => (s.sess i).live && (s.sess i).src == src && (s.sess i).udp == udp && (s.sess i).sid == sid)

/-- A free entry, or the one idle longest where that is 10 s or more. -/
def State.newSess (s : State) : Option Nat :=
  match (rangeFrom 0 16).find? (fun i => !(s.sess i).live) with
  | some i => some i
  | none =>
    let o := (rangeFrom 1 15).foldl (fun a i => if s.since (s.sess a).idleAt < s.since (s.sess i).idleAt then i else a) 0
    if 5000000000 ≤ s.since (s.sess o).idleAt then some o else none

/-- The subscriptions of a session entry end. -/
def State.dropSubs (s : State) (i : Nat) : State := s.modNet (fun n =>
  { n with subs := n.subs.map (fun e => if e.2.sess = i then (e.1, {}) else e), evs := n.evs.map (fun e => if e.2.sess = i then (e.1, {}) else e) })

/-- What a session does with sequence number `q`: 0 execute, 1 drop, 2 send the cached response again, 3 stale. -/
def Session.judge (x : Session) (q : Nat) (noReply : Bool) : Nat :=
  let d := (q + 2 ^ 32 - x.h) % 2 ^ 32
  let b := (x.h + 2 ^ 32 - q) % 2 ^ 32
  if 1 ≤ d ∧ d < 2 ^ 31 then 0
  else if b < 16 then
    (if bit x.doing b then 1
     else if bit x.done b && noReply then 1
     else if bit x.done b && x.cache.any (fun e => e.1 == q) then 2
     else 0)
  else 3

/-- The session takes sequence number `q` as the highest where it is newer. -/
def Session.seen (x : Session) (q : Nat) : Session :=
  let d := (q + 2 ^ 32 - x.h) % 2 ^ 32
  if 1 ≤ d ∧ d < 2 ^ 31 then
    { x with h := q, done := if d < 16 then x.done <<< d else 0#16, doing := if d < 16 then x.doing <<< d else 0#16 }
  else x

/-- Marks of sequence number `q`: executing or executed. -/
def Session.mark (x : Session) (q : Nat) (doing done : Bool) : Session :=
  let b := (x.h + 2 ^ 32 - q) % 2 ^ 32
  if b < 16 then { x with doing := putBit x.doing b doing, done := if done then setBit x.done b else x.done } else x

/-! ### Responses (R425, R426, R429) -/

/-- The bytes of a message: header, body, and the MAC where a key is given. -/
def State.message (s : State) (op node tag flags seq sid : Nat) (key : Option Nat) (body : List Byte) : List Byte :=
  let h := leBytes 1 1 ++ leBytes 1 op ++ leBytes 2 node ++ leBytes 2 tag ++ leBytes 2 (flags + 4 * b2n key.isSome)
    ++ leBytes 4 seq ++ leBytes 2 body.length ++ leBytes 2 (sid + 2 ^ 14 * (key.getD 0))
  let b := h ++ body
  match key with
  | some k => b ++ s.macOf k b
  | none => b

/-- A response with a status and a body; `counts` says that the request counts as executed (R426). -/
def State.respond (s : State) (r : NetReq) (status : Nat) (body : List Byte) (counts : Bool) : State :=
  if r.noReply then (if counts then s.setSess r.sess ((s.sess r.sess).mark r.seq false true) else s)
  else
    let b := s.message r.op s.nodeId r.tag (1 + 256 * status) r.seq (s.sess r.sess).sid r.key body
    let x : NetRsp := ⟨r.port, r.sess, if r.claimed then some r.tag else none, r.seq, counts && decide (body.length ≤ 2016), b⟩
    let s := if counts then s else s.setSess r.sess ((s.sess r.sess).mark r.seq false false)
    s.modNet (fun n => { n with rsps := n.rsps ++ [x] })

/-- The tag is held, by a sweep or by a network request (R162, R426). -/
def State.tagHeld (s : State) (t : Nat) : Bool := s.netTags.contains t || (s.tagCtx t).isSome

/-- A message of a known session is taken in, answered from the cache, or dropped (R424, R426). -/
def State.msgSeq (s : State) (p i : Nat) (m : Msg) : State :=
  let x := { s.sess i with idleAt := s.htick }
  let s := s.setSess i x
  let key := if m.auth then some (s.msgKey m) else none
  match x.judge m.seq m.noReply with
  | 0 =>
    let uni := m.kind == 0 && !m.noReply
    let held := uni && s.tagHeld m.tag
    let r : NetReq := ⟨p, i, m.op, m.tag, m.seq, m.noReply, key, uni && !held, m.body⟩
    let s := s.incWrap (prcA p 0x0C) 0 32
    let s := s.setSess i ((x.seen m.seq).mark m.seq (!held) false)
    if held then s.respond r 0x05 [] false
    else
      let s := if uni then { s with netTags := m.tag :: s.netTags } else s
      s.modNet (fun n => { n with reqs := n.reqs ++ [r] })
  | 1 => s.prcDrop p
  | 2 =>
    let b := match x.cache.find? (fun e => e.1 == m.seq) with
      | some e => e.2
      | none => []
    (s.incWrap (prcA p 0x0C) 0 32).modNet (fun n => { n with rsps := n.rsps ++ [⟨p, i, none, m.seq, false, b⟩] })
  | _ => (s.prcFlag p 4).prcDrop p

/-- A message that R423 accepts finds or opens its session (R424). -/
def State.msgSession (s : State) (p : Nat) (d : Datagram) (m : Msg) : State :=
  match s.findSess d.src d.sport.toNat m.sid with
  | some i => s.msgSeq p i m
  | none =>
    match s.newSess with
    | none => (s.prcFlag p 7).prcDrop p
    | some i =>
      let s := if (s.sess i).live then s.dropSubs i else s
      let h := (m.seq + 2 ^ 32 - 1) % 2 ^ 32
      (s.setSess i { live := true, src := d.src, udp := d.sport.toNat, sid := m.sid, h := h, idleAt := s.htick }).msgSeq p i m

/-- The datagram reaches the command engine of port `p`: port, VLAN, address and UDP port fit, and the door is open. -/
def State.reaches (s : State) (p : Nat) (d : Datagram) : Bool :=
  let c := s.rd (prcA p 0)
  s.portOn p && (s.committed || s.porchOpen) && (!bit c 5 || !s.committed || d.vid == some (BitVec.ofNat 12 (bits c 6 12)))
    && (s.answersFor p).contains d.addr.val && s.rf (prcA d.addr.val 0x34) 0 16 == d.dport.toNat

/-- CLAONDEA_MESSAGE (R423, R424). An acknowledge is counted; EVENT_NOTIFY_ACK acts on it. -/
def State.msgIn (s : State) (p : Nat) (d : Datagram) : State :=
  if !s.reaches p d then s
  else
    match msgOf d.payload with
    | none => (s.prcFlag p 2).prcDrop p
    | some m =>
      if !s.nodeOk m then (s.prcFlag p 2).prcDrop p
      else
        match s.authFails m with
        | some f => (if f then s.prcFlag p 3 else s).prcDrop p
        | none => if m.op = 0x31 then s.incWrap (prcA p 0x0C) 0 32 else s.msgSession p d m

/-- RESPONSE_HANDOVER: the oldest response of a port goes to the MAC (R425, R426). -/
def State.handOverRsp (s : State) (p : Nat) : State :=
  match s.net.rsps.find? (fun r => r.port == p) with
  | none => s
  | some r =>
    let s := s.modNet (fun n => { n with rsps := n.rsps.erase r })
    let x := s.sess r.sess
    let s := (s.modPort p (fun t => { t with sent := [] })).sendMsg p x.src x.udp r.bytes
    let s := match r.tag with
      | some t => { s with netTags := s.netTags.erase t }
      | none => s
    let fresh := bit x.doing ((x.h + 2 ^ 32 - r.seq) % 2 ^ 32)
    if !fresh then s
    else
      let x := x.mark r.seq false true
      s.setSess r.sess (if r.keep then { x with cache := ((r.seq, r.bytes) :: x.cache.filter (fun e => e.1 != r.seq)).take 16 } else x)

/-- The oldest request with opcode `op` that port `p` has accepted, taken out of the queue, goes to `f`. -/
def State.netOp (s : State) (p op : Nat) (f : State → NetReq → State) : State :=
  match s.net.reqs.find? (fun r => r.port == p && r.op == op) with
  | none => s
  | some r => f (s.modNet (fun n => { n with reqs := n.reqs.erase r })) r

/-- PING (R429). -/
def State.ping (s : State) (p : Nat) : State := s.netOp p 0x01 (fun s r =>
  if r.body ≠ [] then s.respond r 0x08 [] true
  else s.respond r 0x00 (leBytes 8 s.htick.toNat ++ leBytes 2 s.nodeId ++ leBytes 2 0) true)

/-- An operation that R477 closes before the commit. -/
def State.netOpen (s : State) (r : NetReq) (f : State → State) : State := if s.committed then f s else s.respond r 0x02 [] true

/-! ### Subscriptions (R429, R430, R432) -/

def State.strm (s : State) (i : Nat) : StreamSub := Tbl.get {} s.net.subs i
def State.setStrm (s : State) (i : Nat) (x : StreamSub) : State := s.modNet (fun n => { n with subs := Tbl.put n.subs i x })
def State.evSub (s : State) (i : Nat) : EventSub := Tbl.get {} s.net.evs i
def State.setEvSub (s : State) (i : Nat) (x : EventSub) : State := s.modNet (fun n => { n with evs := Tbl.put n.evs i x })

/-- STREAM_SUB. -/
def State.streamSub (s : State) (p : Nat) : State := s.netOp p 0x20 (fun s r => s.netOpen r (fun s =>
  let b := r.body
  let on := fld b 1 1 % 2 == 1
  if b.length ≠ 40 ∨ 31 < fld b 0 1 ∨ 1 < fld b 1 1 ∨ (on ∧ (fld b 2 2 = 0 ∨ fld b 4 2 < 8 ∨ 496 < fld b 4 2)) then s.respond r 0x08 [] true
  else
    let x : StreamSub := if on then { on := true, sess := r.sess, port := p, key := r.key, flushUs := fld b 2 2, maxWords := fld b 4 2,
                                      dest := fld b 6 2, mask := fld b 8 32 } else {}
    (s.setStrm (fld b 0 1) x).respond r 0x00 [] true))

/-- EVENT_SUB. -/
def State.eventSub (s : State) (p : Nat) : State := s.netOp p 0x30 (fun s r => s.netOpen r (fun s =>
  let b := r.body
  let on := fld b 1 1 % 2 == 1
  if b.length ≠ 36 ∨ 7 < fld b 0 1 ∨ 3 < fld b 1 1 ∨ (on ∧ fld b 2 2 = 0) then s.respond r 0x08 [] true
  else
    let x : EventSub := if on then { on := true, sess := r.sess, port := p, key := r.key, autoClr := fld b 1 1 / 2 == 1,
                                     holdUs := fld b 2 2, mask := fld b 4 32 } else {}
    (s.setEvSub (fld b 0 1) x).respond r 0x00 [] true))

/-- EVENT_FIRE: ev_net_k for every bit set (R434). -/
def State.eventFire (s : State) (p : Nat) : State := s.netOp p 0x32 (fun s r => s.netOpen r (fun s =>
  if r.body.length ≠ 4 ∨ fld r.body 2 2 ≠ 0 then s.respond r 0x08 [] true
  else
    let v := fld r.body 0 2
    ((rangeFrom 0 16).foldl (fun s k => if v / 2 ^ k % 2 = 1 then s.launch (0xD00 + k) else s) s).respond r 0x00 [] true))

/-- MC_START: T reaches every context with the start set (R435). -/
def State.mcStart (s : State) (p : Nat) : State := s.netOp p 0x40 (fun s r => s.netOpen r (fun s =>
  if r.body.length ≠ 8 ∨ 15 < fld r.body 0 1 ∨ fld r.body 1 1 ≠ 0 then s.respond r 0x08 [] true
  else (s.swpMulticast (fld r.body 0 1) (BitVec.ofNat 48 (fld r.body 2 6))).respond r 0x00 [] true))

/-! ### Streams (R430, R431, R438) -/

/-- The port that serves a Chute, and its item size (PRC_SMAP); none where it has none. -/
def State.smap (s : State) (c : Nat) : Option (Nat × Nat) :=
  let k := PRC + 0x800 + 4 * (c / 4)
  let q := s.rf k (8 * (c % 4)) 2
  let m := s.rf k (8 * (c % 4) + 2) 2
  if q = 0 ∨ q = 3 ∨ m = 3 then none
  else
    let p := q - 1
    some (if (s.port p).moved then 1 - p else p, if m = 0 then 1 else if m = 1 then 4 else 8)

def StreamSub.covers (x : StreamSub) (c : Nat) : Bool := x.on && x.mask / 2 ^ c % 2 == 1

/-- Words that lie in the open datagrams of a port (R421). -/
def State.txWords (s : State) (p : Nat) : Nat :=
  (s.net.subs.map (fun e => (e.2.grams.map (fun g => match s.smap g.1 with
    | some (q, _) => if q = p then g.2.words.length else 0
    | none => 0)).sum)).sum

/-- `m` words popped one after the other; the ticks between them lie inside the command. -/
def State.popItem (s : State) (c u : Nat) (e : Ecc) : Nat → State × List DWord
  | 0 => (s, [])
  | m + 1 =>
    let x := s.chuTick c
    let s := s.setChute c { x with popped := none, lvl0 := x.level }
    let r := s.chuPop c u e
    let t := State.popItem r.1 c u .clean m
    match r.2 with
    | some v => (t.1, v.1 :: t.2)
    | none => t

/-- An open datagram is sent (R430); the sequence number of the message is open (log 2). -/
def State.streamSend (s : State) (i c p : Nat) : State :=
  let x := s.strm i
  let g := Tbl.get {} x.grams c
  let (s, q) := s.freeW
  let b := leBytes 1 c ++ leBytes 1 g.m ++ leBytes 2 g.items ++ leBytes 4 g.num ++ leBytes 2 (min g.dropped 65535) ++ leBytes 2 0
    ++ leBytes 4 s.htick.toNat ++ g.words.flatMap (fun w => leBytes 8 w.toNat)
  let y := s.sess x.sess
  let msg := s.message 0x21 s.nodeId 0 0 q.toNat y.sid x.key b
  let s := s.sendMsg p y.src (if x.dest = 0 then y.udp else x.dest) msg
  s.setStrm i { x with grams := Tbl.put x.grams c { num := (g.num + 1) % 2 ^ 32 } }

/-- An item enters a subscription's open datagram, or is dropped for want of room (R430, R431). -/
def State.streamAdd (s : State) (p c m : Nat) (ws : List DWord) (i : Nat) : State :=
  let s := if (s.strm i).maxWords < (Tbl.get {} (s.strm i).grams c).words.length + m then s.streamSend i c p else s
  let x := s.strm i
  let g := Tbl.get {} x.grams c
  if 32768 < s.txWords p + m then
    (s.setStrm i { x with drops := min (x.drops + 1) 65535, grams := Tbl.put x.grams c { g with dropped := g.dropped + 1 } }).prcFlag p 5
  else
    let first := if g.words.isEmpty then s.htick else g.first
    let g : Dgram := { g with words := g.words ++ ws, items := g.items + 1, m := m, first := first }
    s.setStrm i { x with grams := Tbl.put x.grams c g }

/-- STREAM_ITEM_COPY (R430, R378). -/
def State.streamCopy (s : State) (c : Nat) (e : Ecc) : State :=
  match s.smap c with
  | none => s
  | some (p, m) =>
    let is := (rangeFrom 0 32).filter (fun i => (s.strm i).covers c)
    if !s.portOn p ∨ is.isEmpty ∨ s.chuLevel c < m then s
    else
      let s := s.modPort p (fun t => { t with sent := [] })
      let r := s.popItem c p e m
      if r.2.length < m ∨ (4 ≤ m ∧ r.2.getLast? = some allOnes) then r.1
      else is.foldl (fun s i => s.streamAdd p c m r.2 i) r.1

/-- STREAM_DATA_SEND: the datagram is full, or flush_us has passed since its first item. -/
def State.streamDue (s : State) (i c : Nat) : State :=
  let x := s.strm i
  let g := Tbl.get {} x.grams c
  match s.smap c with
  | none => s
  | some (p, _) =>
    if x.on ∧ !g.words.isEmpty ∧ s.portOn p ∧ (x.maxWords ≤ g.words.length ∨ 500 * x.flushUs ≤ s.since g.first) then
      (s.modPort p (fun t => { t with sent := [] })).streamSend i c p
    else s

/-! ### Event notifications (R432) -/

/-- The port through which a subscription's messages leave. -/
def State.subPort (s : State) (p : Nat) : Nat := if (s.port p).moved then 1 - p else p

/-- HWY_WATCH as one number, bit j for Hallway channel j. -/
def State.watchBits (s : State) : Nat := (rangeFrom 0 8).foldl (fun v i => v + (s.rd (HWY + 0x10 + 4 * i)).toNat * 2 ^ (32 * i)) 0

/-- EVENT_NOTIFY; the sequence number of the message is open (log 2). -/
def State.notify (s : State) (i : Nat) : State :=
  let x := s.evSub i
  let v := Nat.land s.watchBits x.mask
  let due := match x.lastAt with
    | none => true
    | some t => decide (500 * x.holdUs ≤ s.since t)
  let p := s.subPort x.port
  if !x.on ∨ v = 0 ∨ !due ∨ !s.portOn p then s
  else
    let (s, q) := s.freeW
    let y := s.sess x.sess
    let b := s.message 0x31 s.nodeId 0 0 q.toNat y.sid x.key (leBytes 8 s.htick.toNat ++ leBytes 32 v)
    let s := (s.modPort p (fun t => { t with sent := [] })).sendMsg p y.src y.udp b
    let s := s.setEvSub i { x with lastAt := some s.htick, body := b, sends := 1, sentAt := s.htick }
    if !x.autoClr then s
    else (rangeFrom 0 8).foldl (fun s j =>
      let k := HWY + 0x10 + 4 * j
      let clr : Word := BitVec.ofNat 32 (v / 2 ^ (32 * j)) &&& ~~~(Tbl.get 0#32 s.tickSet k)
      s.wr k (s.rd k &&& ~~~clr)) s

/-- NOTIFY_RESEND: every 1 ms, up to 8 sends; then notify_lost. -/
def State.notifyAgain (s : State) (i : Nat) : State :=
  let x := s.evSub i
  let p := s.subPort x.port
  if !x.on ∨ x.body.isEmpty ∨ s.since x.sentAt < 500000 then s
  else if 8 ≤ x.sends then (s.setEvSub i { x with body := [], sends := 0 }).prcFault p 6
  else
    let y := s.sess x.sess
    let s := (s.modPort p (fun t => { t with sent := [] })).sendMsg p y.src y.udp x.body
    s.setEvSub i { x with sends := x.sends + 1, sentAt := s.htick }

/-- EVENT_NOTIFY_ACK. -/
def State.notifyAck (s : State) (i : Nat) : State := s.setEvSub i { s.evSub i with body := [], sends := 0 }

/-! ### Time of day (R436, R437) -/

/-- The clock is moved by `ns` nanoseconds. -/
def Tod.shift (t : Tod) (ns : Int) : Tod :=
  let n : Int := (t.sec.toNat : Int) * todSecond + t.sub + ns * (2 ^ 39 : Int)
  { t with sec := BitVec.ofInt 48 (n / todSecond), sub := (n % todSecond).toNat }

/-- The rate correction after a Sync: its gains are open (log 2). -/
def State.freeAdj (s : State) : State × Int := let r := s.freeW; (r.1, r.2.toInt)

/-- PTP_MESSAGE. -/
def State.ptp (s : State) (m : PtpMsg) : State :=
  let t := s.tod
  if t.st = 0 then s
  else
    match m with
    | .announce => { s with tod := { t with annAt := s.htick, st := if t.st = 1 ∨ t.st = 4 then 2 else t.st } }
    | .sync ofs =>
      if t.st = 1 ∨ t.st = 4 then s
      else
        let w : Word := if ofs < -(2 ^ 31) then 0x80000000#32 else if 2 ^ 31 - 1 < ofs then 0x7FFFFFFF#32 else BitVec.ofInt 32 ofs
        let t := { t with offset := w }
        if 1000000 < ofs.natAbs then ({ s with tod := { t.shift (-ofs) with run := 0 } }).flag (PRC + 0x494) 1
        else
          let (s, a) := s.freeAdj
          let run := if ofs.natAbs < 100 then min (t.run + 1) 16 else 0
          { s with tod := { t with adj := a, run := run, st := if run = 16 then 3 else t.st } }

/-- ANNOUNCE_TIMEOUT: three announce timeouts without a master. -/
def State.annTimeout (s : State) : State :=
  if s.tod.st = 2 ∨ s.tod.st = 3 then ({ s with tod := { s.tod with st := 4, run := 0 } }).flag (PRC + 0x494) 0 else s

/-- ptp_en is written. -/
def State.ptpEnable (s : State) (old new : Bool) : State :=
  if old = new then s else { s with tod := { s.tod with st := if new then 1 else 0, run := 0, adj := if new then s.tod.adj else 0 } }

/-! ### Failover (R438, R439) -/

/-- An open datagram whose words are lost. -/
def Dgram.lost (g : Dgram) : Dgram := { g with words := [], items := 0, dropped := g.dropped + g.items }

/-- A subscription after the loss of the open datagrams of the Chutes that meet `mine`. -/
def StreamSub.lose (x : StreamSub) (mine : Nat → Bool) : StreamSub :=
  let n := ((x.grams.filter (fun g => mine g.1)).map (fun g => g.2.items)).sum
  { x with drops := min (x.drops + n) 65535, grams := x.grams.map (fun g => if mine g.1 then (g.1, g.2.lost) else g) }

/-- What lies in the open datagrams of a failed port is lost and counted. -/
def State.txLost (s : State) (p : Nat) : State :=
  let mine (c : Nat) : Bool := match s.smap c with
    | some (q, _) => q == p
    | none => false
  s.modNet (fun n => { n with subs := n.subs.map (fun e => (e.1, e.2.lose mine)) })

/-- The other port takes over (R438). -/
def State.failNow (s : State) (p : Nat) : State :=
  let q := 1 - p
  if !s.rb (PRC + 0x404) 1 ∨ (s.port p).moved ∨ (s.port q).moved ∨ s.portFenced q then s
  else
    let s := s.txLost p
    let s := s.modPort p (fun t => { t with moved := true })
    let s := s.modPort q (fun t => { t with serving := true, sent := [.announce (s.portIp4 p) ((s.portIp6 p).headD 0#128) (s.portMac q)] })
    (s.prcFault p 1).prcFault q 1

/-- FAILOVER: on a fence of the port (R304), or after fo_ms without link. -/
def State.failover (s : State) (p : Nat) : State :=
  let k := 0x405 + p
  if s.fences.contains k then
    let s := s.takeFence k
    ((s.modPort p (fun t => { t with linkUp := false, downAt := s.htick, foMs := s.rf 0xA404 2 8 })).failNow p)
  else if !(s.port p).linkUp ∧ 500000 * (s.port p).foMs ≤ s.since (s.port p).downAt then s.failNow p
  else s

/-- PRC_CMD failback (R439). -/
def State.failback (s : State) : State :=
  (rangeFrom 0 2).foldl (fun s p =>
    if (s.port p).moved ∧ (s.port p).linkUp ∧ !s.portFenced p then
      let s := s.modPort p (fun t => { t with moved := false })
      s.modPort (1 - p) (fun t => { t with serving := false })
    else s) s

/-- PRC_CMD clr_sessions (R446). -/
def State.clrSessions (s : State) : State := s.modNet (fun n => { n with sess := [], subs := [], evs := [] })

end Sys2Proof.Machine
end

