-- ==== Sys2Proof/Machine/Keeper.lean ====
section
/-!
DEFINITION. The Keeper and its mailbox (R350, R443 to R445, R447, R481), and the flags of the Side Door (R442, R447).
-/

namespace Sys2Proof.Machine

def KPR : Nat := 0xD100
def State.modKpr (s : State) (f : Kpr → Kpr) : State := { s with kpr := f s.kpr }
def State.kprFlag (s : State) (i : Nat) : State := s.flag KPR i
def State.kprFault (s : State) (i : Nat) : State := (s.kprFlag i).report 0x421 i
def State.kprFenced (s : State) : Bool := s.unitFenced 0x421

/-! ### Start and activation (R350, R481) -/

/-- KEEPER_START: after the mount, from the image that last reported ready. -/
def State.kprStart (s : State) : State :=
  if s.cel.mount = 2 ∧ !s.kpr.running ∧ !s.kprFenced then
    s.modKpr (fun k => { k with running := true, ready := false, startAt := s.htick, image := k.boot })
  else s

/-- KEEPER_READY: the running image becomes the boot image. -/
def State.kprReady (s : State) : State :=
  if s.kpr.running ∧ !s.kpr.ready then s.modKpr (fun k => { k with ready := true, boot := k.image, activating := false }) else s

/-- KEEPER_READY_TIMEOUT: 2 s after a start without ready, the other image starts, with kpr_fallback. -/
def State.kprReadyTimeout (s : State) : State :=
  if s.kpr.running ∧ !s.kpr.ready ∧ 1000000000 ≤ s.since s.kpr.startAt then
    (s.modKpr (fun k => { k with image := 1 - k.image, startAt := s.htick, activating := false })).cfgFault 5
  else s

/-- CFG_CMD op 6 (R350, R356), with its status. -/
def State.kprActivate (s : State) : State × Nat :=
  let s := s.modCfg (fun c => { c with hostImg := none })
  if s.cfgBusy then (s.cfgResult 6 { code := 0x14 }, stDone)
  else if !s.anyService ∨ !s.kpr.loaded ∨ s.kprFenced then (s, stLocked)
  else
    let s := s.modKpr (fun k => { k with running := true, ready := false, activating := true, image := 1 - k.image, startAt := s.htick, loaded := false })
    (s.cfgDone 6, stDone)

/-- KEEPER_FENCE (R304): the Keeper is halted. -/
def State.kprFence (s : State) : State :=
  let s := s.takeFence 0x421
  s.modKpr (fun k => { k with running := false, ready := false, activating := false })

/-- KEEPER_WDOG and KEEPER_FAULT (R447). -/
def State.kprWdog (s : State) : State := if s.kpr.running then s.kprFault 2 else s
def State.kprInternal (s : State) : State := if s.kpr.running then s.kprFault 1 else s

/-! ### The mailbox (R443) -/

/-- KPR_DOOR_RING, with its access status. -/
def State.kprRing (s : State) (p : Path) : State × Nat :=
  if s.kpr.cmd.isSome ∨ !s.kpr.running ∨ s.kprFenced ∨ s.kpr.activating then (s.kprFlag 0, 0x06)
  else
    let args := (rangeFrom 0 4).map (fun i => s.rd (KPR + 8 + 4 * i))
    (s.modKpr (fun k => { k with cmd := some ⟨s.rf (KPR + 4) 0 8, args, p, s.htick, none⟩ }), stDone)

/-- The running command has come to its result. -/
def State.kprResult (s : State) (code : Nat) (res : List Word) : State :=
  s.modKpr (fun k => { k with cmd := k.cmd.map (fun c => { c with result := some (code, res) }) })

/-- The command of op `op`, if it is under way and has no result yet, goes on with `f`. -/
def State.kprOp (s : State) (op : Nat) (f : State → List Nat → State) : State :=
  match s.kpr.cmd with
  | none => s
  | some c => if c.op = op ∧ c.result = none ∧ s.kpr.running then f s (c.args.map BitVec.toNat) else s

/-- The command ends with a result: KPR_STAT, KPR_RES and done. -/
def State.kprEnd (s : State) (code : Nat) (res : List Word) : State :=
  let s := (s.wf (KPR + 0x1C) 8 8 code)
  let s := (rangeFrom 0 4).foldl (fun s i => s.wr (KPR + 0x20 + 4 * i) (res.getD i 0#32)) s
  (s.modKpr (fun k => { k with cmd := none })).kprFlag 3

/-- MAILBOX_COMMAND_END; an op that R444 does not list ends with result 0x01. -/
def State.kprCmdEnd (s : State) : State :=
  match s.kpr.cmd with
  | none => s
  | some c =>
    match c.result with
    | some (code, res) => s.kprEnd code res
    | none => if s.kpr.running ∧ (c.op = 0 ∨ 7 < c.op) then s.kprEnd 0x01 [] else s

/-- The bound of a command in house ticks (Table "Mailbox commands"); an unknown op has none of its own, and takes the
shortest. -/
def kprBound (op : Nat) : Nat := if op = 2 then 5000000000 else if 3 ≤ op ∧ op ≤ 7 then 500000000 else 5000000

/-- MAILBOX_TIMEOUT. -/
def State.kprTimeout (s : State) : State :=
  match s.kpr.cmd with
  | none => s
  | some c => if kprBound c.op < s.since c.start then s.kprEnd 0x07 [] else s

/-! ### Commands (R444, R445) -/

/-- image_ver of a Keeper image in the Cellar; of an image that is not there it is open (log 2). -/
def State.kprVer (s : State) (i : Nat) : State × Word :=
  match s.cel.unitData 2 i with
  | some d => (s, BitVec.ofNat 32 (fld d 12 4))
  | none => s.freeW

/-- INFO. -/
def State.kprInfo (s : State) : State := s.kprOp 1 (fun s _ =>
  let a := s.kprVer 0
  let b := a.1.kprVer 1
  b.1.kprResult 0 [a.2, b.2, BitVec.ofNat 32 (s.kpr.image + 2 * b2n s.kpr.ready)])

/-- The image that IMG_LOAD checks: its version, or none where it is refused (R445). -/
def State.kprImage (s : State) (b : List Byte) : Option Nat :=
  let len := fld b 8 4
  if hdrCode .kpr b ≠ 0 ∨ b.length ≠ len then none
  else
    match recWalk .kpr len (len / 12 + 1) (b.drop 48) 48 {} with
    | .error _ => none
    | .ok w =>
      match w.endOfs with
      | none => none
      | some e =>
        let ver := fld b 12 4
        let sig : Bool := match w.sig with
          | some d => sigCode d == 0 && s.sigCheck d (b.take e) == 0
          | none => !s.secureEn
        if w.n = fld b 20 4 ∧ sig ∧ s.minVer ≤ ver then some ver else none

/-- IMG_LOAD: the image is checked, and its store begins. -/
def State.kprLoad (s : State) : State := s.kprOp 2 (fun s a =>
  let bank := a.getD 0 0
  let len := a.getD 1 0
  if 63 < bank ∨ s.owner bank ≠ 6 ∨ len = 0 ∨ 0x80000 < len then s.kprResult 0x02 []
  else
    let b := s.panBytes bank 0 len
    match s.kprImage b with
    | none => s.kprResult 0x04 []
    | some _ =>
      if s.cel.queue.any (fun r => r.who == 3) ∨ s.cel.results.any (fun r => r.who == 3) then s
      else s.celRequest { id := 0, kind := .unitStore, who := 3, region := 2, item := 1 - s.kpr.image, data := b })

/-- The result of the Keeper's store: res0 is the image's version, and the image counts as loaded and checked. -/
def State.kprStored (s : State) (r : CelRes) : State :=
  match s.kpr.cmd with
  | none => s
  | some c =>
    if c.op ≠ 2 ∨ c.result ≠ none then s
    else if r.ok then
      let b := s.panBytes ((c.args.getD 0 0#32).toNat % 64) 0 16
      (s.modKpr (fun k => { k with loaded := true })).kprResult 0 [BitVec.ofNat 32 (fld b 12 4)]
    else s.kprResult 0x05 []

/-- Results in the Cellar's outbox that are for the Keeper are taken. -/
def State.kprWatch (s : State) : State :=
  let rs := s.cel.results.filter (fun r => r.who == 3)
  if rs.isEmpty then s
  else rs.foldl (fun s r => s.kprStored r) (s.modCel (fun c => { c with results := c.results.filter (fun r => r.who != 3) }))

/-- A fuse command: allowed in SERVICE of all wings with the key word (R444). -/
def State.fuseOp (s : State) (op : Nat) (f : State → List Nat → State) : State := s.kprOp op (fun s a =>
  if !s.allService ∨ a.getD 1 0 ≠ 0x4E525542 then s.kprResult 0x03 [] else f s a)

/-- Bits of which the spec leaves open whether they are set. -/
def State.freeMask (s : State) : Nat → State × Nat
  | 0 => (s, 0)
  | n + 1 =>
    let r := s.freeD
    let t := State.freeMask r.1 n
    (t.1, r.2.toNat + 2 ^ 64 * t.2)

/-- The fuse bits of `m` are burned; where the verification fails, which of them are is open (log 2). -/
def State.burn (s : State) (m : Nat) (ok : Bool) : State :=
  if ok then ({ s with fuses := s.fuses ||| BitVec.ofNat 2048 m }).kprResult 0 []
  else
    let r := s.freeMask 32
    ({ r.1 with fuses := s.fuses ||| BitVec.ofNat 2048 (Nat.land m r.2) }).kprResult 0x06 []

/-- FUSE_KEY. -/
def State.fuseKey (s : State) (ok : Bool) : State := s.fuseOp 3 (fun s a =>
  let k := a.getD 0 0
  let bank := a.getD 2 0
  let ofs := a.getD 3 0
  if 3 < k ∨ 63 < bank ∨ s.owner bank ≠ 6 ∨ 0x80000 < ofs + 48 ∨ bits s.fuses (128 + 384 * k) 384 ≠ 0 then s.kprResult 0x02 []
  else s.burn (leNat (s.panBytes bank ofs 48) * 2 ^ (128 + 384 * k)) ok)

/-- FUSE_REVOKE. -/
def State.fuseRevoke (s : State) (ok : Bool) : State := s.fuseOp 4 (fun s a =>
  if 3 < a.getD 0 0 then s.kprResult 0x02 [] else s.burn (2 ^ (1 + a.getD 0 0)) ok)

/-- FUSE_MINVER: bits 64 up to 63 + arg0. -/
def State.fuseMinver (s : State) (ok : Bool) : State := s.fuseOp 5 (fun s a =>
  let v := a.getD 0 0
  if v = 0 ∨ 64 < v ∨ v < s.minVer then s.kprResult 0x02 [] else s.burn ((2 ^ v - 1) * 2 ^ 64) ok)

/-- FUSE_SECURE. -/
def State.fuseSecure (s : State) (ok : Bool) : State := s.fuseOp 6 (fun s _ =>
  match s.cfg.sigKey with
  | none => s.kprResult 0x03 []
  | some k => if s.keyRevoked k ∨ bits s.fuses (128 + 384 * k) 384 = 0 then s.kprResult 0x03 [] else s.burn 1 ok)

/-- The history entry of number `n` in the ring (R459). -/
def State.histFind (s : State) (n : Nat) : Option (List Byte) :=
  let es := (s.cel.chain 5).flatMap (fun b => (s.cel.get b).pages.flatMap (fun p => entries 32 (p.data.length / 32) p.data))
  es.find? (fun e => fld e 24 4 == n && fld e 28 4 == (crc32c (e.take 28)).toNat)

/-- The entries from number `n` on, at most `k`, up to the first that the ring does not hold. -/
def State.histRun (s : State) (n : Nat) : Nat → List (List Byte)
  | 0 => []
  | k + 1 => match s.histFind n with
    | none => []
    | some e => e :: State.histRun s ((n + 1) % 2 ^ 32) k

/-- HIST_READ. -/
def State.kprHist (s : State) : State := s.kprOp 7 (fun s a =>
  let bank := a.getD 0 0
  if 63 < bank ∨ s.owner bank ≠ 6 ∨ 16384 < a.getD 2 0 then s.kprResult 0x02 []
  else if s.cel.mount ≠ 2 then s.kprResult 0x05 []
  else
    let es := s.histRun (a.getD 1 0) (a.getD 2 0)
    let ws := es.flatMap (fun e => (entries 8 4 e).map (fun w => BitVec.ofNat 64 (leNat w)))
    let s := (List.zip (rangeFrom 0 ws.length) ws).foldl (fun s w => s.unitWrite 6 bank w.1 w.2) s
    s.kprResult 0 [BitVec.ofNat 32 es.length])

/-! ### The Side Door's flags (R442, R447) -/

def State.sdFenced (s : State) : Bool := s.unitFenced 0x407
/-- An error of a frame: its flag, err_count, and for crc_err and frame_err the error line. -/
def State.sdError (s : State) (i : Nat) : State :=
  let s := (s.flag SDR i).incSat (SDR + 4) 16 16
  if i < 2 then s.report 0x407 i else s
/-- A frame is completed. -/
def State.sdFrame (s : State) : State := s.incWrap (SDR + 4) 0 16

/-- FRAME_ERR: SD_CSN ended a frame before its request CRC. -/
def State.sdShort (s : State) : State := if s.sdFenced then s else { s.sdError 1 with sdOut := [] }

/-- SIDE_DOOR_BAD_CMD: op 0 with a good CRC is answered with 0x07. -/
def State.sdBad (s : State) (b : List Byte) : State :=
  if s.sdFenced ∨ b.length < 3 ∨ 64 ≤ fld b 0 1 then s
  else
    let n := b.length - 2
    let s := s.sdFrame
    if crc16 (b.take n) ≠ beNat (b.drop n) then { s.sdError 0 with sdOut := [0x09#8] }
    else { s.sdError 2 with sdOut := [0x07#8] }

/-- SIDE_DOOR_FENCE (R304). -/
def State.sdFence (s : State) : State :=
  s.takeFence 0x407

end Sys2Proof.Machine
end

