-- ==== Sys2Proof/Machine/Power.lean ====
section
/-!
DEFINITION. Power, resets, boot and the entries into wing modes (chapter 17).
-/

namespace Sys2Proof.Machine

/-! ### Wing modes (R483 to R492) -/

/-- GLB_MODE_REQ, with its status: modes 6 and 7 are reserved (R483). -/
def State.modeWrite (s : State) (v : Word) : State × Nat :=
  let m := bits v 0 3
  if 5 < m then (s, stReserved)
  else
    ((rangeFrom 0 8).foldl (fun s w =>
      if !bit v (8 + w) then s
      else if m = 0 then (if s.committed then s.safeRequest w (bit v 3) else s)
      else s.modeReq w m) s, stDone)

/-- TI_WAKE (R483). -/
def State.tiWake (s : State) (w : Nat) : State :=
  let s := s.tiTake (0x190 + w)
  let m := s.rf 0x44 (3 * w) 3
  if s.wingMode w = 0 ∧ m ≠ 0 then s.modeReq w m else s

/-- HRT_SAFE_REQUEST: an event on ev_hrt_safe_ramp or ev_hrt_safe_now (R313). -/
def State.hrtSafe (s : State) (wings : BitVec 8) (now : Bool) : State :=
  let s := { s with safeReqs := s.safeReqs.erase ⟨wings, now⟩ }
  (rangeFrom 0 8).foldl (fun s w => if bit wings w then s.safeRequest w now else s) s

/-- The mode that the wing's running request enters next: STANDBY first from SAFE (R484). -/
def State.modeNextCode (s : State) (w m : Nat) : Nat := if s.wingMode w = 0 then 1 else m

/-- MODE_ENTRY (R485): a sleeping wing is woken first; an entry with an overlay waits for its tick A. -/
def State.modeEntry (s : State) (w : Nat) : State :=
  let x := s.md w
  match x.run with
  | none => s
  | some m =>
    if s.sleeping w then (if x.waking.isSome then s else s.setMd w { x with waking := some s.htick })
    else if x.overlay then s
    else
      let t := s.modeNextCode w m
      match s.ovlSlot w t with
      | none => s.modeStep w t
      | some k =>
        if s.cfgFenced then s.modeFail w 0x04
        else
          match Tbl.get none s.cfg.cache k with
          | none => (s.cfgRefuse 0 true { code := 0x16 }).modeFail w 0x03
          | some b =>
            let s := s.setMd w { x with overlay := true }
            let r := s.apRequest { wing := w, image := b, entry := some t }
            if r.2 then r.1 else r.1.modeFail w 0x04

/-- SAFE_ENTRY (R487): the mode code becomes SAFE at once; requests that have not been entered are cancelled. -/
def State.safeEntry (s : State) (w : Nat) : State :=
  let x := s.md w
  match x.safe with
  | none => s
  | some now =>
    let applying : Bool := match s.cfg.apply with
      | some a => a.req.wing == w && a.req.entry.isSome
      | none => false
    let s := if x.wait.isSome ∨ (x.run.isSome ∧ !applying) then s.modeRefuse w 0x05 else s
    let s := s.modCfg (fun c => { c with wait := match c.wait with
      | some r => if r.wing = w ∧ r.entry.isSome then none else some r
      | none => none })
    let s := s.setMd w { slept := x.slept }
    if s.wingMode w = 0 then s
    else
      let s := s.modeSet w 0 now
      match s.ovlSlot w 0 with
      | none => s
      | some k =>
        match Tbl.get none s.cfg.cache k with
        | none => s.cfgRefuse 0 true { code := 0x16 }
        | some b => (s.apRequest { wing := w, image := b, entry := some 0 }).1

/-- Every channel of the wing is QUENCHED or FENCED. -/
def State.allDown (s : State) (w : Nat) : Bool :=
  (rangeFrom (16 * w) 16).all (fun n => (s.ch n).st == .quenched || (s.ch n).st == .fenced)

/-- The sleep level of a wing. -/
def State.sleepLevel (s : State) (w : Nat) : Nat := s.rf 0x40 (2 * w) 2

/-- SLEEP_ENTRY (R490, R234): the comparators move to Micro, the links go down, the clocks stop. -/
def State.sleepEntry (s : State) (w : Nat) : State :=
  let applying : Bool := match s.cfg.apply with
    | some a => a.req.wing == w
    | none => false
  if s.wingMode w ≠ 0 ∨ s.sleepLevel w = 0 ∨ !s.allDown w ∨ applying ∨ s.sleeping w then s
  else
    let s := s.eachCh w (fun s n => let s := s.modMo n (fun m => { m with micro := true })
                                    if (s.lk n).busy then s.headLost n else s)
    (s.modMd w (fun x => { x with slept := s.sleepLevel w })).wb 0x38 w true

/-- The tiles that serve a wing's channels hold their program and coefficients again, their state zero (R490). -/
def State.reloadTiles (s : State) (w : Nat) : State :=
  s.eachCh w (fun s n => match (s.lp n).tile with
    | some t => if (s.tile t).role = .bound then s.loadTile t n (s.lp n).template .bound else s
    | none => s)

/-- WING_WAKE (R492, R234): the clocks run again. -/
def State.wingWake (s : State) (w : Nat) : State :=
  let x := s.md w
  match x.waking with
  | none => s
  | some t =>
    if !s.sleeping w ∨ s.since t < (if x.slept = 2 then 1000000 else 10000) then s
    else
      let s := s.setMd w { x with waking := none }
      let s := s.wb 0x38 w false
      let s := s.eachCh w (fun s n => (s.modMo n (fun m => { m with micro := false })).monRestart n false)
      if x.slept = 2 then s.reloadTiles w else s

/-! ### Supplies, temperature, clocks (R469 to R471, R515) -/

def State.pwrFault (s : State) (i : Nat) : State := (s.flag 0x54 i).report 0x423 i
def State.modPwr (s : State) (f : Pwr → Pwr) : State := { s with pwr := f s.pwr }

/-- A reading of the die temperature in °C (R470). -/
def State.dieReading (s : State) (v : B64) : State :=
  let atLeast (c : Nat) : Bool := !F64.lt v (F64.ofFrac c 1) && !F64.isNaN v
  let warn := atLeast (s.rf 0x5C 0 8)
  let hot := atLeast 115
  let n := if hot then s.pwr.hot + 1 else 0
  let s := s.modPwr (fun p => { p with hot := min n 2, hotWarn := warn, hotShut := hot })
  let s := if warn then s.pwrFault 8 else s
  if 2 ≤ n then (s.pwrFault 9).safeAll else s

/-- HREF_LOST: HREF is lost, or a PLL loses lock (R471). -/
def State.hrefGone (s : State) (pll : Bool) : State :=
  let i := b2n pll
  let s := ((s.flag 0x58 i).report 0x424 i).safeAll
  let s := (s.linkFalls 0).linkFalls 1
  if pll then s else s.modPwr (fun p => { p with hrefLost := true })

/-- JTAG_UPDATE_IR (R515). -/
def State.jtag (s : State) (on : Bool) (cells : BitVec 9) : State :=
  let s := if on then s.safeAll else s
  s.modPwr (fun p => { p with extest := on, cells := if on then cells else 0#9 })

/-! ### Resets (R468, R472 to R474) -/

/-- The NAND operation under way ends before a reset; whether it passes is open (R473). -/
def State.nandFinish (s : State) : State :=
  if s.cel.cur.isNone then s
  else let r := s.freeB; r.1.nandDone ⟨r.2, 0⟩

/-- What every reset keeps: the queue, the model's counter, what lies outside the block, the fuses, the trims and the
Cellar's medium. -/
def State.cleared (s : State) : State :=
  { State.reset with
    pending := s.pending
    freeCtr := s.freeCtr
    supplyOut := s.supplyOut
    fuses := s.fuses
    otp := s.otp
    cel := { nand := s.cel.nand }
    kpr := { boot := s.kpr.boot }
    pwr := { hrefLost := s.pwr.hrefLost, extest := s.pwr.extest, cells := s.pwr.cells } }

/-- Tile fences, and the spares that serve a channel (R306, R341). -/
def Tile.kept (t : Nat) (x : Tile) : Option Tile :=
  if x.role = .fenced then some { role := .fenced }
  else if 256 ≤ t ∧ (x.role = .bound ∨ x.role = .loading) then some { role := .bound, ch := x.ch, template := x.template }
  else none

/-- A source after a device reset: Grave and fence stay unless device reset is the way out of it (R306, R474). -/
def Src.kept (k : Nat) (x : Src) : Option Src :=
  if srcResetRelease k || !(x.grave || x.fenced) then none else some { grave := x.grave, fenced := x.fenced }

/-- A device reset is taken, with its cause (R472 to R474). -/
def State.deviceReset (s : State) (cause : Nat) : State :=
  let s := s.nandFinish
  let n := (s.rf 0x24 8 8 + 1) % 256
  let t := s.cleared
  let keepReg (k : Nat) : Bool := isCh k && (k % 0x1000 == 0x038 || k % 0x1000 == 0x040 || k % 0x1000 == 0x044)
  let t := { t with
    htick := s.htick
    regs := s.regs.filter (fun (e : Nat × Word) => keepReg e.1)
    tiles := s.tiles.filterMap (fun (e : Nat × Tile) => (Tile.kept e.1 e.2).map (fun x => (e.1, x)))
    srcs := s.srcs.filterMap (fun (e : Nat × Src) => (Src.kept e.1 e.2).map (fun x => (e.1, x)))
    fencedUnits := s.fencedUnits.filter (fun k => !srcResetRelease k)
    banks := s.banks.map (fun (e : Nat × Bank) => (e.1, { rows := e.2.rows, onSpare := e.2.onSpare, withdrawn := e.2.withdrawn }))
    pan := s.pan
    poison := s.poison }
  (t.wr 0x24 (BitVec.ofNat 32 (cause + 256 * n))).modPwr (fun p => { p with held := 2, heldAt := s.htick })

/-- Power-on reset is asserted (R468): everything but what power-off leaves is cleared. -/
def State.powerReset (s : State) : State := (s.nandFinish.cleared).modPwr (fun p => { p with held := 1 })

/-- The release of a reset (R475, R476): BOOT_SEL is sampled, the trims are read, and boot starts. -/
def State.released (s : State) (sel : BitVec 2) : State :=
  let s := s.modPwr (fun p => { p with held := 0, relAt := s.htick })
  let s := { s with net := { s.net with ports := [0, 1].map (fun p => (p, { tryAt := s.htick, downAt := s.htick, foMs := s.rf 0xA404 2 8 })) } }
  let s := { s with cal := { s.cal with adcNext := (s.htick.toNat - 16) / 5000 } }
  let s := (s.wf 0x10 0 2 sel.toNat).wb 0x10 2 (sel == 3#2)
  let s := s.otpLoad
  if sel = 1#2 ∨ sel = 2#2 then s.setStage 2 else s

/-- POWER_ON_RESET_RELEASE: this tick is house tick 0 (R468). -/
def State.porRelease (s : State) (sel : BitVec 2) : State :=
  if bit s.supplyOut 0 ∨ bit s.supplyOut 6 ∨ s.pwr.hrefLost then s
  else (s.nandFinish.cleared).released sel

/-- DEVICE_RESET_RELEASE, at the earliest 1 µs after the reset was taken (R473). -/
def State.drRelease (s : State) (sel : BitVec 2) : State :=
  if s.pwr.held ≠ 2 ∨ s.since s.pwr.heldAt < 500 then s else s.released sel

/-- GLB_RST, with its status (R472). -/
def State.rstWrite (s : State) (v : Word) : State × Nat :=
  if bits v 0 16 ≠ 0xD5E7 then (s, stLocked) else if bit v 16 then (s.deviceReset 2, stDone) else (s, stDone)

/-- SUPPLY_FAULT (R469): `low` says that VDD_CORE is below the power-on reset threshold. A power-on reset goes on (R468). -/
def State.supplyFault (s : State) (k : Nat) (low : Bool) : State :=
  let s := { s with supplyOut := putBit s.supplyOut k true }
  if k = 0 ∧ low then s.powerReset
  else if s.pwr.held = 1 then s
  else if k = 0 then s.deviceReset 4
  else if k = 6 then s.deviceReset 3
  else if s.pwr.held ≠ 0 then s
  else if k = 5 then
    let s := s.pwrFault 5
    if s.cel.cur.isSome then s.nandDone ⟨false, 0⟩ else s
  else (s.pwrFault k).safeAll

/-- SUPPLY_RETURN (R469, R231). -/
def State.supplyReturn (s : State) (k : Nat) : State :=
  let was := bit s.supplyOut k
  let s := { s with supplyOut := putBit s.supplyOut k false }
  if k = 3 ∧ was ∧ s.pwr.held = 0 then (rangeFrom 0 128).foldl (fun s n => s.monRestart n true) s else s

/-! ### Boot (R475, R476, R482) -/

/-- CELLAR_MOUNT (R463, R476, R482). -/
def State.mountStep (s : State) (p : NandPart) : State :=
  if s.cel.mount ≠ 0 ∨ s.unitFenced 0x408 then s
  else
    let s := s.celMount p
    if s.stage ≠ 0 then s
    else if s.cel.mount = 2 then
      let s := (s.setStage 1).wf CFG 0 2 1
      let s := s.celRequest { id := 0, kind := .unitRead, who := 2, region := 1, item := 0 }
      s.celRequest { id := 0, kind := .unitRead, who := 2, region := 1, item := 1 }
    else s.fndFailed

/-- BOOT_STANDBY_ENTRY (R476): the wings whose STANDBY entry has no overlay enter it; stage 5 once no wing's entry is
outstanding. -/
def State.standbyEntry (s : State) : State :=
  if s.stage ≠ 4 then s
  else
    let s := (rangeFrom 0 8).foldl (fun s w =>
      if s.wingMode w = 0 ∧ (s.md w).run.isSome ∧ (s.ovlSlot w 1).isNone ∧ !s.sleeping w then s.modeStep w 1 else s) s
    if (rangeFrom 0 8).any (fun w => s.wingMode w == 0 && (s.md w).run.isSome) then s
    else (s.setStage 5).wf 0x1C 16 16 s.bootMs

end Sys2Proof.Machine
end

