-- ==== Sys2Proof/Machine/View.lean ====
section
/-!
DEFINITION. What a read of a register returns: the stored word, with the fields that show the present state of a unit
composed from it (the RO fields of the register tables).
-/

namespace Sys2Proof.Machine

/-- A word from (low bit, value) fields. -/
def wordOf (l : List (Nat × Nat)) : Word := BitVec.ofNat 32 (l.foldl (fun v e => v + e.2 * 2 ^ e.1) 0)
/-- Half `h` (0 low, 1 high) of a pair. -/
def halfOf (v : DWord) (h : Nat) : Word := if h = 0 then v.setWidth 32 else (v >>> 32).setWidth 32
/-- The word whose bit `i` is `p i`. -/
def bitsOf (n : Nat) (p : Nat → Bool) : Word := wordOf ((rangeFrom 0 n).map (fun i => (i, b2n (p i))))

/-! ### Live levels of fault sources (R307, R319) -/

/-- A condition that lasts: the one behind a report of source `k` is still present (R307). Which conditions have a
duration is read from the rules that raise them (DESIGN CHOICE, log 21). -/
def State.srcCond (s : State) (k : Nat) : Bool :=
  if k < 0x80 then
    (s.ch k).st == .hold || (s.lk k).st == .retrain
      || (rangeFrom 0 4).any (fun c => s.monEn k c && ((s.mo k).cmp c).raw && ((s.mo k).cmp c).latched
            && (decide (c < 2) || s.actb (chA k 0x530) 1))
      || ((s.lk k).present && (s.rb (chA k 0x618) 7 || s.rb (chA k 0x618) 22))
  else if k < 0x88 then (s.wtrk (k - 0x80)).aLost || (s.wtrk (k - 0x80)).pLost
  else if 0x300 ≤ k ∧ k < 0x400 then (s.chute (k - 0x300)).staleLive
  else if k = 0x401 then
    s.mach.st == .holdover || s.mach.st == .frozen || s.mains.st == .holdover || s.mains.st == .frozen
  else if k = 0x403 then s.rf CFG 0 2 == 3
  else if k = 0x405 ∨ k = 0x406 then s.portEnabled (k - 0x405) && !(s.port (k - 0x405)).linkUp && (s.port (k - 0x405)).downAt != 0#64
  else if k = 0x408 then s.cel.mount == 3
  else if k = 0x423 then s.supplyOut != 0#7 || s.pwr.hotWarn || s.pwr.hotShut
  else if k = 0x424 then s.pwr.hrefLost
  else false

/-- The live level of a source: its condition, its force bit, or a report in this tick (R307, R322). -/
def State.srcLive (s : State) (k : Nat) : Bool :=
  s.srcCond k || (s.src k).force || (s.src k).lastAt == some s.htick

/-- All source numbers (R304). -/
def allSrcs : List Nat := (rangeFrom 0 0x426).filter (fun k => (srcGroup k).isSome)

/-- Bit g: a source of group g meets `p`. -/
def groupBits (p : Nat → Bool) : Word :=
  let l := allSrcs.filter p
  bitsOf 28 (fun g => l.any (fun k => srcGroup k == some g))

/-! ### Channels -/

def rngKindCode : RngKind → Nat
  | .none => 0
  | .xfade => 1
  | .mbb => 2
  | .direct => 3

def linkCode : LinkSt → Nat
  | .down => 0
  | .train => 1
  | .desc => 2
  | .up => 3
  | .retrain => 4

def roleCode : TileRole → Nat
  | .idle => 0
  | .loading => 1
  | .bound => 2
  | .fenced => 3
  | .spareFree => 4

/-- An aperture waits for a trigger, a mains wrap, MARK or relock (MEAS_STAT ap_wait). -/
def State.apWaiting (s : State) (n : Nat) : Bool :=
  let a := (s.ms n).ap
  let c := s.act (chA n 0x200)
  apKind c != 3 && a.phase != .opened && (a.phase == .pending || apTrig c || a.noTime)

/-- What a read of channel register `o` returns (R87, R127, R154, R155, R239, R265, R302, R303). -/
def State.viewCh (s : State) (n o : Nat) : Word :=
  let c := s.ch n
  let l := s.lp n
  let r := s.rg n
  let k := s.lk n
  let m := s.mo n
  if o = 0x008 then
    wordOf [(0, c.st.code), (4, c.prev.code), (8, c.cause), (16, b2n (s.gateOut n)), (17, b2n k.present),
      (18, b2n c.headReady), (19, b2n ((s.cc n).src == 1)), (20, b2n (s.gp n).running)]
  else if o = 0x010 then
    wordOf [(0, b2n l.clampPos), (1, b2n l.clampNeg), (2, b2n (decide (2 ≤ c.goodRun))), (3, b2n (s.gp n).inPulse),
      (4, b2n (s.gpgReady n))]
  else if o = 0x030 then halfOf c.transTs 0
  else if o = 0x034 then halfOf c.transTs 1
  else if o = 0x120 then F32.of64 c.setptEff
  else if o = 0x12C then s.fsV n (s.vact n)
  else if o = 0x130 then s.fsI n (s.iact n)
  else if o = 0x138 then (if c.st.reg || c.st == .hold then l.outLast else c.level)
  else if o = 0x21C then
    wordOf [(0, b2n ((s.ms n).ap.phase == .opened)), (1, b2n (s.apWaiting n)), (2, b2n (s.ms n).rawOn)]
  else if o = 0x310 then
    wordOf [(0, b2n r.xfRun), (1, b2n (s.xfNew n)), (2, rngKindCode r.kind), (4, r.from_ % 16), (8, r.to_ % 16),
      (12, r.sec % 16), (16, b2n r.secValid), (17, r.j % 128)]
  else if o = 0x400 then BitVec.ofNat 32 (l.template % 16)
  else if o = 0x40C then
    wordOf [(0, l.tile.getD 0), (9, b2n (decide (256 ≤ l.tile.getD 0))), (10, b2n (l.integSat != 0#16)),
      (11, b2n (s.trkLost n)), (12, b2n l.repl.isSome)]
  else if 0x520 ≤ o ∧ o < 0x530 then
    (let i := (o - 0x520) / 4
     let held := s.monUnit n i && (if i < 2 then m.iNew.isSome else m.vNew.isSome)
     wordOf [(0, (m.cmp i).code % 4096), (16, b2n held), (17, b2n (m.cmp i).noDesc)])
  else if o = 0x534 then
    (s.rd (chA n o) &&& 0x70000#32) ||| wordOf ((rangeFrom 0 4).flatMap (fun i =>
      [(i, b2n ((m.cmp i).latched || (decide (i < 2) && bit s.supplyOut 3))), (4 + i, b2n (m.cmp i).filt), (8 + i, b2n (m.cmp i).raw), (12 + i, b2n (m.cmp i).puPending)]))
  else if o = 0x604 then
    wordOf [(0, linkCode k.st), (3, b2n k.descValid), (4, k.txDelay % 32), (12, k.ebFill % 16), (16, k.epoch % 65536)]
  else if o = 0x620 then halfOf (BitVec.ofNat 64 (leNat (((s.lk n).desc.drop 8).take 8))) 0
  else if o = 0x624 then halfOf (BitVec.ofNat 64 (leNat (((s.lk n).desc.drop 8).take 8))) 1
  else if o = 0x714 then (if (s.gp n).running then BitVec.ofNat 32 ((s.gp n).count - (s.gp n).j) else 0#32)
  else if o = 0xB00 then
    s.rd (chA n o) ||| wordOf [(0, (s.cc n).src), (3, b2n (s.cal.busy && s.cal.ch == n)), (4, b2n (s.rb (calDueReg n) (n % 32)))]
  else if o = 0xC1C then
    s.rd (chA n o) ||| wordOf [(0, b2n (k.hostQ.isSome || (match k.out with
      | some q => q.host
      | none => false)))]
  else if 0xD00 ≤ o then BitVec.ofNat 32 (s.descLE n (o - 0xD00) 4)
  else s.rd (chA n o)

/-- What a read of wing register `o` returns (R88, R128, R240). -/
def State.viewWg (s : State) (w o : Nat) : Word :=
  if o = 0x108 then bitsOf 16 (fun j => s.gateOut (16 * w + j))
  else if o = 0x10C then bitsOf 16 (fun j => (s.ch (16 * w + j)).st == .fenced)
  else if o = 0x218 then s.rd (wgA w o) ||| wordOf [(0, b2n (s.wtrk w).aValid), (1, b2n (s.wtrk w).pValid)]
  else if o = 0x400 then
    bitsOf 32 (fun j => if j < 16 then s.guardTrip (16 * w + j)
      else (s.mo (16 * w + j - 16)).c2.latched || (s.mo (16 * w + j - 16)).c3.latched)
  else if o = 0x408 then wordOf [(0, b2n (Tbl.get false s.pins.wtrip w))]
  else s.rd (wgA w o)

/-- What a read of tile register `o` returns (R129). -/
def State.viewTl (s : State) (t o : Nat) : Word :=
  let x := s.tile t
  if o = 0x000 then
    wordOf [(0, roleCode x.role), (4, if x.role = .loading ∨ x.role = .bound then x.ch else 0), (12, x.template)]
  else if 0x080 ≤ o ∧ o < 0x100 then x.coef.getD ((o - 0x080) / 4) 0#32
  else if 0x100 ≤ o ∧ o < 0x180 then halfOf (x.z.getD ((o - 0x100) / 8) 0#64) (o % 8 / 4)
  else if 0x180 ≤ o ∧ o < 0x200 then x.a.getD ((o - 0x180) / 4) 0#32
  else if 0x800 ≤ o then
    (if s.wingMode (tileWing t) = 5 then halfOf (x.prog.getD ((o - 0x800) / 8) 0#64) (o % 8 / 4) else 0#32)
  else s.rd (tlA t o)

/-! ### Single blocks -/

/-- GLB (R494). -/
def State.viewGlb (s : State) (a : Nat) : Word :=
  if a = 0x010 then s.rd a ||| wordOf [(7, b2n s.porchOpen)]
  else if a = 0x038 then
    s.rd a ||| wordOf ((rangeFrom 0 8).flatMap (fun w =>
      [(8 + w, b2n ((s.md w).run.isSome || (s.md w).wait.isSome || (s.md w).safe.isSome)),
       (16 + w, b2n (s.wingMode w == 0 && !s.allDown w))]))
  else if a = 0x050 then
    wordOf ([(8, b2n s.pwr.hotWarn), (9, b2n s.pwr.hotShut)] ++ (rangeFrom 0 7).map (fun i => (i, b2n (!bit s.supplyOut i))))
  else s.rd a

/-- The head record of the queue, or none (R315). -/
def State.viewRec (s : State) (a : Nat) : Word :=
  match s.hrtQueue with
  | [] => if a = 0x1040 then 0x7FF#32 else 0#32
  | r :: _ =>
    if a = 0x1040 then
      wordOf [(0, r.src), (11, (srcGroup r.src).getD 0), (16, r.cls), (18, b2n r.real), (19, b2n r.inj), (20, b2n r.fenced)]
    else if a = 0x1044 then wordOf [(0, r.c1), (8, r.cN), (16, r.merges % 65536)]
    else if a = 0x1048 ∨ a = 0x104C then halfOf r.t1 (a % 8 / 4)
    else halfOf r.tN (a % 8 / 4)

/-- HRT (R327). -/
def State.viewHrt (s : State) (a : Nat) : Word :=
  if a = 0x1008 then groupBits s.srcLive
  else if a = 0x1018 then groupBits (fun k => (s.src k).grave)
  else if a = 0x1030 then s.rd a ||| wordOf [(0, s.hrtQueue.length)]
  else if 0x1040 ≤ a ∧ a < 0x1058 then s.viewRec a
  else if 0x1200 ≤ a ∧ a < 0x1210 then bitsOf 32 (fun j => (s.src (8 * (a - 0x1200) + j)).fenced)
  else if 0x1210 ≤ a ∧ a < 0x1234 then
    bitsOf 32 (fun j => decide (8 * (a - 0x1210) + j < 272) && (s.src (0x100 + 8 * (a - 0x1210) + j)).fenced)
  else if 0x1234 ≤ a ∧ a < 0x123C then bitsOf 32 (fun j => (s.src (0x240 + 8 * (a - 0x1234) + j)).fenced)
  else if a = 0x123C then
    bitsOf 24 (fun j =>
      (s.src (if j < 16 then 0x410 + j
        else [0x402, 0x403, 0x405, 0x406, 0x407, 0x408, 0x420, 0x421].getD (j - 16) 0)).fenced)
  else s.rd a

/-- PHS (R216). -/
def State.viewPhs (s : State) (a : Nat) : Word :=
  let m := s.mach
  if a = 0x200C then
    wordOf [(0, m.st.code), (3, b2n m.onFly), (4, s.mains.st.code), (8, b2n (m.load != .off)), (12, m.cause)]
  else if a = 0x2020 ∨ a = 0x2024 then halfOf (m.tick.setWidth 64) (a % 8 / 4)
  else if a = 0x2028 then m.turn
  else if a = 0x202C then BitVec.ofNat 32 m.tit
  else if a = 0x2030 then BitVec.ofNat 32 ((s.mainsPos s.htick).toNat % 65536)
  else if a = 0x2034 then BitVec.ofNat 32 ((s.mainsPos s.htick).toNat / 65536)
  else if a = 0x2038 then halfOf s.htick 0
  else if a = 0x203C then halfOf s.htick 1
  else if a = 0x2040 then BitVec.ofNat 32 m.pEst
  else if a = 0x2044 then BitVec.ofNat 32 ((s.mains.sum4 + 2) / 4)
  else if a = 0x211C then BitVec.ofNat 32 (s.alarms.filter (fun e => e.2.enabled)).length
  else s.rd a

/-- CAL (R266). -/
def State.viewCal (s : State) (a : Nat) : Word :=
  if a = 0x3020 then
    s.rd a ||| wordOf [(0, if s.cal.busy then s.cal.ch else 0), (7, b2n s.cal.busy), (8, s.cal.step.code)]
  else if a = 0x3074 then BitVec.ofNat 32 (leNat (Mem.bytes s.otp (4 * s.rf 0x3070 0 10) 4))
  else s.rd a

/-- CFG (R356). -/
def State.viewCfg (s : State) (a : Nat) : Word :=
  if a = 0x4000 then
    s.rd a ||| wordOf [(4, b2n s.secureEn), (5, b2n s.cfgBusy), (7, b2n s.cfg.apply.isSome), (11, b2n s.cfg.wait.isSome),
      (16, (s.cfg.cache.filter (fun e => e.2.isSome)).length)]
  else if a = 0x4024 then
    s.rd a ||| wordOf ([(0, b2n s.secureEn), (8, s.minVer)] ++ (rangeFrom 0 4).map (fun i => (1 + i, b2n (s.keyRevoked i))))
  else if a = 0x40A0 then
    wordOf [(0, s.kpr.image), (1, b2n (s.kpr.running && s.kpr.ready)), (2, b2n s.kpr.activating)]
  else s.rd a

/-- HWY_TI_STAT of the input that the path names (R400); other HWY registers are stored. -/
def State.viewHwy (s : State) (p : Path) (k a : Nat) : Word :=
  if a = 0x5184 then
    (let x := s.ti (s.rf (pkey p 0x5180) 0 16)
     wordOf [(0, b2n x.coinc), (1, x.pend), (16, x.merges)])
  else s.rd k

/-- PAN (R382). -/
def State.viewPan (s : State) (p : Path) (k a : Nat) : Word :=
  if a = 0x6050 then
    wordOf [(0, b2n s.borrowed.isSome), (1, b2n s.panOps.full.isSome), (2, s.panOps.bistBank % 64), (8, s.sparesFree.length)]
  else if a = 0x6064 then
    (let x := s.bank (s.rf (pkey p 0x6060) 0 6)
     wordOf [(0, x.rows.length), (3, b2n x.onSpare.isSome), (4, b2n x.mig.isSome), (5, b2n x.withdrawn), (6, x.fullResult)])
  else s.rd k

/-- Chute `c` (R383). -/
def State.viewChu (s : State) (c o : Nat) : Word :=
  let x := s.chute c
  if o = 0x08 then x.w.setWidth 32
  else if o = 0x0C then x.r.setWidth 32
  else if o = 0x10 then
    wordOf [(0, x.level), (17, b2n (x.level == 0)), (18, b2n (s.chuDepth c != 0 && x.level == s.chuDepth c)), (19, b2n x.staleLive)]
  else s.rd (chuA c o)

/-- PRC (R446). -/
def State.viewPrc (s : State) (p : Path) (a : Nat) : Word :=
  if a = 0xA004 ∨ a = 0xA104 then
    (let i := (a - 0xA000) / 0x100
     let x := s.port i
     wordOf [(0, b2n x.linkUp), (1, b2n (x.linkUp && x.at25g)), (2, b2n x.serving), (3, b2n (s.portFenced i || x.moved))])
  else if a = 0xA480 then wordOf [(0, s.tod.st), (3, s.subPort (s.rf 0xA404 11 1))]
  else if a = 0xA484 then s.tod.offset
  else if a = 0xA488 then halfOf (s.tod.sec.setWidth 64) 0
  else if a = 0xA48C then halfOf (s.tod.sec.setWidth 64) 1
  else if a = 0xA490 then BitVec.ofNat 32 s.tod.ns
  else if a = 0xA4C4 then
    (let i := s.rf (pkey p 0xA4C0) 0 5
     if s.rb (pkey p 0xA4C0) 5 then
       (let x := s.evSub (i % 8)
        if i < 8 then wordOf [(0, b2n x.on), (1, s.subPort x.port), (2, x.sess)] else 0#32)
     else
       (let x := s.strm i
        wordOf [(0, b2n x.on), (1, s.subPort x.port), (2, x.sess), (16, x.drops)]))
  else s.rd a

/-- CEL (R466). -/
def State.viewCel (s : State) (a : Nat) : Word :=
  let c := s.cel
  let es := c.written.map (fun b => (c.get b).erases)
  if a = 0xB004 then
    (let op := match c.cur with
      | some o => (match c.queue.find? (fun r => r.id == o.id) with
        | some r => r.kind.rank
        | none => 0)
      | none => 0
     wordOf [(0, c.mount), (2, b2n c.cur.isSome), (3, c.mode), (6, b2n (decide (2 ≤ c.targets))), (8, op)])
  else if a = 0xB00C then wordOf [(0, c.lgPage), (8, c.lgPpb), (16, c.blocks)]
  else if a = 0xB010 then wordOf [(0, c.spare % 65536)]
  else if a = 0xB014 then wordOf [(0, c.goodBlks.length), (16, c.pool.length)]
  else if a = 0xB018 then
    wordOf [(0, (c.allBlks.filter (fun b => (c.get b).bad == 1)).length), (16, (c.allBlks.filter (fun b => (c.get b).bad == 2)).length)]
  else if a = 0xB01C then
    (match es with
     | [] => 0#32
     | e :: t => wordOf [(0, min 65535 (t.foldl min e)), (16, min 65535 (t.foldl max e))])
  else s.rd a

/-- An engine whose input is empty and which holds no word stops while every wing is in SAFE (R417). -/
def State.engStopped (s : State) (e : Nat) : Bool :=
  let x := s.eng e
  !x.act.isEmpty && x.words.isEmpty && x.run.isNone && s.chuLevel (dIn x.act) == 0 && (rangeFrom 0 8).all (fun w => s.wingMode w == 0)

/-- Study engine `e` (R418). -/
def State.viewEng (s : State) (e o : Nat) : Word :=
  let x := s.eng e
  if o = 0x00 then
    wordOf [(0, dKernel x.act % 8), (3, b2n x.run.isSome), (4, b2n x.pend.isSome), (5, b2n x.latched), (6, b2n (s.engFenced e)),
      (7, b2n (s.engStopped e)), (8, x.loadCode)]
  else if o = 0x08 then BitVec.ofNat 32 (dsc x.act 8 4)
  else s.rd (engA e o)

/-- SDR and KPR (R447). -/
def State.viewSdr (s : State) (a : Nat) : Word :=
  if a = 0xD11C then
    s.rd a ||| wordOf [(0, b2n s.kpr.cmd.isSome), (1, match s.kpr.cmd with
      | some c => Path.idx c.owner
      | none => 0), (3, b2n (s.kpr.running && s.kpr.ready)), (4, s.kpr.image)]
  else s.rd a

/-- SWP (R187). -/
def State.viewSwp (s : State) (a : Nat) : Word :=
  if a = 0xE004 then
    wordOf [(0, ((rangeFrom 0 32).foldl (fun n c => if (s.ctx c).st = .idle then n else n + s.ctxTags c) 0) % 65536),
      (16, s.netTags.length % 65536)]
  else if a = 0xE00C then
    (let t := s.rf 0xE008 0 15
     match s.tagCtx t with
     | some c => wordOf [(0, 2), (8, c)]
     | none => wordOf [(0, b2n (s.netTags.contains t))])
  else s.rd a

/-- One sweep context (R188). -/
def State.viewCtx (s : State) (c o : Nat) : Word :=
  if o = 0x30 then s.rd (ctxA c o) ||| wordOf [(0, (s.ctx c).st.code), (24, b2n (s.ctx c).t.isSome)]
  else s.rd (ctxA c o)

/-- What a read of the register at address `a` on path `p` returns (R10); `k` is the key under which the path finds
it. -/
def State.view (s : State) (p : Path) (a k : Nat) : Word :=
  if isCh a then s.viewCh (chOf a) (a % 0x1000)
  else if isWg a then s.viewWg (wgOf a) (a % 0x1000)
  else if 0x200000 ≤ a then s.viewTl ((a - 0x200000) / 0x1000) (a % 0x1000)
  else if a < 0x1000 then s.viewGlb a
  else if a < 0x2000 then (if a < 0x1100 ∨ 0x1200 ≤ a then s.viewHrt a else s.rd k)
  else if a < 0x3000 then (if a < 0x2100 ∨ a = 0x211C then s.viewPhs a else s.rd k)
  else if a < 0x4000 then s.viewCal a
  else if a < 0x5000 then s.viewCfg a
  else if a < 0x6000 then s.viewHwy p k a
  else if a < 0x8000 then s.viewPan p k a
  else if a < 0xA000 then s.viewChu ((a - 0x8000) / 0x20) (a % 0x20)
  else if a < 0xB000 then s.viewPrc p a
  else if a < 0xC000 then s.viewCel a
  else if 0xC100 ≤ a ∧ a < 0xC300 then s.viewEng ((a - 0xC100) / 0x20) (a % 0x20)
  else if a < 0xD000 then s.rd a
  else if a < 0xE000 then s.viewSdr a
  else if a < 0xE800 then s.viewSwp a
  else if isCtx a then s.viewCtx (ctxOf a) (a % 0x40)
  else s.rd k

end Sys2Proof.Machine
end

