-- ==== Sys2Proof/Machine/Bus.lean ====
section
/-!
DEFINITION. The access paths (R37, R519): what a read and a write of any address does, with its status (R428): pairs
(R18, R19), groups (R145), command registers, the Pantry window, and what is served before the commit (R477).
-/

namespace Sys2Proof.Machine

/-! ### Command registers -/

/-- The bits of `v` act in ascending order: bit `i` runs `fs[i]`. -/
def onBits (v : Word) (fs : List (State → State)) (s : State) : State :=
  (fs.foldl (fun (a : State × Nat) f => (if bit v a.2 then f a.1 else a.1, a.2 + 1)) (s, 0)).1

/-- CH_CMD (R63, R64). -/
def State.chCmd (s : State) (n : Nat) (v : Word) : State × Nat :=
  match bits v 0 4 with
  | 0 => (s, stDone)
  | 1 => (s.arm n, stDone)
  | 2 => (s.softQuench n, stDone)
  | 3 => (s.hardQuench n, stDone)
  | _ => (s, stReserved)

/-- WNG_ARM (R88). -/
def State.wngArm (s : State) (w : Nat) (mask : Word) : State :=
  (rangeFrom 0 16).foldl (fun s j => if bit mask j then s.arm (16 * w + j) else s) s
/-- WNG_QUENCH: soft quenches by bits [15:0], hard quenches by bits [31:16] (R88). -/
def State.wngQuench (s : State) (w : Nat) (mask : Word) : State :=
  (rangeFrom 0 16).foldl (fun s j =>
    if bit mask (16 + j) then s.hardQuench (16 * w + j) else if bit mask j then s.softQuench (16 * w + j) else s) s

/-- A load of the machine counters is armed (R200). -/
def State.armLoad (s : State) (k : LoadKind) : State := { s with mach := { s.mach with load := k } }
/-- PHS_CMD (R200, R212). -/
def State.phsCmd (s : State) (v : Word) : State :=
  let s := match bits v 0 2 with
    | 1 => s.armLoad .nextMark
    | 2 => s.armLoad .afterSec
    | 3 => s.armLoad .off
    | _ => s
  if bit v 2 then s.snapshot else s

/-- The alarm that a path's PHS_ALM_IDX names. -/
def State.almIdx (s : State) (p : Path) : Nat := s.rf (pkey p 0x2100) 0 12
/-- An entry is written; a firing in this tick still finds it as it stood before (R210). -/
def State.almPut (s : State) (i : Nat) (a : Alarm) : State :=
  let old := if (Tbl.get none s.almOld i).isSome then s.almOld else Tbl.put s.almOld i (some (s.alarm i))
  { s.setAlarm i a with almOld := old }
/-- PHS_ALM_CMD cmd = 1: the staged entry is written and checked (R209 to R211). -/
def State.almWrite (s : State) (p : Path) : State :=
  let i := s.almIdx p
  let a : Alarm := { cfg := s.rd (pkey p 0x2104), val := s.rd (pkey p 0x210C) ++ s.rd (pkey p 0x2108), per := s.rd (pkey p 0x2110) }
  let s := s.almPut i a
  if a.enabled && !a.periodic && s.almPassed a then s.almMiss i else s
/-- cmd = 2: entry and status into the path's registers (R211). -/
def State.almRead (s : State) (p : Path) : State :=
  let a := s.alarm (s.almIdx p)
  let s := (s.wr (pkey p 0x2104) a.cfg).wr (pkey p 0x2110) a.per
  let s := (s.wr (pkey p 0x2108) (halfOf a.val 0)).wr (pkey p 0x210C) (halfOf a.val 1)
  s.wr (pkey p 0x2118) (BitVec.ofNat 32 (b2n a.enabled + 2 * b2n a.missed + 65536 * a.fires))
/-- cmd = 3: the entry's enable is cleared. -/
def State.almDisable (s : State) (p : Path) : State :=
  let i := s.almIdx p
  let a := s.alarm i
  s.almPut i { a with cfg := clrBit a.cfg 0 }
/-- PHS_ALM_CMD (R211). -/
def State.almCmd (s : State) (p : Path) (v : Word) : State :=
  match bits v 0 2 with
  | 1 => s.almWrite p
  | 2 => s.almRead p
  | 3 => s.almDisable p
  | _ => s

/-- HRT_CMD first_arm (R317). -/
def State.firstArm (s : State) : State := s.wb 0x1060 21 false
/-- HRT_CMD clr_lost; a loss in the same tick stays counted (R14, R327). -/
def State.clrLost (s : State) : State := (s.wf 0x1030 16 16 0).incAfter 0x1030 0xFFFF0000#32
/-- cmd = 5 of HRT_SRC_CMD, with its status (R324). -/
def State.hostRelease (s : State) (p : Path) : State × Nat :=
  let k := s.srcIdx p
  if srcHostRelease k then
    (let s := s.leaveGrave k
     (if k = 0x421 then s.kprStart else s, stDone))
  else (s, stLocked)
/-- HRT_SRC_CMD (R322 to R328), with its status. -/
def State.srcCmd (s : State) (p : Path) (v : Word) : State × Nat :=
  match bits v 0 3 with
  | 1 => (s.srcWriteCfg p, stDone)
  | 2 => (s.srcRead p (s.srcLive (s.srcIdx p)), stDone)
  | 3 => (s.forceSet p, if s.injOk (s.srcIdx p) then stDone else stLocked)
  | 4 => (s.forceClear (s.srcIdx p), stDone)
  | 5 => s.hostRelease p
  | 6 => (s.occClear p, stDone)
  | _ => (s, stDone)

/-- CAL_CMD (R252, R260 to R263). -/
def State.calCmdWrite (s : State) (v : Word) : State :=
  let n := bits v 0 7
  match bits v 8 3 with
  | 1 => s.calCmd n 1
  | 2 => s.calCmd n 2
  | 3 => s.calSave n
  | 4 => s.calAbortCmd
  | 5 => s.calCache n
  | _ => s

/-- CFG_CMD (R339 to R351), with its status. -/
def State.cfgCmd (s : State) (v : Word) : State × Nat :=
  let w := bits v 4 3
  let k := bits v 8 6
  let bad := if 48 ≤ k then stReserved else stDone
  match bits v 0 4 with
  | 1 => (s.cfgCheck, bad)
  | 2 => (s.cfgApply w, bad)
  | 3 => if 48 ≤ k then (s, stReserved) else (s.cfgApplySlot w k, stDone)
  | 4 => if 48 ≤ k then (s, stReserved) else (s.cfgStoreSlot k, stDone)
  | 5 => (s.cfgStoreFnd, bad)
  | 6 => s.kprActivate
  | 7 => (s.cfgAbort, bad)
  | _ => (s, bad)

/-- CEL_CMD (R459, R461, R466), with its status. -/
def State.celCmd (s : State) (v : Word) : State × Nat :=
  let b := bits v 16 13
  match bits v 0 3 with
  | 1 => (s.scanStart, stDone)
  | 2 => (s.histWrite, stDone)
  | 3 => (s.wantRefresh b 0, stDone)
  | 4 => if s.allService then (s.markBad b, stDone) else (s, stLocked)
  | _ => (s, stDone)

/-- SWP_CTX_CMD (R168). -/
def State.ctxCmd (s : State) (c : Nat) (v : Word) : State :=
  match bits v 0 3 with
  | 1 => s.swpArm c
  | 2 => s.swpStart c
  | 3 => s.swpAbortCmd c
  | 4 => s.swpPauseCmd c
  | 5 => s.swpResume c
  | 6 => s.swpRelease c
  | _ => s

/-- GLB_BOOT_CMD (R479, R480), with its status. -/
def State.bootCmd (s : State) (p : Path) (v : Word) : State × Nat :=
  let r := if bit v 0 then s.bootGo (if Path.idx p < 2 then 2 else 3) else (s, stDone)
  if bit v 1 then (let q := r.1.bootStore
                   (q.1, if r.2 = stDone then q.2 else r.2)) else r

/-- A key word (PRC_KEY_n, R446). -/
def State.keyWrite (s : State) (n : Nat) (v : Word) : State :=
  s.modNet (fun x => { x with keys := Tbl.put x.keys (8 * s.rf 0xA410 0 2 + n) v })

/-- A write of one channel register that is a command; none for the others. -/
def State.chCommand (s : State) (n o : Nat) (v : Word) : Option (State × Nat) :=
  if o = 0x000 then some (s.chCmd n v)
  else if o = 0x214 then some (onBits v [fun s => s.apTrigger n, fun s => s.apStop n] s, stDone)
  else if o = 0x550 then some (if bit v 0 then s.rbNow n else s, stDone)
  else if o = 0x628 then some (onBits v [fun s => s.lnkRetrain n, fun s => s.lnkReenum n] s, stDone)
  else if o = 0x71C then some (onBits v [fun s => s.gpgFrom n 0, fun s => s.gpgStop n] s, stDone)
  else if o = 0xC0C then some (if bit v 0 then s.hmwSend n else s, stDone)
  else none

/-- A write of a command register; none for the other registers. -/
def State.command (s : State) (p : Path) (a : Nat) (v : Word) : Option (State × Nat) :=
  if isCh a then s.chCommand (chOf a) (a % 0x1000) v
  else if isWg a then
    (if a % 0x1000 = 0x100 then some (s.wngArm (wgOf a) v, stDone)
     else if a % 0x1000 = 0x104 then some (s.wngQuench (wgOf a) v, stDone)
     else none)
  else if isCtx a then (if a % 0x40 = 0x2C then some (s.ctxCmd (ctxOf a) v, stDone) else none)
  else if 0x8000 ≤ a ∧ a < 0xA000 then
    (if a % 0x20 = 0x18 then some (if bit v 31 then s.flushChute ((a - 0x8000) / 0x20) else s, stDone) else none)
  else if a = 0x018 then some (s.bootCmd p v)
  else if a = 0x020 then some (s.rstWrite v)
  else if a = 0x030 then some (s.modeWrite v)
  else if a = 0x1034 then some (onBits v [fun s => s.hrtPop, fun s => s.firstArm, fun s => s.clrLost] s, stDone)
  else if a = 0x1114 then some (s.srcCmd p v)
  else if a = 0x205C then some (s.phsCmd v, stDone)
  else if a = 0x2114 then some (s.almCmd p v, stDone)
  else if a = 0x301C then some (s.calCmdWrite v, stDone)
  else if a = 0x4008 then some (s.cfgCmd v)
  else if a = 0x5008 then some (s.hwyFire (bits v 0 16), stDone)
  else if a = 0x5104 then some (s.hwyCmd p (bits v 0 2))
  else if a = 0x5188 then some (if bit v 0 then s.tiClear p else s, stDone)
  else if 0x6000 ≤ a ∧ a < 0x6020 then some (s.panOwnWrite ((a - 0x6000) / 4) v)
  else if a = 0x6040 then some (s.panCmd v)
  else if a = 0xA408 then some (onBits v [fun s => s.failback, fun s => s.clrSessions] s, stDone)
  else if 0xA414 ≤ a ∧ a < 0xA434 then some (s.keyWrite ((a - 0xA414) / 4) v, stDone)
  else if a = 0xB034 then some (s.celCmd v)
  else if a = 0xD118 then (if bit v 0 then some (s.kprRing p) else some (s, stDone))
  else none

/-! ### Other registers -/

/-- What a stored write of a Porch register sets off: a port that is disabled, and the 1588 clock switched on or off. -/
def State.prcFx (s : State) (a : Nat) (old : Word) : State :=
  if (a = 0xA000 ∨ a = 0xA100) ∧ bit old 0 ∧ !s.rb a 0 then s.linkFalls ((a - 0xA000) / 0x100)
  else if a = 0xA404 then s.ptpEnable (bit old 10) (s.rb a 10)
  else s

/-- A write of one whole register (R10 to R16). -/
def State.regWrite (s : State) (p : Path) (a : Nat) (r : RegRow) (v : Word) : State × Nat :=
  match s.command p a v with
  | some x => x
  | none =>
    let k := s.keyOf p a r
    let old := s.rd k
    let x := s.hostStore p k a r v
    if 0xA000 ≤ a ∧ a < 0xB000 then (x.1.prcFx a old, x.2) else x

/-! ### Accesses (R519, R9, R18 to R20, R145, R477) -/

/-- The path reaches the registers at all (R477). -/
def State.pathOpen (s : State) (p : Path) : Bool := s.committed || decide (Path.idx p < 2) || s.porchOpen

/-- A write of the address is served: before the commit only GLB, PRC, SDR, KPR and the window of banks 0 and 1 are
(R477). -/
def State.mayWrite (s : State) (p : Path) (a : Nat) : Bool :=
  s.pathOpen p && (s.committed || decide (a < 0x1000) || (decide (0xA000 ≤ a) && decide (a < 0xB000))
    || (decide (0xD000 ≤ a) && decide (a < 0xE000)) || (inPantry a && decide (a < 0x2100000)))

/-- Bank, word and half of a window address (R357). -/
def winBank (a : Nat) : Nat := (a - 0x2000000) / 0x80000
def winWord (a : Nat) : Nat := a % 0x80000 / 8
def winHigh (a : Nat) : Bool := a % 8 == 4

/-- The read of the lead register of a group copies its members (R145). -/
def State.groupCopy (s : State) (p : Path) (a n : Nat) : State :=
  let vs := (rangeFrom 1 n).map (fun i => (pkey p (a + 4 * i), s.view p (a + 4 * i) (a + 4 * i)))
  s.setHolds (fun h => { h with grp := vs.foldl (fun t e => Tbl.put t e.1 e.2) h.grp })

/-- The number of members after the lead register at `a`. -/
def groupSize (a : Nat) : Nat :=
  if isCh a then 9 else if a = 0x1040 then 5 else if a = 0x20C0 then 4 else if a = 0x20E0 then 3 else 2

/-- A read of a register (R10, R18, R145). -/
def State.regRead (s : State) (p : Path) (a : Nat) (r : RegRow) : State × Reply :=
  let v := s.view p a (s.keyOf p a r)
  match r.part with
  | .single => (s, ⟨stDone, v⟩)
  | .low =>
    let hi := s.view p (a + 4) (s.keyOf p (a + 4) r)
    (s.holdRd (pkey p a) hi stDone, ⟨stDone, v⟩)
  | .high =>
    match s.rdHeld (pkey p (a - 4)) with
    | some x => (s.dropRd (pkey p (a - 4)), ⟨stDone, x⟩)
    | none => (s, ⟨stDone, v⟩)
  | .lead => (s.groupCopy p a (groupSize a), ⟨stDone, v⟩)
  | .member => (s, ⟨stDone, if Tbl.has s.holds.grp (pkey p a) then Tbl.get 0#32 s.holds.grp (pkey p a) else v⟩)

/-- A read on path `p`; `e` is what a window read finds in the bank's check bits (R359). -/
def State.busRead (s : State) (p : Path) (a : Nat) (e : Ecc) : State × Reply :=
  if !s.pathOpen p then (s, ⟨stLocked, 0#32⟩)
  else if inPantry a then s.windowRead p (winBank a) (winWord a) (winHigh a) e
  else
    match regRow a with
    | none => (s, ⟨stNoReg, 0#32⟩)
    | some r => s.regRead p a r

/-- A write to the high word of a pair of registers: both halves, with the held low word or the present one (R19). -/
def State.pairWrite (s : State) (p : Path) (a : Nat) (r : RegRow) (v : Word) : State × Nat :=
  match regRow (a - 4) with
  | none => (s, stDone)
  | some rl =>
    if rl.rw = 0 then (s, stDone)
    else
      let k := pkey p (a - 4)
      let lo := (s.wrHeld k).getD (s.rd (s.keyOf p (a - 4) rl))
      let x := (s.dropWr k).regWrite p (a - 4) rl lo
      let y := x.1.regWrite p a r v
      (y.1, if x.2 = stDone then y.2 else x.2)

/-- A write on path `p`, with its status; `e` is what the read of the present low half finds (R358), `other` what port
A writes to the same word in this tick (R365). -/
def State.busWrite (s : State) (p : Path) (a : Nat) (v : Word) (e : Ecc) (other : Option DWord) : State × Nat :=
  if !s.mayWrite p a then (s, stLocked)
  else if inPantry a then
    (if winHigh a then s.windowWrite p (winBank a) (winWord a) v e other
     else (s.windowLow p (winBank a) (winWord a) v, stDone))
  else
    match regRow a with
    | none => (s, stNoReg)
    | some r =>
      match r.part with
      | .low => if r.rw = 0 then (s, stDone) else (s.holdWr (pkey p a) v, stDone)
      | .high => s.pairWrite p a r v
      | _ => s.regWrite p a r v

/-! ### Replies -/

/-- The reply to the path's access is delivered (R428). -/
def State.reply (s : State) (p : Path) (r : Reply) : State := { s with replies := Tbl.put s.replies (Path.idx p) r }

/-- An access by a command of this model: a read, a write. -/
def State.hostRead (s : State) (p : Path) (a : Nat) (e : Ecc) : State :=
  let r := s.busRead p a e
  r.1.reply p r.2
def State.hostWrite (s : State) (p : Path) (a : Nat) (v : Word) (e : Ecc) (other : Option DWord) : State :=
  let r := s.busWrite p a v e other
  r.1.reply p ⟨r.2, 0#32⟩

end Sys2Proof.Machine
end

