-- ==== Sys2Proof/Machine/Doors.lean ====
section
/-!
DEFINITION. Register accesses that come in messages (R427 to R429) and in Side Door frames (R440 to R442).
-/

namespace Sys2Proof.Machine

/-! ### A list of accesses -/

/-- Accesses carried out one after the other: the state, how many, the first status that is not done with its index,
and the values read, newest first (R428). -/
structure Accs where
  s : State
  n : Nat := 0
  bad : Option (Nat × Nat) := none
  vals : List Word := []

/-- The status of an access. -/
def Accs.note (x : Accs) (s : State) (status : Nat) : Accs :=
  { x with s := s, n := x.n + 1, bad := if x.bad.isNone ∧ status ≠ stDone then some (status, x.n) else x.bad }

/-- A read of `a`; `es` is what the reads of the Pantry find, by access. -/
def Accs.read (p : Path) (es : List Ecc) (x : Accs) (a : Nat) : Accs :=
  let r := x.s.busRead p a (es.getD x.n .clean)
  { x.note r.1 r.2.status with vals := r.2.data :: x.vals }

/-- A write of `v` to `a`; a reset that one of the writes takes ends the accesses. -/
def Accs.write (p : Path) (es : List Ecc) (x : Accs) (e : Nat × Word) : Accs :=
  if x.s.pwr.held ≠ 0 then x
  else let r := x.s.busWrite p e.1 e.2 (es.getD x.n .clean) none
       x.note r.1 r.2

def State.reads (s : State) (p : Path) (es : List Ecc) (as : List Nat) : Accs := as.foldl (Accs.read p es) { s := s }
def State.writes (s : State) (p : Path) (es : List Ecc) (ws : List (Nat × Word)) : Accs := ws.foldl (Accs.write p es) { s := s }

/-- The status of the accesses: that of the first one that is not done. -/
def Accs.status (x : Accs) : Nat := match x.bad with
  | some b => b.1
  | none => stDone

/-- Addresses that ascend by 4. -/
def ascend (a n : Nat) : List Nat := (rangeFrom 0 n).map (fun i => (a + 4 * i) % 2 ^ 32)

/-! ### Messages (R429) -/

/-- The path of a port's messages. -/
def portPath (p : Nat) : Path := if p = 0 then .porch0 else .porch1

/-- The response body "index", then the values read. -/
def Accs.body (x : Accs) : List Byte :=
  leBytes 2 x.n ++ leBytes 2 (match x.bad with
    | some b => b.2
    | none => 0xFFFF) ++ x.vals.reverse.flatMap (fun v => leBytes 4 v.toNat)

/-- The accesses of a message are answered; a reset among them leaves nothing to answer. -/
def Accs.respond (x : Accs) (r : NetReq) : State := if x.s.pwr.held ≠ 0 then x.s else x.s.respond r x.status x.body true

/-- The words of a body. -/
def bodyWords (b : List Byte) (n : Nat) : List Word := (entries 4 n b).map (fun w => BitVec.ofNat 32 (leNat w))

/-- REG_READ. -/
def State.regReads (s : State) (p : Nat) (es : List Ecc) : State := s.netOp p 0x02 (fun s r =>
  let n := fld r.body 0 2
  if r.body.length ≠ 4 + 4 * n ∨ n = 0 ∨ 256 < n ∨ fld r.body 2 2 ≠ 0 then s.respond r 0x08 [] true
  else (s.reads (portPath p) es ((bodyWords (r.body.drop 4) n).map BitVec.toNat)).respond r)

/-- The pairs of address and value of a body. -/
def bodyPairs (b : List Byte) (n : Nat) : List (Nat × Word) :=
  (entries 8 n b).map (fun w => (fld w 0 4, BitVec.ofNat 32 (fld w 4 4)))

/-- REG_WRITE. -/
def State.regWrites (s : State) (p : Nat) (es : List Ecc) : State := s.netOp p 0x03 (fun s r =>
  let n := fld r.body 0 2
  if r.body.length ≠ 4 + 8 * n ∨ n = 0 ∨ 256 < n ∨ fld r.body 2 2 ≠ 0 then s.respond r 0x08 [] true
  else (s.writes (portPath p) es (bodyPairs (r.body.drop 4) n)).respond r)

/-- BLK_READ. -/
def State.blkReads (s : State) (p : Nat) (es : List Ecc) : State := s.netOp p 0x04 (fun s r =>
  let n := fld r.body 4 2
  if r.body.length ≠ 8 ∨ n = 0 ∨ 1024 < n ∨ fld r.body 6 2 ≠ 0 then s.respond r 0x08 [] true
  else (s.reads (portPath p) es (ascend (fld r.body 0 4) n)).respond r)

/-- BLK_WRITE. -/
def State.blkWrites (s : State) (p : Nat) (es : List Ecc) : State := s.netOp p 0x05 (fun s r =>
  let n := fld r.body 4 2
  if r.body.length ≠ 8 + 4 * n ∨ n = 0 ∨ 1024 < n ∨ fld r.body 6 2 ≠ 0 then s.respond r 0x08 [] true
  else (s.writes (portPath p) es (List.zip (ascend (fld r.body 0 4) n) (bodyWords (r.body.drop 8) n))).respond r)

/-- Window writes of whole words from byte offset `o` of a bank on. -/
def windowWrites (bank o : Nat) (ws : List Word) : List (Nat × Word) :=
  List.zip (ascend (panAddr bank 0 + o) ws.length) ws

/-- The register write that OVL_LOAD ends with when apply = 1: CFG_CMD with op 2. -/
def applyWrite (apply : Bool) (w : Nat) : List (Nat × Word) := if apply then [(0x4008, BitVec.ofNat 32 (2 + 16 * w))] else []

/-- OVL_LOAD. -/
def State.ovlLoad (s : State) (p : Nat) : State := s.netOp p 0x10 (fun s r => s.netOpen r (fun s =>
  let b := r.body
  let o := fld b 0 4
  let n := fld b 4 2
  if b.length ≠ 8 + n ∨ o % 8 ≠ 0 ∨ n % 8 ≠ 0 ∨ n < 8 ∨ 4096 < n ∨ 0x80000 < o + n ∨ 1 < fld b 6 1 ∨ 7 < fld b 7 1 then s.respond r 0x08 [] true
  else
    let ws := windowWrites s.stageBank o (bodyWords (b.drop 8) (n / 4)) ++ applyWrite (fld b 6 1 == 1) (fld b 7 1)
    (s.writes (portPath p) [] ws).respond r))

/-- SWEEP_LOAD: the context's registers, the step records at their tags, and ARM. -/
def State.sweepLoad (s : State) (p : Nat) : State := s.netOp p 0x11 (fun s r => s.netOpen r (fun s =>
  let b := r.body
  let c := fld b 0 1
  let n := fld b 2 2
  let t := fld b 4 4
  if b.length ≠ 52 + 16 * n ∨ 31 < c ∨ 1 < fld b 1 1 ∨ 508 < n ∨ 32768 < t + n then s.respond r 0x08 [] true
  else
    let regs := List.zip (ascend (ctxA c 0) 11) (bodyWords (b.drop 8) 11)
    let recs := windowWrites s.stepBank (16 * t) (bodyWords (b.drop 52) (4 * n))
    let arm : List (Nat × Word) := if fld b 1 1 = 1 then [(ctxA c 0x2C, 1#32)] else []
    (s.writes (portPath p) [] (regs ++ recs ++ arm)).respond r))

/-! ### Side Door frames (R440 to R442)

A frame is given by the bytes the host sends up to its CRC; `late` says that the accesses are not ready by the status
byte (R441, R442). -/

/-- A frame with a good CRC runs `f` on the bytes before the CRC; a bad one is answered with 0x09. -/
def State.sdTake (s : State) (b : List Byte) (f : State → List Byte → State) : State :=
  if s.sdFenced then s
  else
    let n := b.length - 2
    let s := s.sdFrame
    if crc16 (b.take n) ≠ beNat (b.drop n) then { s.sdError 0 with sdOut := [0x09#8] } else f s (b.take n)

/-- Op of byte 0, and n. -/
def sdOp (b : List Byte) : Nat := fld b 0 1 / 64
def sdWords (b : List Byte) : Nat := fld b 0 1 % 64 + 1

/-- The answer to a read: status, data, and the CRC over both. -/
def sdAnswer (status : Nat) (data : List Byte) : List Byte :=
  let x := leBytes 1 status ++ data
  x ++ beBytes 2 (crc16 x)

/-- SIDE_DOOR_READ. -/
def State.sdRead (s : State) (b : List Byte) (es : List Ecc) (late : Bool) : State :=
  if b.length ≠ 7 ∨ sdOp b ≠ 1 then s
  else s.sdTake b (fun s b =>
    let n := sdWords b
    let x := s.reads .sideDoor es (ascend (beNat (b.drop 1)) n)
    let out := if late then sdAnswer 0xFF (List.replicate (4 * n) 0xFF#8)
      else sdAnswer x.status (x.vals.reverse.flatMap (fun v => beBytes 4 v.toNat))
    { x.s with sdLast := x.status, sdOut := out })

/-- SIDE_DOOR_WRITE. -/
def State.sdWrite (s : State) (b : List Byte) (es : List Ecc) (late : Bool) : State :=
  if sdOp b ≠ 2 ∨ b.length ≠ 7 + 4 * sdWords b then s
  else s.sdTake b (fun s b =>
    let ws := (entries 4 (sdWords b) (b.drop 5)).map (fun w => BitVec.ofNat 32 (beNat w))
    let x := s.writes .sideDoor es (List.zip (ascend (beNat ((b.drop 1).take 4)) (sdWords b)) ws)
    { x.s with sdLast := x.status, sdOut := leBytes 1 (if late then 0xFF else x.status) })

/-- SIDE_DOOR_STATUS. -/
def State.sdStatus (s : State) (b : List Byte) : State :=
  if b.length ≠ 3 ∨ fld b 0 1 ≠ 0xC0 then s
  else s.sdTake b (fun s _ => { s with sdOut := leBytes 1 s.sdLast })

end Sys2Proof.Machine
end

