-- ==== Sys2Proof/Machine/Live.lean ====
section
/-!
DEFINITION. What every command has in common: time passes first (log 1), then its effect, then what the units see of
each other, and the pins follow.
-/

namespace Sys2Proof.Machine

/-- A domain (0 machine, 1 mains) that `old` found usable and is no longer so, or the reverse: apertures and sweeps
that use it see the loss, the relock (R140, R181, R183). -/
def State.domHook (s old : State) (d : Nat) : State :=
  if old.domUsable d == s.domUsable d then s
  else if s.domUsable d then (s.apTimeBack d).swpDomBack d
  else (s.apTimeLost d).swpDomLost d

/-- The end of a command: the calibration sequencer takes a response and checks its run (R255, R259), the configuration
engine and the Keeper take what the Cellar has for them, and the pins follow. -/
def State.finish (s : State) : Host.Outcome State Fault Refusal := s.calOnRsp.calWatch.cfgWatch.kprWatch.done

/-- A command with effect `f`, `dt` after the one before. While a reset is held nothing but time has an effect (R473). -/
def State.live (s : State) (dt : Elapse) (f : State → State) : Host.Outcome State Fault Refusal :=
  let t := s.advance dt
  if t.pwr.held ≠ 0 then t.done else (((f t).domHook t 0).domHook t 1).finish

/-- A host command: before the Foundation's commit it completes "locked" without effect (R477). -/
def State.hosted (s : State) (dt : Elapse) (f : State → State) : Host.Outcome State Fault Refusal :=
  s.live dt (fun s => if s.committed then f s else s)

end Sys2Proof.Machine
end

