-- ==== Sys2Proof/Machine/CalCmds.lean ====
section
/-!
DEFINITION. The commands of the calibration sequencer (chapter 08).
-/

namespace Sys2Proof.Machine

/-- CAL_FULL_RUN_REQUEST (R252: CAL_CMD op 1). -/
def execCalFullRunRequest (dt : Elapse) (n : Fin 128) (s : State) : Host.Outcome State Fault Refusal :=
  s.hosted dt (fun s => s.calCmd n.val 1)

/-- CAL_GAIN_RUN_REQUEST (R252: CAL_CMD op 2). -/
def execCalGainRunRequest (dt : Elapse) (n : Fin 128) (s : State) : Host.Outcome State Fault Refusal :=
  s.hosted dt (fun s => s.calCmd n.val 2)

/-- CAL_SAVE (R262: CAL_CMD op 3). -/
def execCalSave (dt : Elapse) (n : Fin 128) (s : State) : Host.Outcome State Fault Refusal :=
  s.hosted dt (fun s => s.calSave n.val)

/-- CAL_ABORT (R260: CAL_CMD op 4). -/
def execCalAbort (dt : Elapse) (s : State) : Host.Outcome State Fault Refusal :=
  s.hosted dt (fun s => s.calAbortCmd)

/-- CAL_RELOAD (R263: CAL_CMD op 5). -/
def execCalReload (dt : Elapse) (n : Fin 128) (s : State) : Host.Outcome State Fault Refusal :=
  s.hosted dt (fun s => s.calCache n.val)

/-- TEMPERATURE_TRIGGER (R253: a full second of the house tick). -/
def execTemperatureTrigger (dt : Elapse) (s : State) : Host.Outcome State Fault Refusal :=
  s.live dt (fun s => s.tempTrigger)

/-- TI_CAL_GO (R252: an event at ti_cal_go). -/
def execTiCalGo (dt : Elapse) (s : State) : Host.Outcome State Fault Refusal :=
  s.live dt (fun s => (s.tiTake 0x181).calGo)

/-- CAL_RUN_START (R254: the idle sequencer starts the next run). -/
def execCalRunStart (dt : Elapse) (s : State) : Host.Outcome State Fault Refusal :=
  s.live dt (fun s => s.calRunStart)

/-- ROUTE_ACK_TIMEOUT (R259: a route is not acknowledged within 10 ms). -/
def execRouteAckTimeout (dt : Elapse) (s : State) : Host.Outcome State Fault Refusal :=
  s.live dt (fun s => s.routeTimeout)

/-- CAL_TMO_EXPIRED (R259). -/
def execCalTmoExpired (dt : Elapse) (s : State) : Host.Outcome State Fault Refusal :=
  s.live dt (fun s => s.calTimeout)

/-- CAL_STORE_CONFIRMED (R262: the Cellar has confirmed a store, or failed it). -/
def execCalStoreConfirmed (dt : Elapse) (s : State) : Host.Outcome State Fault Refusal :=
  s.live dt (fun s => s.calConfirmed)

/-- CAL_WAIT_EXPIRY (R257: a wait of settle_ms or inj_ms ends). -/
def execCalWaitExpiry (dt : Elapse) (s : State) : Host.Outcome State Fault Refusal :=
  s.live dt (fun s => s.calWaitEnd)

/-- CAL_SEQUENCER_FENCE (R259: a fence event of the Hearth). -/
def execCalSequencerFence (dt : Elapse) (s : State) : Host.Outcome State Fault Refusal :=
  s.live dt (fun s => s.calFence)

end Sys2Proof.Machine
end

