-- ==== Sys2Proof/Machine/CellarCmds.lean ====
section
/-!
DEFINITION. The commands of the Cellar (chapter 16). The operands `outs` are the outcomes of the NAND operations, in order.
-/

namespace Sys2Proof.Machine

/-- A word for CEL_CMD: op and block. -/
def celWord (op : Nat) (blk : BitVec 13) : Word := BitVec.ofNat 32 (op + 65536 * blk.toNat)

/-- CELLAR_MOUNT (R463: what the Cellar finds at boot). -/
def execCellarMount (dt : Elapse) (part : NandPart) (s : State) : Host.Outcome State Fault Refusal :=
  s.live dt (fun s => s.mountStep part)

/-- UNIT_STORE (R456: the store under way runs to its end). -/
def execUnitStore (dt : Elapse) (outs : List NandOut) (s : State) : Host.Outcome State Fault Refusal :=
  s.live dt (fun s => s.celRun .unitStore outs 8192)

/-- UNIT_READ (R457: the read under way runs to its end). -/
def execUnitRead (dt : Elapse) (outs : List NandOut) (s : State) : Host.Outcome State Fault Refusal :=
  s.live dt (fun s => s.celRun .unitRead outs 8192)

/-- JOURNAL_APPEND (R458: the journal pages that are due are written). -/
def execJournalAppend (dt : Elapse) (outs : List NandOut) (s : State) : Host.Outcome State Fault Refusal :=
  s.live dt (fun s => s.celRun .cal outs 8192)

/-- JOURNAL_COMPACTION (R458: the journal is compacted where fewer than 64 erased pages remain). -/
def execJournalCompaction (dt : Elapse) (outs : List NandOut) (s : State) : Host.Outcome State Fault Refusal :=
  s.live dt (fun s => s.wantCompact.celRun .compact outs 8192)

/-- HISTORY_PAGE_WRITE (R459: a full buffer, or a page asked for, is written). -/
def execHistoryPageWrite (dt : Elapse) (outs : List NandOut) (s : State) : Host.Outcome State Fault Refusal :=
  s.live dt (fun s => (if s.histFull then s.histWrite else s).celRun .history outs 8192)

/-- HIST_FLUSH_TIMER (R459: hist_flush_s after the oldest buffered entry). -/
def execHistFlushTimer (dt : Elapse) (s : State) : Host.Outcome State Fault Refusal :=
  s.live dt (fun s => s.histTimer)

/-- NAND_OP_TIMEOUT (R449: the operation has not ended within its limit). -/
def execNandOpTimeout (dt : Elapse) (s : State) : Host.Outcome State Fault Refusal :=
  s.live dt (fun s => s.nandTimeout)

/-- NAND_OPERATION_DONE (R449: READ STATUS ends the operation). -/
def execNandOperationDone (dt : Elapse) (out : NandOut) (s : State) : Host.Outcome State Fault Refusal :=
  s.live dt (fun s => s.nandDone out)

/-- BLOCK_REFRESH (R461: the refresh under way runs to its end). -/
def execBlockRefresh (dt : Elapse) (outs : List NandOut) (s : State) : Host.Outcome State Fault Refusal :=
  s.live dt (fun s => s.celRun .refresh outs 8192)

/-- RETENTION_SCAN_READ (R461: the scan reads its next page). -/
def execRetentionScanRead (dt : Elapse) (outs : List NandOut) (s : State) : Host.Outcome State Fault Refusal :=
  s.live dt (fun s => s.scanRead.celRun .scan outs 8192)

/-- WEAR_MIGRATION (R460: the coldest block moves to the most worn free block). -/
def execWearMigration (dt : Elapse) (outs : List NandOut) (s : State) : Host.Outcome State Fault Refusal :=
  s.live dt (fun s => s.wearMove.celRun .refresh outs 8192)

/-- CEL_RETENTION_PASS (R466: CEL_CMD op 1). -/
def execCelRetentionPass (dt : Elapse) (p : Path) (s : State) : Host.Outcome State Fault Refusal :=
  s.live dt (fun s => s.hostWrite p 0xB034 1#32 .clean none)

/-- CEL_FLUSH_HISTORY (R459: CEL_CMD op 2). -/
def execCelFlushHistory (dt : Elapse) (p : Path) (s : State) : Host.Outcome State Fault Refusal :=
  s.live dt (fun s => s.hostWrite p 0xB034 2#32 .clean none)

/-- CEL_REFRESH_BLOCK (R461: CEL_CMD op 3). -/
def execCelRefreshBlock (dt : Elapse) (p : Path) (blk : BitVec 13) (s : State) : Host.Outcome State Fault Refusal :=
  s.live dt (fun s => s.hostWrite p 0xB034 (celWord 3 blk) .clean none)

/-- CEL_MARK_BAD (R466: CEL_CMD op 4). -/
def execCelMarkBad (dt : Elapse) (p : Path) (blk : BitVec 13) (s : State) : Host.Outcome State Fault Refusal :=
  s.live dt (fun s => s.hostWrite p 0xB034 (celWord 4 blk) .clean none)

/-- CELLAR_FENCE (R464: a fence event of the Hearth). -/
def execCellarFence (dt : Elapse) (s : State) : Host.Outcome State Fault Refusal :=
  s.live dt (fun s => s.celFence)

end Sys2Proof.Machine
end

