-- ==== Sys2Proof/Machine/ChannelCmds.lean ====
section
/-!
DEFINITION. The commands of the channels and their pulse generators (chapters 01 and 02).
-/

namespace Sys2Proof.Machine

/-- arm_timeout expires in ARMING, counted from the rise of GATE (R60). -/
def State.armTimeout (s : State) (n : Nat) : State :=
  let c := s.ch n
  if c.st = .arming ∧ c.gateUp ∧ 1024 * c.armLim ≤ s.since c.armStart then s.cause n 0x04 else s

/-- GATE of an arming channel rises once it may, and arm_timeout counts from there (R60). -/
def State.armingGate (s : State) (n : Nat) : State :=
  let c := s.ch n
  if c.st = .arming ∧ !c.gateUp ∧ s.gateMayRise n then
    s.setCh n { c with gateUp := true, armStart := s.htick, armLim := s.rf (chA n 0x014) 0 16 }
  else s

/-! ### Period boundary, commands and transitions -/

/-- PERIOD_BOUNDARY (R31: the boundary of channel `n`; `tripped` says which of its Guard comparators are tripped now). -/
def execPeriodBoundary (dt : Elapse) (n : Fin 128) (tripped : BitVec 2) (s : State) : Host.Outcome State Fault Refusal :=
  s.live dt (fun s => s.boundary n.val tripped)

/-- COMP_MAX_REACHED (R57: comp_max periods in COMPLIANCE have elapsed). -/
def execCompMaxReached (dt : Elapse) (n : Fin 128) (s : State) : Host.Outcome State Fault Refusal :=
  s.live dt (fun s => s.compMax n.val)

/-- ARM (R64: the checks, then ARMING or a reject code). -/
def execArm (dt : Elapse) (n : Fin 128) (s : State) : Host.Outcome State Fault Refusal :=
  s.hosted dt (fun s => s.arm n.val)

/-- SOFT_QUENCH (R60: acts at the next frame-grid edge). -/
def execSoftQuench (dt : Elapse) (n : Fin 128) (s : State) : Host.Outcome State Fault Refusal :=
  s.hosted dt (fun s => s.softQuench n.val)

/-- HARD_QUENCH (R60: acts at once). -/
def execHardQuench (dt : Elapse) (n : Fin 128) (s : State) : Host.Outcome State Fault Refusal :=
  s.hosted dt (fun s => s.hardQuench n.val)

/-- WNG_ARM (R88: ARM to every channel of the wing whose bit is set). -/
def execWngArm (dt : Elapse) (w : Fin 8) (mask : BitVec 16) (s : State) : Host.Outcome State Fault Refusal :=
  s.hosted dt (fun s => s.wngArm w.val (mask.setWidth 32))

/-- WNG_QUENCH (R88: soft and hard quenches in one house tick). -/
def execWngQuench (dt : Elapse) (w : Fin 8) (soft hard : BitVec 16) (s : State) : Host.Outcome State Fault Refusal :=
  s.hosted dt (fun s => s.wngQuench w.val (hard ++ soft))

/-- ARM_TIMEOUT (R60: arm_timeout has expired since GATE rose, in ARMING). -/
def execArmTimeout (dt : Elapse) (n : Fin 128) (s : State) : Host.Outcome State Fault Refusal :=
  s.live dt (fun s => s.armTimeout n.val)

/-- ARMING_GATE_RISE (R60: GATE has been low for 1,024 house ticks). -/
def execArmingGateRise (dt : Elapse) (n : Fin 128) (s : State) : Host.Outcome State Fault Refusal :=
  s.live dt (fun s => s.armingGate n.val)

/-- HOLD_EXPIRED (R65). -/
def execHoldExpired (dt : Elapse) (n : Fin 128) (s : State) : Host.Outcome State Fault Refusal :=
  s.live dt (fun s => s.holdExpired n.val)

/-- TI_TAKEOVER (R124: an event on ti_takeover). -/
def execTiTakeover (dt : Elapse) (n : Fin 128) (s : State) : Host.Outcome State Fault Refusal :=
  s.live dt (fun s => s.takeover n.val)

/-- TI_NOSPARE (R67: an event on ti_nospare). -/
def execTiNospare (dt : Elapse) (n : Fin 128) (s : State) : Host.Outcome State Fault Refusal :=
  s.live dt (fun s => s.noSpare n.val)

/-- RAMPDOWN_FRAME (R68: one frame-grid edge in RAMPDOWN). -/
def execRampdownFrame (dt : Elapse) (n : Fin 128) (s : State) : Host.Outcome State Fault Refusal :=
  s.live dt (fun s => s.rampFrame n.val)

/-- CHANNEL_FENCE (R72: a fence event of the Hearth). -/
def execChannelFence (dt : Elapse) (n : Fin 128) (s : State) : Host.Outcome State Fault Refusal :=
  s.live dt (fun s => s.fenceChannel n.val)

/-- HEAD_READY (R83: the constant load of an enumerated head is complete). -/
def execHeadReady (dt : Elapse) (n : Fin 128) (s : State) : Host.Outcome State Fault Refusal :=
  s.live dt (fun s => s.headIsReady n.val)

/-! ### GATE pulse generator -/

/-- GPG_FIRE (R78: a host fire command). -/
def execGpgFire (dt : Elapse) (n : Fin 128) (s : State) : Host.Outcome State Fault Refusal :=
  s.hosted dt (fun s => s.gpgFrom n.val 0)

/-- GPG_STOP (R87: a host stop command). -/
def execGpgStop (dt : Elapse) (n : Fin 128) (s : State) : Host.Outcome State Fault Refusal :=
  s.hosted dt (fun s => s.gpgStop n.val)

/-- TI_PULSE_TRIGGER (R78: an event at ti_pulse). -/
def execTiPulseTrigger (dt : Elapse) (n : Fin 128) (s : State) : Host.Outcome State Fault Refusal :=
  s.live dt (fun s => (s.tiTake (2 * n.val)).gpgFrom n.val 1)

/-- PULSE_START (R78: the begin of pulse j is reached). -/
def execPulseStart (dt : Elapse) (n : Fin 128) (s : State) : Host.Outcome State Fault Refusal :=
  s.live dt (fun s => s.pulseStart n.val)

/-- PULSE_END (R78: the width of the pulse has elapsed). -/
def execPulseEnd (dt : Elapse) (n : Fin 128) (s : State) : Host.Outcome State Fault Refusal :=
  s.live dt (fun s => s.pulseEnd n.val)

end Sys2Proof.Machine
end

