-- ==== Sys2Proof/Machine/ConfigCmds.lean ====
section
/-!
DEFINITION. The commands of the configuration engine (chapter 11).
-/

namespace Sys2Proof.Machine

/-- A word for CFG_CMD: op, wing and slot. -/
def cfgWord (op w slot : Nat) : Word := BitVec.ofNat 32 (op + 16 * w + 256 * slot)

/-- Tick C: the Foundation's records take effect, those of the Porch with what a write of them sets off (R340). -/
def State.commitC (s : State) : State :=
  let t := s.foundationCommit
  if t.committed = s.committed then t
  else [0xA000, 0xA100, 0xA404].foldl (fun t a => t.prcFx a (s.rd a)) t

/-- CFG_CHECK_STAGING (R339: CFG_CMD op 1). -/
def execCfgCheckStaging (dt : Elapse) (p : Path) (s : State) : Host.Outcome State Fault Refusal :=
  s.live dt (fun s => s.hostWrite p 0x4008 1#32 .clean none)

/-- CFG_APPLY_STAGING (R343: CFG_CMD op 2). -/
def execCfgApplyStaging (dt : Elapse) (p : Path) (w : Fin 8) (s : State) : Host.Outcome State Fault Refusal :=
  s.live dt (fun s => s.hostWrite p 0x4008 (cfgWord 2 w.val 0) .clean none)

/-- CFG_APPLY_SLOT (R343: CFG_CMD op 3). -/
def execCfgApplySlot (dt : Elapse) (p : Path) (w : Fin 8) (slot : BitVec 6) (s : State) : Host.Outcome State Fault Refusal :=
  s.live dt (fun s => s.hostWrite p 0x4008 (cfgWord 3 w.val slot.toNat) .clean none)

/-- CFG_STORE_SLOT (R342: CFG_CMD op 4). -/
def execCfgStoreSlot (dt : Elapse) (p : Path) (slot : BitVec 6) (s : State) : Host.Outcome State Fault Refusal :=
  s.live dt (fun s => s.hostWrite p 0x4008 (cfgWord 4 0 slot.toNat) .clean none)

/-- CFG_STORE_FOUNDATION (R351: CFG_CMD op 5). -/
def execCfgStoreFoundation (dt : Elapse) (p : Path) (s : State) : Host.Outcome State Fault Refusal :=
  s.live dt (fun s => s.hostWrite p 0x4008 5#32 .clean none)

/-- CFG_ACTIVATE_KEEPER (R350: CFG_CMD op 6). -/
def execCfgActivateKeeper (dt : Elapse) (p : Path) (s : State) : Host.Outcome State Fault Refusal :=
  s.live dt (fun s => s.hostWrite p 0x4008 6#32 .clean none)

/-- CFG_ABORT (R348: CFG_CMD op 7). -/
def execCfgAbort (dt : Elapse) (p : Path) (s : State) : Host.Outcome State Fault Refusal :=
  s.live dt (fun s => s.hostWrite p 0x4008 7#32 .clean none)

/-- FOUNDATION_COMMIT (R340: tick C of a checked Foundation). -/
def execFoundationCommit (dt : Elapse) (s : State) : Host.Outcome State Fault Refusal :=
  s.live dt (fun s => s.commitC)

/-- OVERLAY_APPLY_A (R344: tick A of an apply). -/
def execOverlayApplyA (dt : Elapse) (s : State) : Host.Outcome State Fault Refusal :=
  s.live dt (fun s => s.applyA)

/-- KEEPER_READY (R350: the Keeper reports ready). -/
def execKeeperReady (dt : Elapse) (s : State) : Host.Outcome State Fault Refusal :=
  s.live dt (fun s => s.kprReady)

/-- KEEPER_READY_TIMEOUT (R350: 2 s after a restart without ready). -/
def execKeeperReadyTimeout (dt : Elapse) (s : State) : Host.Outcome State Fault Refusal :=
  s.live dt (fun s => s.kprReadyTimeout)

/-- SCRUB_READ (R352: the scrub engine reads item `index` of a region; it differs from its reference, its reference is lost, it ends a pass). -/
def execScrubRead (dt : Elapse) (region : Fin 16) (index : Nat) (differs refBad ends : Bool)
    (s : State) : Host.Outcome State Fault Refusal :=
  s.live dt (fun s => s.scrubRead region.val index differs refBad ends)

/-- CFG_ENGINE_FENCE (R348: a fence event of the Hearth). -/
def execCfgEngineFence (dt : Elapse) (s : State) : Host.Outcome State Fault Refusal :=
  s.live dt (fun s => s.cfgFence)

end Sys2Proof.Machine
end

