-- ==== Sys2Proof/Machine/DoorCmds.lean ====
section
/-!
DEFINITION. The commands of the Side Door and the Keeper (chapter 15).
-/

namespace Sys2Proof.Machine

/-! ### Side Door -/

/-- SIDE_DOOR_READ (R441: a read frame, by the bytes up to its CRC). -/
def execSideDoorRead (dt : Elapse) (b : List Byte) (es : List Ecc) (late : Bool) (s : State) : Host.Outcome State Fault Refusal :=
  s.live dt (fun s => s.sdRead b es late)

/-- SIDE_DOOR_WRITE (R442: a write frame, by the bytes up to its CRC). -/
def execSideDoorWrite (dt : Elapse) (b : List Byte) (es : List Ecc) (late : Bool)
    (s : State) : Host.Outcome State Fault Refusal :=
  s.live dt (fun s => s.sdWrite b es late)

/-- SIDE_DOOR_STATUS (R442: a STATUS frame). -/
def execSideDoorStatus (dt : Elapse) (b : List Byte) (s : State) : Host.Outcome State Fault Refusal :=
  s.live dt (fun s => s.sdStatus b)

/-- SIDE_DOOR_BAD_CMD (R442: a frame with op 0). -/
def execSideDoorBadCmd (dt : Elapse) (b : List Byte) (s : State) : Host.Outcome State Fault Refusal :=
  s.live dt (fun s => s.sdBad b)

/-- FRAME_ERR (R442: a frame ends before its CRC). -/
def execFrameErr (dt : Elapse) (s : State) : Host.Outcome State Fault Refusal :=
  s.live dt (fun s => s.sdShort)

/-- SIDE_DOOR_FENCE (R304: a fence event of the Hearth). -/
def execSideDoorFence (dt : Elapse) (s : State) : Host.Outcome State Fault Refusal :=
  s.live dt (fun s => s.sdFence)

/-! ### Keeper -/

/-- KPR_DOOR_RING (R443: a write of ring to KPR_DOOR). -/
def execKprDoorRing (dt : Elapse) (p : Path) (s : State) : Host.Outcome State Fault Refusal :=
  s.live dt (fun s => s.hostWrite p 0xD118 1#32 .clean none)

/-- INFO (R444). -/
def execInfo (dt : Elapse) (s : State) : Host.Outcome State Fault Refusal :=
  s.live dt (fun s => s.kprInfo)

/-- IMG_LOAD (R444). -/
def execImgLoad (dt : Elapse) (s : State) : Host.Outcome State Fault Refusal :=
  s.live dt (fun s => s.kprLoad)

/-- FUSE_KEY (R444; `ok`: the burn verifies). -/
def execFuseKey (dt : Elapse) (ok : Bool) (s : State) : Host.Outcome State Fault Refusal :=
  s.live dt (fun s => s.fuseKey ok)

/-- FUSE_REVOKE (R444; `ok`: the burn verifies). -/
def execFuseRevoke (dt : Elapse) (ok : Bool) (s : State) : Host.Outcome State Fault Refusal :=
  s.live dt (fun s => s.fuseRevoke ok)

/-- FUSE_MINVER (R444; `ok`: the burn verifies). -/
def execFuseMinver (dt : Elapse) (ok : Bool) (s : State) : Host.Outcome State Fault Refusal :=
  s.live dt (fun s => s.fuseMinver ok)

/-- FUSE_SECURE (R444; `ok`: the burn verifies). -/
def execFuseSecure (dt : Elapse) (ok : Bool) (s : State) : Host.Outcome State Fault Refusal :=
  s.live dt (fun s => s.fuseSecure ok)

/-- HIST_READ (R444). -/
def execHistRead (dt : Elapse) (s : State) : Host.Outcome State Fault Refusal :=
  s.live dt (fun s => s.kprHist)

/-- MAILBOX_TIMEOUT (R443: the command exceeds its bound). -/
def execMailboxTimeout (dt : Elapse) (s : State) : Host.Outcome State Fault Refusal :=
  s.live dt (fun s => s.kprTimeout)

/-- MAILBOX_COMMAND_END (R443: the result of the command is loaded). -/
def execMailboxCommandEnd (dt : Elapse) (s : State) : Host.Outcome State Fault Refusal :=
  s.live dt (fun s => s.kprCmdEnd)

/-- KEEPER_WDOG (R447: no heartbeat for 1 s). -/
def execKeeperWdog (dt : Elapse) (s : State) : Host.Outcome State Fault Refusal :=
  s.live dt (fun s => s.kprWdog)

/-- KEEPER_FENCE (R304: a fence event of the Hearth). -/
def execKeeperFence (dt : Elapse) (s : State) : Host.Outcome State Fault Refusal :=
  s.live dt (fun s => s.kprFence)

/-- KEEPER_FAULT (R447: the Keeper reports an internal fault). -/
def execKeeperFault (dt : Elapse) (s : State) : Host.Outcome State Fault Refusal :=
  s.live dt (fun s => s.kprInternal)

end Sys2Proof.Machine
end

