-- ==== Sys2Proof/Machine/Fabric.lean ====
section
/-!
DEFINITION. The commands of the register fabric (chapters 00, 01, 19): accesses to registers, pairs and groups.
-/

namespace Sys2Proof.Machine

/-- The part that the register at `a` plays in a pair or a group. -/
def partAt (a : Nat) : Option RegPart := (regRow a).map (fun r => r.part)

/-- REGISTER_WRITE (R10): a write of any address; on a register of a row of its own it acts as that row says. -/
def execRegisterWrite (dt : Elapse) (p : Path) (a : BitVec 32) (v : Word) (s : State) : Host.Outcome State Fault Refusal :=
  s.live dt (fun s => s.hostWrite p a.toNat v .clean none)

/-- PAIR_LOW_READ (R18): a read of the low word of a pair. -/
def execPairLowRead (dt : Elapse) (p : Path) (a : BitVec 32) (s : State) : Host.Outcome State Fault Refusal :=
  s.live dt (fun s => if partAt a.toNat = some .low then s.hostRead p a.toNat .clean else s)

/-- PAIR_LOW_WRITE (R19): a write of the low word of a pair. -/
def execPairLowWrite (dt : Elapse) (p : Path) (a : BitVec 32) (v : Word) (s : State) : Host.Outcome State Fault Refusal :=
  s.live dt (fun s => if partAt a.toNat = some .low then s.hostWrite p a.toNat v .clean none else s)

/-- PAIR_HIGH_WRITE (R19): a write of the high word of a pair. -/
def execPairHighWrite (dt : Elapse) (p : Path) (a : BitVec 32) (v : Word) (s : State) : Host.Outcome State Fault Refusal :=
  s.live dt (fun s => if partAt a.toNat = some .high then s.hostWrite p a.toNat v .clean none else s)

/-- MEAS_LAST_V_LO_READ (R145). -/
def execMeasLastVLoRead (dt : Elapse) (p : Path) (n : Fin 128) (s : State) : Host.Outcome State Fault Refusal :=
  s.live dt (fun s => s.hostRead p (chA n.val 0x230) .clean)

/-- MARK_HTICK_LO_READ (R213). -/
def execMarkHtickLoRead (dt : Elapse) (p : Path) (s : State) : Host.Outcome State Fault Refusal :=
  s.live dt (fun s => s.hostRead p 0x20C0 .clean)

/-- PPS_HTICK_LO_READ (R213). -/
def execPpsHtickLoRead (dt : Elapse) (p : Path) (s : State) : Host.Outcome State Fault Refusal :=
  s.live dt (fun s => s.hostRead p 0x20E0 .clean)

/-- HRT_REC_SRC_READ (R315). -/
def execHrtRecSrcRead (dt : Elapse) (p : Path) (s : State) : Host.Outcome State Fault Refusal :=
  s.live dt (fun s => s.hostRead p 0x1040 .clean)

/-- TOD_SEC_LO_READ (R437). -/
def execTodSecLoRead (dt : Elapse) (p : Path) (s : State) : Host.Outcome State Fault Refusal :=
  s.live dt (fun s => s.hostRead p 0xA488 .clean)

/-- W1C_FLAG_CLEAR (R12): a write of ones to a register with W1C flags. -/
def execW1cFlagClear (dt : Elapse) (p : Path) (a : BitVec 32) (v : Word) (s : State) : Host.Outcome State Fault Refusal :=
  s.live dt (fun s => if (regRow a.toNat).any (fun r => r.w1c != 0) then s.hostWrite p a.toNat v .clean none else s)

/-- PANTRY_WINDOW_READ (R359): a read of one half of a word of a bank. -/
def execPantryWindowRead (dt : Elapse) (p : Path) (b : Fin 64) (i : BitVec 16) (high : Bool) (e : Ecc) (s : State) :
    Host.Outcome State Fault Refusal :=
  s.live dt (fun s => s.hostRead p (panAddr b.val i.toNat + 4 * b2n high) e)

/-- PANTRY_WINDOW_WRITE (R358): a write of the high half of a word of a bank. -/
def execPantryWindowWrite (dt : Elapse) (p : Path) (b : Fin 64) (i : BitVec 16) (v : Word) (e : Ecc) (other : Option DWord)
    (s : State) : Host.Outcome State Fault Refusal :=
  s.live dt (fun s => s.hostWrite p (panAddr b.val i.toNat + 4) v e other)

/-- STEP_BANK_WINDOW_WRITE (R160): a write of the high half of a word of the step or the result bank. -/
def execStepBankWindowWrite (dt : Elapse) (p : Path) (b : Fin 64) (i : BitVec 16) (v : Word) (e : Ecc) (s : State) :
    Host.Outcome State Fault Refusal :=
  s.live dt (fun s => if s.owner b.val = 2 then s.hostWrite p (panAddr b.val i.toNat + 4) v e none else s)

end Sys2Proof.Machine
end

