-- ==== Sys2Proof/Machine/HallwayCmds.lean ====
section
/-!
DEFINITION. The commands of the Hallway (chapter 13).
-/

namespace Sys2Proof.Machine

/-- HALLWAY_EVENT (R384: an edge of producer `p`; `half` says that it falls into the second half of its house tick). -/
def execHallwayEvent (dt : Elapse) (p : BitVec 12) (half : Bool) (s : State) : Host.Outcome State Fault Refusal :=
  s.live dt (fun s => s.hallway p.toNat half)

/-- RATE_WINDOW_EXPIRY (R391). -/
def execRateWindowExpiry (dt : Elapse) (c : Fin 256) (s : State) : Host.Outcome State Fault Refusal :=
  s.live dt (fun s => s.rateExpire c.val)

/-- REFRACTORY_END (R386: the guard of a channel ends). -/
def execRefractoryEnd (dt : Elapse) (c : Fin 256) (s : State) : Host.Outcome State Fault Refusal :=
  s.live dt (fun s => s.guardEnd c.val)

/-- HWY_FIRE (R396: ev_host_k for each bit k). -/
def execHwyFire (dt : Elapse) (mask : BitVec 16) (s : State) : Host.Outcome State Fault Refusal :=
  s.hosted dt (fun s => s.hwyFire mask.toNat)

/-- HWY_ROUTE_WRITE (R398: HWY_CH_CMD cmd = 1). -/
def execHwyRouteWrite (dt : Elapse) (p : Path) (s : State) : Host.Outcome State Fault Refusal :=
  s.live dt (fun s => s.hostWrite p 0x5104 1#32 .clean none)

/-- HWY_ROUTE_READ (R400: HWY_CH_CMD cmd = 2). -/
def execHwyRouteRead (dt : Elapse) (p : Path) (s : State) : Host.Outcome State Fault Refusal :=
  s.live dt (fun s => s.hostWrite p 0x5104 2#32 .clean none)

/-- HWY_CLEAR_COUNTS (R400: HWY_CH_CMD cmd = 3). -/
def execHwyClearCounts (dt : Elapse) (p : Path) (s : State) : Host.Outcome State Fault Refusal :=
  s.live dt (fun s => s.hostWrite p 0x5104 3#32 .clean none)

/-- HWY_TI_CLR (R400: HWY_TI_CMD clr). -/
def execHwyTiClr (dt : Elapse) (p : Path) (s : State) : Host.Outcome State Fault Refusal :=
  s.live dt (fun s => s.hostWrite p 0x5188 1#32 .clean none)

end Sys2Proof.Machine
end

