-- ==== Sys2Proof/Machine/HearthCmds.lean ====
section
/-!
DEFINITION. The commands of the Hearth (chapter 10).
-/

namespace Sys2Proof.Machine

/-- A report arrives. Where it is one that waits in the outbox, the reports of its source raised in the same house tick
are one report with the lowest of their causes (R307). -/
def State.lineReport (s : State) (k cause : Nat) : State :=
  match s.reports.find? (fun r => r.source == k && r.cause == cause) with
  | none => s.hearthReport k cause true
  | some r =>
    let mine := s.reports.filter (fun q => q.source == k && q.at_ == r.at_)
    let c := mine.foldl (fun c q => min c q.cause) r.cause
    { s with reports := s.reports.filter (fun q => !(q.source == k && q.at_ == r.at_)) }.hearthReport k c true

/-- The counting window stops and the count is 0 (R310). -/
def State.windowExpiry (s : State) (k : Nat) : State :=
  let x := s.src k
  match x.win with
  | none => s
  | some t => if 500 * x.cfg.w ≤ s.since t then s.setSrc k { x with win := none, count := 0 } else s

/-- ERROR_LINE_REPORT (R310: a report of source `k` arrives). -/
def execErrorLineReport (dt : Elapse) (k : BitVec 11) (cause : BitVec 8) (s : State) : Host.Outcome State Fault Refusal :=
  s.live dt (fun s => s.lineReport k.toNat cause.toNat)

/-- HEARTH_WINDOW_EXPIRY (R310: the counting window of source `k` has run w_us). -/
def execHearthWindowExpiry (dt : Elapse) (k : BitVec 11) (s : State) : Host.Outcome State Fault Refusal :=
  s.live dt (fun s => s.windowExpiry k.toNat)

/-- RECORD_SERVE (R314: the record path serves the first pending report). -/
def execRecordServe (dt : Elapse) (s : State) : Host.Outcome State Fault Refusal :=
  s.live dt (fun s => s.recordServe)

/-- TMR_VOTE (R305: a copy that disagrees is out-voted, so the voted state stands). -/
def execTmrVote (dt : Elapse) (s : State) : Host.Outcome State Fault Refusal :=
  s.live dt (fun s => (s.flag 0x1080 0).report 0x425 0)

/-- HRT_POP (R315: HRT_CMD pop). -/
def execHrtPop (dt : Elapse) (s : State) : Host.Outcome State Fault Refusal :=
  s.hosted dt (fun s => s.hrtPop)

/-- HRT_FIRST_ARM (R317: HRT_CMD first_arm). -/
def execHrtFirstArm (dt : Elapse) (s : State) : Host.Outcome State Fault Refusal :=
  s.hosted dt (fun s => s.firstArm)

/-- HRT_CLR_LOST (R327: HRT_CMD clr_lost). -/
def execHrtClrLost (dt : Elapse) (s : State) : Host.Outcome State Fault Refusal :=
  s.hosted dt (fun s => s.clrLost)

/-- HRT_SRC_WRITE_CFG (R327: HRT_SRC_CMD cmd = 1). -/
def execHrtSrcWriteCfg (dt : Elapse) (p : Path) (s : State) : Host.Outcome State Fault Refusal :=
  s.live dt (fun s => s.hostWrite p 0x1114 1#32 .clean none)

/-- HRT_SRC_READ (R327: HRT_SRC_CMD cmd = 2). -/
def execHrtSrcRead (dt : Elapse) (p : Path) (s : State) : Host.Outcome State Fault Refusal :=
  s.live dt (fun s => s.hostWrite p 0x1114 2#32 .clean none)

/-- FORCE_SET (R322: HRT_SRC_CMD cmd = 3). -/
def execForceSet (dt : Elapse) (p : Path) (s : State) : Host.Outcome State Fault Refusal :=
  s.live dt (fun s => s.hostWrite p 0x1114 3#32 .clean none)

/-- FORCE_CLEAR (R322: HRT_SRC_CMD cmd = 4). -/
def execForceClear (dt : Elapse) (p : Path) (s : State) : Host.Outcome State Fault Refusal :=
  s.live dt (fun s => s.hostWrite p 0x1114 4#32 .clean none)

/-- HOST_RELEASE (R324: HRT_SRC_CMD cmd = 5). -/
def execHostRelease (dt : Elapse) (p : Path) (s : State) : Host.Outcome State Fault Refusal :=
  s.live dt (fun s => s.hostWrite p 0x1114 5#32 .clean none)

/-- CLEAR_OCC_COUNT (R328: HRT_SRC_CMD cmd = 6). -/
def execClearOccCount (dt : Elapse) (p : Path) (s : State) : Host.Outcome State Fault Refusal :=
  s.live dt (fun s => s.hostWrite p 0x1114 6#32 .clean none)

end Sys2Proof.Machine
end

