-- ==== Sys2Proof/Machine/LoopCmds.lean ====
section
/-!
DEFINITION. The commands of the loop tiles and the tracking inputs (chapter 03).
-/

namespace Sys2Proof.Machine

/-- LOOP_PASS_START (R105: the bound tile takes its regular or catch-up pass; `ups` are the upsets that strike it). -/
def execLoopPassStart (dt : Elapse) (n : Fin 128) (ups : List Upset) (s : State) : Host.Outcome State Fault Refusal :=
  s.live dt (fun s => s.passStart n.val ups)

/-- OUTPUT_LATCH (R107: the delivered value is latched at φo). -/
def execOutputLatch (dt : Elapse) (n : Fin 128) (s : State) : Host.Outcome State Fault Refusal :=
  s.live dt (fun s => s.outputLatch n.val)

/-- TEMPLATE_REPLACEMENT_REQUEST (R115: a new template is asked for). -/
def execTemplateReplacementRequest (dt : Elapse) (n : Fin 128) (tpl : Fin 16) (s : State) : Host.Outcome State Fault Refusal :=
  s.hosted dt (fun s => s.replRequest n.val tpl.val)

/-- TEMPLATE_LOAD_DONE (R115: the new tile is loaded). -/
def execTemplateLoadDone (dt : Elapse) (n : Fin 128) (s : State) : Host.Outcome State Fault Refusal :=
  s.live dt (fun s => s.replLoaded n.val)

/-- TILE_FENCE (R123: a fence event of the Hearth). -/
def execTileFence (dt : Elapse) (t : Fin 272) (s : State) : Host.Outcome State Fault Refusal :=
  s.live dt (fun s => s.tileFence t.val)

/-- SPARE_READY (R124: the decision at t_R). -/
def execSpareReady (dt : Elapse) (n : Fin 128) (s : State) : Host.Outcome State Fault Refusal :=
  s.live dt (fun s => s.spareReady n.val)

/-- TRKA_TIMEOUT (R118: no TRKA sample for 1 ms). -/
def execTrkaTimeout (dt : Elapse) (w : Fin 8) (s : State) : Host.Outcome State Fault Refusal :=
  s.live dt (fun s => s.trkaTimeout w.val)

/-- TRKP_EDGE (R116: an edge on TRKP). -/
def execTrkpEdge (dt : Elapse) (w : Fin 8) (falling : Bool) (s : State) : Host.Outcome State Fault Refusal :=
  s.live dt (fun s => s.trkpEdge w.val falling)

/-- TRKP_GATE_END (R116: the end of a gate window). -/
def execTrkpGateEnd (dt : Elapse) (w : Fin 8) (s : State) : Host.Outcome State Fault Refusal :=
  s.live dt (fun s => s.trkpGate w.val)

/-- TRKP_TIMEOUT (R118: no TRKP edge for tmo_us). -/
def execTrkpTimeout (dt : Elapse) (w : Fin 8) (s : State) : Host.Outcome State Fault Refusal :=
  s.live dt (fun s => s.trkpTimeout w.val)

end Sys2Proof.Machine
end

