-- ==== Sys2Proof/Machine/MeasCmds.lean ====
section
/-!
DEFINITION. The commands of the measurement path and the Novern Links (chapters 04 and 09).
-/

namespace Sys2Proof.Machine

/-! ### Frames and apertures -/

/-- SAMPLE_FRAME (R130: an uplink SAMPLE frame at its take-in tick). -/
def execSampleFrame (dt : Elapse) (n : Fin 128) (f : Frame) (s : State) : Host.Outcome State Fault Refusal :=
  s.live dt (fun s => (s.uplink n.val f 0 true).calFrame n.val f)

/-- ARRIVAL_EDGE_MISSING (R130: an arrival edge with no frame that passes the link checks). -/
def execArrivalEdgeMissing (dt : Elapse) (n : Fin 128) (s : State) : Host.Outcome State Fault Refusal :=
  s.live dt (fun s => s.noFrame n.val)

/-- APERTURE_OPEN (R136: the opening edge of a pending aperture is reached). -/
def execApertureOpen (dt : Elapse) (n : Fin 128) (s : State) : Host.Outcome State Fault Refusal :=
  s.live dt (fun s => s.apOpenDue n.val)

/-- AP_START_CMD (R136: MEAS_CMD ap_start). -/
def execApStartCmd (dt : Elapse) (n : Fin 128) (s : State) : Host.Outcome State Fault Refusal :=
  s.hosted dt (fun s => s.apTrigger n.val)

/-- AP_STOP_CMD (R140: MEAS_CMD ap_stop). -/
def execApStopCmd (dt : Elapse) (n : Fin 128) (s : State) : Host.Outcome State Fault Refusal :=
  s.hosted dt (fun s => s.apStop n.val)

/-- TI_APERTURE (R136: an event at ti_aperture). -/
def execTiAperture (dt : Elapse) (n : Fin 128) (s : State) : Host.Outcome State Fault Refusal :=
  s.live dt (fun s => (s.tiTake (2 * n.val + 1)).apTrigger n.val)

/-- RECORD_PUSH (R143: the record is pushed from T_c + 24 on; `fl` is the push in whose tick a flush acts). -/
def execRecordPush (dt : Elapse) (n : Fin 128) (fl : Option (Fin 8)) (s : State) : Host.Outcome State Fault Refusal :=
  s.live dt (fun s => s.recPush n.val (fl.map Fin.val))

/-- RECORD_REPUSH (R144: filler words and the record once more). -/
def execRecordRepush (dt : Elapse) (n : Fin 128) (fl : Option (Fin 8)) (s : State) : Host.Outcome State Fault Refusal :=
  s.live dt (fun s => s.recRepush n.val (fl.map Fin.val))

/-- SEC_TIMEOUT (R147: 64 frames without a valid secondary). -/
def execSecTimeout (dt : Elapse) (n : Fin 128) (s : State) : Host.Outcome State Fault Refusal :=
  s.live dt (fun s => s.secTimeout n.val)

/-! ### Links -/

/-- UPLINK_IDLE_FRAME (R283: an uplink IDLE frame; `delay` is the transmit delay that its arrival phase asks for, `onTick` that it arrives at the trained tick). -/
def execUplinkIdleFrame (dt : Elapse) (n : Fin 128) (f : Frame) (delay : Fin 32) (onTick : Bool)
    (s : State) : Host.Outcome State Fault Refusal :=
  s.live dt (fun s => (s.uplink n.val f delay.val onTick).calFrame n.val f)

/-- DESCRIPTOR_FRAME (R289: a DESCRIPTOR frame). -/
def execDescriptorFrame (dt : Elapse) (n : Fin 128) (f : Frame) (s : State) : Host.Outcome State Fault Refusal :=
  s.live dt (fun s => (s.uplink n.val f 0 true).calFrame n.val f)

/-- MGMT_RESP_FRAME (R292: a MGMT_RESP frame, which is also a sample frame). -/
def execMgmtRespFrame (dt : Elapse) (n : Fin 128) (f : Frame) (s : State) : Host.Outcome State Fault Refusal :=
  s.live dt (fun s => (s.uplink n.val f 0 true).calFrame n.val f)

/-- LEVEL_FRAME_SEND (R273: the downlink frame of this frame-grid edge). -/
def execLevelFrameSend (dt : Elapse) (n : Fin 128) (s : State) : Host.Outcome State Fault Refusal :=
  s.live dt (fun s => s.frameSend n.val)

/-- LNK_RETRAIN (R284: LNK_CMD retrain). -/
def execLnkRetrain (dt : Elapse) (n : Fin 128) (s : State) : Host.Outcome State Fault Refusal :=
  s.hosted dt (fun s => s.lnkRetrain n.val)

/-- LNK_REENUM (R302: LNK_CMD reenum). -/
def execLnkReenum (dt : Elapse) (n : Fin 128) (s : State) : Host.Outcome State Fault Refusal :=
  s.hosted dt (fun s => s.lnkReenum n.val)

/-- ELASTIC_SLIP (R286: a fill of 0 or 8 is recentred). -/
def execElasticSlip (dt : Elapse) (n : Fin 128) (s : State) : Host.Outcome State Fault Refusal :=
  s.live dt (fun s => s.elasticSlip n.val)

/-- HEAD_ABSENT (R287: 256 frames without a good one). -/
def execHeadAbsent (dt : Elapse) (n : Fin 128) (s : State) : Host.Outcome State Fault Refusal :=
  s.live dt (fun s => s.headAbsent n.val)

/-- LINK_EN_CLEAR (R287: link_en is written 0). -/
def execLinkEnClear (dt : Elapse) (n : Fin 128) (s : State) : Host.Outcome State Fault Refusal :=
  s.hosted dt (fun s => s.linkDisable n.val)

/-- HMW_SEND (R293: HMW_CMD send). -/
def execHmwSend (dt : Elapse) (n : Fin 128) (s : State) : Host.Outcome State Fault Refusal :=
  s.hosted dt (fun s => s.hmwSend n.val)

/-- MGMT_TIMEOUT (R293: the response time of a request has expired). -/
def execMgmtTimeout (dt : Elapse) (n : Fin 128) (s : State) : Host.Outcome State Fault Refusal :=
  s.live dt (fun s => s.mgmtTimeout n.val)

end Sys2Proof.Machine
end

