-- ==== Sys2Proof/Machine/MonCmds.lean ====
section
/-!
DEFINITION. The commands of the threshold monitors (chapter 07) and the REFADC (chapter 08).
-/

namespace Sys2Proof.Machine

/-- What the Guard comparators show at a clear of their latches (R230). -/
def State.guardNow (s : State) (p : Path) (n : Nat) (v : Word) (tripped : BitVec 2) : State :=
  if !s.mayWrite p (chA n 0x534) then s
  else (rangeFrom 0 2).foldl (fun s c =>
    if bit v c && ((s.mo n).cmp c).latched && !((s.mo n).cmp c).filt then s.modCmp n c (fun k => { k with raw := bit tripped c }) else s) s

/-- A conversion goes to the user of its slot (R244 to R247): the last slot that has ended, if it has not come yet. An
overload is reported and its value discarded. -/
def State.conversion (s : State) (x : Conv) : State :=
  let m := (s.htick.toNat - 16) / 5000 - 1
  if s.htick.toNat < 5016 ∨ m < s.cal.adcNext then s
  else
    let use := s.adcUse m
    let s := s.modCal (fun c => { c with adcNext := m + 1 })
    if x.overload then s.calFault 0x422 3
    else
      match use with
      | .trka w => s.trkaSample w (F32.of64 x.value)
      | .cal => s.calConv x.value true
      | .calExtra => s.calConv x.value false
      | .die => (s.wr (CAL + 0x50) (F32.of64 x.value)).dieReading x.value
      | .bandgap => s.bandgapIn x.value
      | .readback n c => s.rbConv n c x.value
      | .direct => s.wr (CAL + 0x64) (BitVec.ofNat 32 (x.code.toNat + 2 ^ 24 * (m / 10 % 128)))
      | .agnd => s
      | .idle => s

/-- GUARD_TRIP (R225: the unclocked output of a Guard comparator (0 or 1) trips). -/
def execGuardTrip (dt : Elapse) (n : Fin 128) (c : Fin 4) (s : State) : Host.Outcome State Fault Refusal :=
  s.live dt (fun s => if c.val < 2 then s.guardTripIn n.val c.val else s)

/-- WATCH_TRIP (R227: the filtered output of a Watch comparator (2 or 3) trips). -/
def execWatchTrip (dt : Elapse) (n : Fin 128) (c : Fin 4) (s : State) : Host.Outcome State Fault Refusal :=
  s.live dt (fun s => if 2 ≤ c.val then s.watchTripIn n.val c.val else s)

/-- COMPARATOR_RELEASE (R229: one release filter length released). -/
def execComparatorRelease (dt : Elapse) (n : Fin 128) (c : Fin 4) (s : State) : Host.Outcome State Fault Refusal :=
  s.live dt (fun s => s.cmpRelease n.val c.val)

/-- PU_RELEASE (R231: the power-up state of a comparator ends). -/
def execPuRelease (dt : Elapse) (n : Fin 128) (c : Fin 4) (s : State) : Host.Outcome State Fault Refusal :=
  s.live dt (fun s => s.puRelease n.val c.val)

/-- LATCH_HOST_CLEAR (R230: a write of MON_STAT; `tripped` says which Guard comparators are tripped at this instant). -/
def execLatchHostClear (dt : Elapse) (p : Path) (n : Fin 128) (v : Word) (tripped : BitVec 2)
    (s : State) : Host.Outcome State Fault Refusal :=
  s.live dt (fun s => (s.guardNow p n.val v tripped).hostWrite p (chA n.val 0x534) v .clean none)

/-- RB_NOW (R236: MON_CMD rb_now). -/
def execRbNow (dt : Elapse) (n : Fin 128) (s : State) : Host.Outcome State Fault Refusal :=
  s.hosted dt (fun s => s.rbNow n.val)

/-- REFADC_CONVERSION (R245: the conversion of the slot that has ended). -/
def execRefadcConversion (dt : Elapse) (x : Conv) (s : State) : Host.Outcome State Fault Refusal :=
  s.live dt (fun s => s.conversion x)

end Sys2Proof.Machine
end

