-- ==== Sys2Proof/Machine/PantryCmds.lean ====
section
/-!
DEFINITION. The commands of the Pantry and the Chutes (chapter 12).
-/

namespace Sys2Proof.Machine

/-- A word for PAN_CMD: op, bank and row. -/
def panWordOf (op b row : Nat) : Word := BitVec.ofNat 32 (op + 256 * b + 65536 * row)

/-- A pop by unit `u`: Porch DMA 0 or 1, or Study engine `u - 16`; the other numbers name no unit (R373). -/
def State.unitPop (s : State) (c u : Nat) (e : Ecc) : State :=
  if 2 ≤ u ∧ u < 16 then s
  else
    let r := s.chuPop c u e
    match r.2 with
    | none => r.1
    | some w => if 16 ≤ u ∧ dIn (r.1.eng (u - 16)).act = c ∧ dKernel (r.1.eng (u - 16)).act ≠ 0 then r.1.engTake (u - 16) w else r.1

/-! ### Banks -/

/-- PAN_OWN_WRITE (R363: a write of PAN_OWN_n). -/
def execPanOwnWrite (dt : Elapse) (p : Path) (n : Fin 8) (v : Word) (s : State) : Host.Outcome State Fault Refusal :=
  s.live dt (fun s => s.hostWrite p (0x6000 + 4 * n.val) v .clean none)

/-- OWN_DRAIN_ACK (R363: the old owner's accesses have drained). -/
def execOwnDrainAck (dt : Elapse) (b : Fin 64) (s : State) : Host.Outcome State Fault Refusal :=
  s.live dt (fun s => s.ownDrained b.val)

/-- PATROL_READ (R360: the patrol reads its next word of the bank). -/
def execPatrolRead (dt : Elapse) (b : Fin 64) (e : Ecc) (s : State) : Host.Outcome State Fault Refusal :=
  s.live dt (fun s => s.patrolRead b.val e)

/-- PAN_REMAP_ROW (R367: PAN_CMD op 1). -/
def execPanRemapRow (dt : Elapse) (p : Path) (b : Fin 64) (row : Fin 256) (s : State) : Host.Outcome State Fault Refusal :=
  s.live dt (fun s => s.hostWrite p 0x6040 (panWordOf 1 b.val row.val) .clean none)

/-- ROW_REMAP_DONE (R367: the copy to a spare row is complete). -/
def execRowRemapDone (dt : Elapse) (b : Fin 64) (s : State) : Host.Outcome State Fault Refusal :=
  s.live dt (fun s => s.rowDone b.val)

/-- PAN_MIGRATE_BANK (R368: PAN_CMD op 2). -/
def execPanMigrateBank (dt : Elapse) (p : Path) (b : Fin 64) (s : State) : Host.Outcome State Fault Refusal :=
  s.live dt (fun s => s.hostWrite p 0x6040 (panWordOf 2 b.val 0) .clean none)

/-- BANK_FENCE (R368: a fence event of the Hearth). -/
def execBankFence (dt : Elapse) (b : Fin 64) (s : State) : Host.Outcome State Fault Refusal :=
  s.live dt (fun s => s.bankFence b.val)

/-- MIGRATION_DONE (R368: the copy to a spare bank is complete). -/
def execMigrationDone (dt : Elapse) (b : Fin 64) (s : State) : Host.Outcome State Fault Refusal :=
  s.live dt (fun s => s.migrated b.val)

/-- PAN_FULL_BIST (R369: PAN_CMD op 3). -/
def execPanFullBist (dt : Elapse) (p : Path) (b : Fin 64) (s : State) : Host.Outcome State Fault Refusal :=
  s.live dt (fun s => s.hostWrite p 0x6040 (panWordOf 3 b.val 0) .clean none)

/-- FULL_BIST_DONE (R369: the full BIST ends; `rows` are the rows in which it has failed a cell). -/
def execFullBistDone (dt : Elapse) (rows : List (Fin 256)) (s : State) : Host.Outcome State Fault Refusal :=
  s.live dt (fun s => s.fullDone (rows.map Fin.val))

/-- ONLINE_BIST_BORROW (R370: the next region is tested; `fails` says that its test fails a cell). -/
def execOnlineBistBorrow (dt : Elapse) (fails : Bool) (s : State) : Host.Outcome State Fault Refusal :=
  s.live dt (fun s => s.bistBorrow fails)

/-! ### Chutes -/

/-- CHUTE_PUSH (R374: unit `u` pushes a word). -/
def execChutePush (dt : Elapse) (c : Fin 256) (u : Fin 272) (v : DWord) (s : State) : Host.Outcome State Fault Refusal :=
  s.live dt (fun s => (s.chuPush c.val u.val v).1)

/-- CHUTE_POP (R374: unit `u` pops a word; a Study engine takes it when this is its input Chute). -/
def execChutePop (dt : Elapse) (c : Fin 256) (u : Fin 32) (e : Ecc) (s : State) : Host.Outcome State Fault Refusal :=
  s.live dt (fun s => s.unitPop c.val u.val e)

/-- CHU_FLUSH (R376: the flush bit of CHU_GEN). -/
def execChuFlush (dt : Elapse) (c : Fin 256) (s : State) : Host.Outcome State Fault Refusal :=
  s.hosted dt (fun s => s.flushChute c.val)

/-- POINTER_CHECK_FAIL (R379: the copies of the pointers as the check finds them). -/
def execPointerCheckFail (dt : Elapse) (c : Fin 256) (w w2 r r2 : BitVec 17) (s : State) : Host.Outcome State Fault Refusal :=
  s.live dt (fun s => s.pointerCheck c.val w w2 r r2)

/-- CHUTE_STALE (R380: the stale timer expires). -/
def execChuteStale (dt : Elapse) (c : Fin 256) (s : State) : Host.Outcome State Fault Refusal :=
  s.live dt (fun s => s.chuStale c.val)

end Sys2Proof.Machine
end

