-- ==== Sys2Proof/Machine/PhaseCmds.lean ====
section
/-!
DEFINITION. The commands of the Phase block (chapter 06).
-/

namespace Sys2Proof.Machine

/-- mach_hold, as it stood on entry, has elapsed in HOLDOVER (R197, R214). -/
def State.machFrozen (s : State) : State :=
  if s.mach.st = .holdover ∧ 500000 * s.mach.holdMs ≤ s.since s.mach.holdAt then
    (({ s with mach := { s.mach with st := .frozen } }).phsFault 1).launch 0x944
  else s

/-- mains_hold, as it stood on entry, has elapsed in HOLDOVER (R204, R214). -/
def State.mainsFrozen (s : State) : State :=
  if s.mains.st = .holdover ∧ 500000 * s.mains.holdMs ≤ s.since s.mains.holdAt then
    (({ s with mains := { s.mains with st := .frozen } }).phsFault 4).launch 0x947
  else s

/-- ACQUIRING without an accepted MARK for two turns (R197). -/
def State.machNoTurn (s : State) : State :=
  if s.mach.st = .acquiring ∧ 2 * s.turnLen ≤ s.mach.markEdges then s.machLost .none 1 else s

/-- ACQUIRING without an accepted MAINS edge for two cycles, of the last period or, without one, of the longest (R204). -/
def State.mainsNoCycle (s : State) : State :=
  if s.mains.st = .acquiring ∧ 2 * (if s.mains.lastPer = 0 then 11111000 else s.mains.lastPer) ≤ s.since s.mains.edgeAt then
    s.mainsLost .none
  else s

/-- The capture at a second boundary of the 1588 clock, exact to ±1 house tick (R212). -/
def State.ppsCapture (s : State) : State :=
  if s.tod.ns < 4 then (s.wr64 0x20E0 s.htick).wr64 0x20E8 (s.tod.sec.setWidth 64) else s

/-! ### Machine domain -/

/-- MARK_ACCEPTED (R192, R212: an accepted MARK, and its capture). -/
def execMarkAccepted (dt : Elapse) (s : State) : Host.Outcome State Fault Refusal :=
  s.live dt (fun s => s.markIn.markCapture)

/-- MCLK_MISSING (R194). -/
def execMclkMissing (dt : Elapse) (s : State) : Host.Outcome State Fault Refusal :=
  s.live dt (fun s => if s.mach.present then s.mclkGone else s)

/-- MCLK_PRESENT (R194). -/
def execMclkPresent (dt : Elapse) (s : State) : Host.Outcome State Fault Refusal :=
  s.live dt (fun s => if s.mach.present then s else s.mclkBack)

/-- MARK_LOSS (R198: two turns without a good MARK). -/
def execMarkLoss (dt : Elapse) (s : State) : Host.Outcome State Fault Refusal :=
  s.live dt (fun s => if s.markLossDue then s.machLost .holdover 1 else s)

/-- HOLDOVER_EXPIRED (R197, R204: of either domain). -/
def execHoldoverExpired (dt : Elapse) (s : State) : Host.Outcome State Fault Refusal :=
  s.live dt (fun s => s.machFrozen.mainsFrozen)

/-- ACQUIRE_TIMEOUT (R197, R204: of either domain). -/
def execAcquireTimeout (dt : Elapse) (s : State) : Host.Outcome State Fault Refusal :=
  s.live dt (fun s => s.machNoTurn.mainsNoCycle)

/-- LOAD_NEXT_MARK (R200: PHS_CMD load = 1). -/
def execLoadNextMark (dt : Elapse) (s : State) : Host.Outcome State Fault Refusal :=
  s.hosted dt (fun s => s.armLoad .nextMark)

/-- LOAD_AFTER_SEC (R200: PHS_CMD load = 2). -/
def execLoadAfterSec (dt : Elapse) (s : State) : Host.Outcome State Fault Refusal :=
  s.hosted dt (fun s => s.armLoad .afterSec)

/-- LOAD_CANCEL (R200: PHS_CMD load = 3). -/
def execLoadCancel (dt : Elapse) (s : State) : Host.Outcome State Fault Refusal :=
  s.hosted dt (fun s => s.armLoad .off)

/-- SNAPSHOT (R212: PHS_CMD snap). -/
def execSnapshot (dt : Elapse) (s : State) : Host.Outcome State Fault Refusal :=
  s.hosted dt (fun s => s.snapshot)

/-- TI_PHS_SNAP (R212: an event at ti_phs_snap). -/
def execTiPhsSnap (dt : Elapse) (s : State) : Host.Outcome State Fault Refusal :=
  s.live dt (fun s => (s.tiTake 0x180).snapshot)

/-- MACH_EN_CLEAR (R197: mach_en is written 0). -/
def execMachEnClear (dt : Elapse) (s : State) : Host.Outcome State Fault Refusal :=
  s.hosted dt (fun s => (s.wb 0x2000 0 false).machOff)

/-! ### Mains domain -/

/-- MAINS_EDGE (R203). -/
def execMainsEdge (dt : Elapse) (s : State) : Host.Outcome State Fault Refusal :=
  s.live dt (fun s => s.mainsEdgeIn)

/-- MAINS_LOSS (R204: two cycles without a good edge). -/
def execMainsLoss (dt : Elapse) (s : State) : Host.Outcome State Fault Refusal :=
  s.live dt (fun s => if s.mainsLossDue then s.mainsLost .holdover else s)

/-! ### Alarms and the 1588 clock -/

/-- ALARM_FIRE (R206: the position of the alarm is reached). -/
def execAlarmFire (dt : Elapse) (i : Fin 4096) (s : State) : Host.Outcome State Fault Refusal :=
  s.live dt (fun s => s.almTry i.val)

/-- ALM_WRITE (R211: PHS_ALM_CMD cmd = 1). -/
def execAlmWrite (dt : Elapse) (p : Path) (s : State) : Host.Outcome State Fault Refusal :=
  s.live dt (fun s => s.hostWrite p 0x2114 1#32 .clean none)

/-- ALM_READ (R211: PHS_ALM_CMD cmd = 2). -/
def execAlmRead (dt : Elapse) (p : Path) (s : State) : Host.Outcome State Fault Refusal :=
  s.live dt (fun s => s.hostWrite p 0x2114 2#32 .clean none)

/-- ALM_DISABLE (R211: PHS_ALM_CMD cmd = 3). -/
def execAlmDisable (dt : Elapse) (p : Path) (s : State) : Host.Outcome State Fault Refusal :=
  s.live dt (fun s => s.hostWrite p 0x2114 3#32 .clean none)

/-- PPS_CAPTURE (R212: a second boundary of the 1588 clock). -/
def execPpsCapture (dt : Elapse) (s : State) : Host.Outcome State Fault Refusal :=
  s.live dt (fun s => s.ppsCapture)

end Sys2Proof.Machine
end

