-- ==== Sys2Proof/Machine/PorchCmds.lean ====
section
/-!
DEFINITION. The commands of the Porch (chapter 15).
-/

namespace Sys2Proof.Machine

/-! ### Links and messages -/

/-- PORT_BLOCK_LOCK (R419: 10 ms of block lock). -/
def execPortBlockLock (dt : Elapse) (q : Fin 2) (s : State) : Host.Outcome State Fault Refusal :=
  s.live dt (fun s => s.blockLock q.val)

/-- SPEED_TRY_EXPIRY (R419: a 500 ms try ends without lock). -/
def execSpeedTryExpiry (dt : Elapse) (q : Fin 2) (s : State) : Host.Outcome State Fault Refusal :=
  s.live dt (fun s => s.speedTry q.val)

/-- PORT_LINK_DOWN (R446: block lock is lost). -/
def execPortLinkDown (dt : Elapse) (q : Fin 2) (s : State) : Host.Outcome State Fault Refusal :=
  s.live dt (fun s => s.linkFalls q.val)

/-- NETWORK_HOUSEKEEPING_FRAME (R420: a frame that is no message). -/
def execNetworkHousekeepingFrame (dt : Elapse) (q : Fin 2) (vid : Option (BitVec 12)) (f : HouseFrame)
    (s : State) : Host.Outcome State Fault Refusal :=
  s.live dt (fun s => s.houseFrame q.val vid f)

/-- CLAONDEA_MESSAGE (R423: a datagram is accepted or dropped). -/
def execClaondeaMessage (dt : Elapse) (q : Fin 2) (d : Datagram) (s : State) : Host.Outcome State Fault Refusal :=
  s.live dt (fun s => s.msgIn q.val d)

/-- RESPONSE_HANDOVER (R426: the oldest response of the port goes to the MAC). -/
def execResponseHandover (dt : Elapse) (q : Fin 2) (s : State) : Host.Outcome State Fault Refusal :=
  s.live dt (fun s => s.handOverRsp q.val)

/-! ### Operations: each carries out the oldest accepted request of its opcode on the port -/

/-- PING (R429). -/
def execPing (dt : Elapse) (q : Fin 2) (s : State) : Host.Outcome State Fault Refusal :=
  s.live dt (fun s => s.ping q.val)

/-- REG_READ (R429; `es` is what the reads of the Pantry find, by access). -/
def execRegRead (dt : Elapse) (q : Fin 2) (es : List Ecc) (s : State) : Host.Outcome State Fault Refusal :=
  s.live dt (fun s => s.regReads q.val es)

/-- REG_WRITE (R429; `es` as for REG_READ). -/
def execRegWrite (dt : Elapse) (q : Fin 2) (es : List Ecc) (s : State) : Host.Outcome State Fault Refusal :=
  s.live dt (fun s => s.regWrites q.val es)

/-- BLK_READ (R429; `es` as for REG_READ). -/
def execBlkRead (dt : Elapse) (q : Fin 2) (es : List Ecc) (s : State) : Host.Outcome State Fault Refusal :=
  s.live dt (fun s => s.blkReads q.val es)

/-- BLK_WRITE (R429; `es` as for REG_READ). -/
def execBlkWrite (dt : Elapse) (q : Fin 2) (es : List Ecc) (s : State) : Host.Outcome State Fault Refusal :=
  s.live dt (fun s => s.blkWrites q.val es)

/-- OVL_LOAD (R429). -/
def execOvlLoad (dt : Elapse) (q : Fin 2) (s : State) : Host.Outcome State Fault Refusal :=
  s.live dt (fun s => s.ovlLoad q.val)

/-- SWEEP_LOAD (R429). -/
def execSweepLoad (dt : Elapse) (q : Fin 2) (s : State) : Host.Outcome State Fault Refusal :=
  s.live dt (fun s => s.sweepLoad q.val)

/-- STREAM_SUB (R430). -/
def execStreamSub (dt : Elapse) (q : Fin 2) (s : State) : Host.Outcome State Fault Refusal :=
  s.live dt (fun s => s.streamSub q.val)

/-- EVENT_SUB (R432). -/
def execEventSub (dt : Elapse) (q : Fin 2) (s : State) : Host.Outcome State Fault Refusal :=
  s.live dt (fun s => s.eventSub q.val)

/-- EVENT_FIRE (R434). -/
def execEventFire (dt : Elapse) (q : Fin 2) (s : State) : Host.Outcome State Fault Refusal :=
  s.live dt (fun s => s.eventFire q.val)

/-- MC_START (R435). -/
def execMcStart (dt : Elapse) (q : Fin 2) (s : State) : Host.Outcome State Fault Refusal :=
  s.live dt (fun s => s.mcStart q.val)

/-! ### Streams and notifications -/

/-- STREAM_ITEM_COPY (R430: the serving DMA pops an item of the Chute). -/
def execStreamItemCopy (dt : Elapse) (c : Fin 256) (e : Ecc) (s : State) : Host.Outcome State Fault Refusal :=
  s.live dt (fun s => s.streamCopy c.val e)

/-- STREAM_DATA_SEND (R430: the open datagram of a subscription and a Chute is due). -/
def execStreamDataSend (dt : Elapse) (i : Fin 32) (c : Fin 256) (s : State) : Host.Outcome State Fault Refusal :=
  s.live dt (fun s => s.streamDue i.val c.val)

/-- EVENT_NOTIFY (R432). -/
def execEventNotify (dt : Elapse) (i : Fin 8) (s : State) : Host.Outcome State Fault Refusal :=
  s.live dt (fun s => s.notify i.val)

/-- NOTIFY_RESEND (R432). -/
def execNotifyResend (dt : Elapse) (i : Fin 8) (s : State) : Host.Outcome State Fault Refusal :=
  s.live dt (fun s => s.notifyAgain i.val)

/-- EVENT_NOTIFY_ACK (R432: the host has acknowledged the notify of the subscription). -/
def execEventNotifyAck (dt : Elapse) (i : Fin 8) (s : State) : Host.Outcome State Fault Refusal :=
  s.live dt (fun s => s.notifyAck i.val)

/-! ### Time of day, failover, sessions -/

/-- PTP_MESSAGE (R437). -/
def execPtpMessage (dt : Elapse) (m : PtpMsg) (s : State) : Host.Outcome State Fault Refusal :=
  s.live dt (fun s => s.ptp m)

/-- ANNOUNCE_TIMEOUT (R437: three announce timeouts without a master). -/
def execAnnounceTimeout (dt : Elapse) (s : State) : Host.Outcome State Fault Refusal :=
  s.live dt (fun s => s.annTimeout)

/-- FAILOVER (R438: the port is fenced, or has been without link for fo_ms). -/
def execFailover (dt : Elapse) (q : Fin 2) (s : State) : Host.Outcome State Fault Refusal :=
  s.live dt (fun s => s.failover q.val)

/-- FAILBACK (R439: PRC_CMD failback). -/
def execFailback (dt : Elapse) (p : Path) (s : State) : Host.Outcome State Fault Refusal :=
  s.live dt (fun s => s.hostWrite p 0xA408 1#32 .clean none)

/-- CLR_SESSIONS (R446: PRC_CMD clr_sessions). -/
def execClrSessions (dt : Elapse) (p : Path) (s : State) : Host.Outcome State Fault Refusal :=
  s.live dt (fun s => s.hostWrite p 0xA408 2#32 .clean none)

end Sys2Proof.Machine
end

