-- ==== Sys2Proof/Machine/PowerCmds.lean ====
section
/-!
DEFINITION. Power, resets, boot and modes as commands (chapter 17), and the boundary scan (chapter 18).
-/

namespace Sys2Proof.Machine

/-- A command of the supplies, clocks and resets. -/
def State.power (s : State) (dt : Elapse) (f : State → State) : Host.Outcome State Fault Refusal :=
  let t := s.advance dt
  let u := f t
  if u.pwr.held ≠ 0 then u.done else ((u.domHook t 0).domHook t 1).finish

/-! ### Supplies, clocks and resets, which act whether or not a reset is held -/

/-- POWER_ON_RESET_RELEASE (R468: house tick 0). -/
def execPowerOnResetRelease (dt : Elapse) (sel : BitVec 2) (s : State) : Host.Outcome State Fault Refusal :=
  s.power dt (fun s => s.porRelease sel)

/-- DEVICE_RESET_RELEASE (R473). -/
def execDeviceResetRelease (dt : Elapse) (sel : BitVec 2) (s : State) : Host.Outcome State Fault Refusal :=
  s.power dt (fun s => s.drRelease sel)

/-- SUPPLY_FAULT (R469: supply `k`, by its bit in GLB_PWR, is out of range; `low`: VDD_CORE is below the power-on reset threshold). -/
def execSupplyFault (dt : Elapse) (k : Fin 7) (low : Bool) (s : State) : Host.Outcome State Fault Refusal :=
  s.power dt (fun s => s.supplyFault k.val low)

/-- SUPPLY_RETURN (R469). -/
def execSupplyReturn (dt : Elapse) (k : Fin 7) (s : State) : Host.Outcome State Fault Refusal :=
  s.power dt (fun s => s.supplyReturn k.val)

/-- RESET_N (R472: RESET_N low for 100 ns; a power-on reset goes on). -/
def execResetN (dt : Elapse) (s : State) : Host.Outcome State Fault Refusal :=
  s.power dt (fun s => if s.pwr.held = 1 then s else s.deviceReset 1)

/-- HREF_LOST (R471: HREF is lost, or a PLL loses lock). -/
def execHrefLost (dt : Elapse) (pll : Bool) (s : State) : Host.Outcome State Fault Refusal :=
  s.power dt (fun s => if s.pwr.held ≠ 0 then s.modPwr (fun p => { p with hrefLost := p.hrefLost || !pll }) else s.hrefGone pll)

/-- HREF_RETURN (R471: the PLLs relock; the wings stay as they are). -/
def execHrefReturn (dt : Elapse) (s : State) : Host.Outcome State Fault Refusal :=
  s.power dt (fun s => s.modPwr (fun p => { p with hrefLost := false }))

/-- JTAG_UPDATE_IR (R515: the current instruction is, or is not, one of the EXTEST class; `cells` are the boundary cells of WTRIP and ERR_N). -/
def execJtagUpdateIr (dt : Elapse) (on : Bool) (cells : BitVec 9) (s : State) : Host.Outcome State Fault Refusal :=
  s.power dt (fun s => s.jtag on cells)

/-! ### Boot -/

/-- GLB_RST_WRITE (R472: a write of GLB_RST). -/
def execGlbRstWrite (dt : Elapse) (p : Path) (v : Word) (s : State) : Host.Outcome State Fault Refusal :=
  s.live dt (fun s => s.hostWrite p 0x020 v .clean none)

/-- BOOT_GO (R479: GLB_BOOT_CMD go). -/
def execBootGo (dt : Elapse) (p : Path) (s : State) : Host.Outcome State Fault Refusal :=
  s.live dt (fun s => s.hostWrite p 0x018 1#32 .clean none)

/-- BOOT_STORE (R480: GLB_BOOT_CMD store). -/
def execBootStore (dt : Elapse) (p : Path) (s : State) : Host.Outcome State Fault Refusal :=
  s.live dt (fun s => s.hostWrite p 0x018 2#32 .clean none)

/-- KEEPER_START (R481). -/
def execKeeperStart (dt : Elapse) (s : State) : Host.Outcome State Fault Refusal :=
  s.live dt (fun s => s.kprStart)

/-- BOOT_STANDBY_ENTRY (R476). -/
def execBootStandbyEntry (dt : Elapse) (s : State) : Host.Outcome State Fault Refusal :=
  s.live dt (fun s => s.standbyEntry)

/-! ### Modes -/

/-- GLB_MODE_REQ (R483: a write of GLB_MODE_REQ). -/
def execGlbModeReq (dt : Elapse) (p : Path) (v : Word) (s : State) : Host.Outcome State Fault Refusal :=
  s.live dt (fun s => s.hostWrite p 0x030 v .clean none)

/-- TI_WAKE (R483: an event at ti_wake). -/
def execTiWake (dt : Elapse) (w : Fin 8) (s : State) : Host.Outcome State Fault Refusal :=
  s.live dt (fun s => s.tiWake w.val)

/-- HRT_SAFE_REQUEST (R313: an event on ev_hrt_safe_ramp or ev_hrt_safe_now). -/
def execHrtSafeRequest (dt : Elapse) (wings : BitVec 8) (now : Bool) (s : State) : Host.Outcome State Fault Refusal :=
  s.live dt (fun s => s.hrtSafe wings now)

/-- MODE_ENTRY (R485). -/
def execModeEntry (dt : Elapse) (w : Fin 8) (s : State) : Host.Outcome State Fault Refusal :=
  s.live dt (fun s => s.modeEntry w.val)

/-- SAFE_ENTRY (R487). -/
def execSafeEntry (dt : Elapse) (w : Fin 8) (s : State) : Host.Outcome State Fault Refusal :=
  s.live dt (fun s => s.safeEntry w.val)

/-- SLEEP_ENTRY (R490). -/
def execSleepEntry (dt : Elapse) (w : Fin 8) (s : State) : Host.Outcome State Fault Refusal :=
  s.live dt (fun s => s.sleepEntry w.val)

/-- WING_WAKE (R492). -/
def execWingWake (dt : Elapse) (w : Fin 8) (s : State) : Host.Outcome State Fault Refusal :=
  s.live dt (fun s => s.wingWake w.val)

end Sys2Proof.Machine
end

