-- ==== Sys2Proof/Machine/StudyCmds.lean ====
section
/-!
DEFINITION. The commands of the Study (chapter 14).
-/

namespace Sys2Proof.Machine

/-- DESCRIPTOR_SET_LOAD (R408: the next bank handed to the Study is read). -/
def execDescriptorSetLoad (dt : Elapse) (s : State) : Host.Outcome State Fault Refusal :=
  s.live dt (fun s => s.setLoad)

/-- DESCRIPTOR_BOUNDARY (R410). -/
def execDescriptorBoundary (dt : Elapse) (e : Fin 16) (s : State) : Host.Outcome State Fault Refusal :=
  s.live dt (fun s => s.dscBoundary e.val)

/-- HELD_WORDS_TIMEOUT (R410: words held for 1 ms). -/
def execHeldWordsTimeout (dt : Elapse) (e : Fin 16) (s : State) : Host.Outcome State Fault Refusal :=
  s.live dt (fun s => s.heldTimeout e.val)

/-- STUDY_POP (R406: the engine pops its input Chute). -/
def execStudyPop (dt : Elapse) (e : Fin 16) (c : Ecc) (s : State) : Host.Outcome State Fault Refusal :=
  s.live dt (fun s => s.studyPop e.val c)

/-- KERNEL_START (R406: the whole item has arrived; `fl` is the push of a passed item in whose tick a flush acts). -/
def execKernelStart (dt : Elapse) (e : Fin 16) (fl : Option (Fin 8)) (s : State) : Host.Outcome State Fault Refusal :=
  s.live dt (fun s => s.kernelStart e.val (fl.map Fin.val))

/-- KERNEL_END (R406: the cost of the item has elapsed; `fl` as above). -/
def execKernelEnd (dt : Elapse) (e : Fin 16) (fl : Option (Fin 8)) (s : State) : Host.Outcome State Fault Refusal :=
  s.live dt (fun s => s.kernelEnd e.val (fl.map Fin.val))

/-- TI_STD_CLOSE (R414: an event at ti_std_e_0). -/
def execTiStdClose (dt : Elapse) (e : Fin 16) (fl : Option (Fin 8)) (s : State) : Host.Outcome State Fault Refusal :=
  s.live dt (fun s => s.tiStd e.val 0 (fl.map Fin.val))

/-- TI_STD_RESET (R414: an event at ti_std_e_1). -/
def execTiStdReset (dt : Elapse) (e : Fin 16) (fl : Option (Fin 8)) (s : State) : Host.Outcome State Fault Refusal :=
  s.live dt (fun s => s.tiStd e.val 1 (fl.map Fin.val))

/-- STUDY_FENCE (R416: a fence event of the Hearth). -/
def execStudyFence (dt : Elapse) (e : Fin 16) (s : State) : Host.Outcome State Fault Refusal :=
  s.live dt (fun s => s.engFence e.val)

end Sys2Proof.Machine
end

