-- ==== Sys2Proof/Machine/SweepCmds.lean ====
section
/-!
DEFINITION. The commands of the Stairwell (chapter 05).
-/

namespace Sys2Proof.Machine

/-! ### Host commands -/

/-- SWP_ARM (R168). -/
def execSwpArm (dt : Elapse) (c : Fin 32) (s : State) : Host.Outcome State Fault Refusal :=
  s.hosted dt (fun s => s.swpArm c.val)

/-- SWP_CHECK_DONE (R168: the checks of a context in CHECKING are complete). -/
def execSwpCheckDone (dt : Elapse) (c : Fin 32) (s : State) : Host.Outcome State Fault Refusal :=
  s.live dt (fun s => s.swpChecked c.val)

/-- SWP_START (R168). -/
def execSwpStart (dt : Elapse) (c : Fin 32) (s : State) : Host.Outcome State Fault Refusal :=
  s.hosted dt (fun s => s.swpStart c.val)

/-- SWP_ABORT (R178). -/
def execSwpAbort (dt : Elapse) (c : Fin 32) (s : State) : Host.Outcome State Fault Refusal :=
  s.hosted dt (fun s => s.swpAbortCmd c.val)

/-- SWP_PAUSE (R185). -/
def execSwpPause (dt : Elapse) (c : Fin 32) (s : State) : Host.Outcome State Fault Refusal :=
  s.hosted dt (fun s => s.swpPauseCmd c.val)

/-- SWP_RESUME (R185). -/
def execSwpResume (dt : Elapse) (c : Fin 32) (s : State) : Host.Outcome State Fault Refusal :=
  s.hosted dt (fun s => s.swpResume c.val)

/-- SWP_RELEASE (R168). -/
def execSwpRelease (dt : Elapse) (c : Fin 32) (s : State) : Host.Outcome State Fault Refusal :=
  s.hosted dt (fun s => s.swpRelease c.val)

/-! ### Events -/

/-- TI_SWP_START (R174: an event at ti_swp_start). -/
def execTiSwpStart (dt : Elapse) (c : Fin 32) (s : State) : Host.Outcome State Fault Refusal :=
  s.live dt (fun s => (s.tiTake (0x100 + 4 * c.val)).swpTiStart c.val)

/-- START_TICK_REACHED (R174: the machine tick has reached T). -/
def execStartTickReached (dt : Elapse) (c : Fin 32) (s : State) : Host.Outcome State Fault Refusal :=
  s.live dt (fun s => s.startTick c.val)

/-- DWELL_END (R171: the dwell ends at E_d). -/
def execDwellEnd (dt : Elapse) (c : Fin 32) (s : State) : Host.Outcome State Fault Refusal :=
  s.live dt (fun s => s.dwellEnd c.val)

/-- STEP_END (R171: the step ends at t_end). -/
def execStepEnd (dt : Elapse) (c : Fin 32) (s : State) : Host.Outcome State Fault Refusal :=
  s.live dt (fun s => s.stepEnd c.val)

/-- OFF_PHASE_END (R167: the off phase ends). -/
def execOffPhaseEnd (dt : Elapse) (c : Fin 32) (s : State) : Host.Outcome State Fault Refusal :=
  s.live dt (fun s => s.offEnd c.val)

/-- TI_SWP_STEP (R172: an event at ti_swp_step). -/
def execTiSwpStep (dt : Elapse) (c : Fin 32) (s : State) : Host.Outcome State Fault Refusal :=
  s.live dt (fun s => (s.tiTake (0x101 + 4 * c.val)).swpTiStep c.val)

/-- TI_SWP_ABORT (R177: an event at ti_swp_abort). -/
def execTiSwpAbort (dt : Elapse) (c : Fin 32) (s : State) : Host.Outcome State Fault Refusal :=
  s.live dt (fun s => (s.tiTake (0x102 + 4 * c.val)).swpTiAbort c.val)

/-- TI_SWP_BRK (R177: a breakdown verdict at ti_swp_brk). -/
def execTiSwpBrk (dt : Elapse) (c : Fin 32) (s : State) : Host.Outcome State Fault Refusal :=
  s.live dt (fun s => (s.tiTake (0x103 + 4 * c.val)).swpTiBrk c.val)

/-- PAUSE_MAX_EXPIRED (R182). -/
def execPauseMaxExpired (dt : Elapse) (c : Fin 32) (s : State) : Host.Outcome State Fault Refusal :=
  s.live dt (fun s => s.pauseMax c.val)

/-- TRG_TMO_EXPIRED (R184). -/
def execTrgTmoExpired (dt : Elapse) (c : Fin 32) (s : State) : Host.Outcome State Fault Refusal :=
  s.live dt (fun s => s.trgTmo c.val)

/-- STAIRWELL_FENCE (R177: a fence event of the Hearth). -/
def execStairwellFence (dt : Elapse) (s : State) : Host.Outcome State Fault Refusal :=
  s.live dt (fun s => s.swpFence)

end Sys2Proof.Machine
end

