-- ==== Sys2Proof/Machine/Dispatch.lean ====
section
/-! DEFINITION. The meaning of each command: one arm per constructor of Instr. -/

namespace Sys2Proof.Machine

def exec (i : Instr) (s : State) : Host.Outcome State Fault Refusal :=
  match i with
  | .registerWrite dt path addr value => Sys2Proof.Machine.execRegisterWrite dt path addr value s
  | .pairLowRead dt path addr => Sys2Proof.Machine.execPairLowRead dt path addr s
  | .pairLowWrite dt path addr value => Sys2Proof.Machine.execPairLowWrite dt path addr value s
  | .pairHighWrite dt path addr value => Sys2Proof.Machine.execPairHighWrite dt path addr value s
  | .measLastVLoRead dt path ch => Sys2Proof.Machine.execMeasLastVLoRead dt path ch s
  | .markHtickLoRead dt path => Sys2Proof.Machine.execMarkHtickLoRead dt path s
  | .ppsHtickLoRead dt path => Sys2Proof.Machine.execPpsHtickLoRead dt path s
  | .hrtRecSrcRead dt path => Sys2Proof.Machine.execHrtRecSrcRead dt path s
  | .todSecLoRead dt path => Sys2Proof.Machine.execTodSecLoRead dt path s
  | .w1cFlagClear dt path addr value => Sys2Proof.Machine.execW1cFlagClear dt path addr value s
  | .powerOnResetRelease dt bootSel => Sys2Proof.Machine.execPowerOnResetRelease dt bootSel s
  | .periodBoundary dt ch tripped => Sys2Proof.Machine.execPeriodBoundary dt ch tripped s
  | .compMaxReached dt ch => Sys2Proof.Machine.execCompMaxReached dt ch s
  | .arm dt ch => Sys2Proof.Machine.execArm dt ch s
  | .softQuench dt ch => Sys2Proof.Machine.execSoftQuench dt ch s
  | .hardQuench dt ch => Sys2Proof.Machine.execHardQuench dt ch s
  | .wngArm dt wing mask => Sys2Proof.Machine.execWngArm dt wing mask s
  | .wngQuench dt wing soft hard => Sys2Proof.Machine.execWngQuench dt wing soft hard s
  | .armTimeout dt ch => Sys2Proof.Machine.execArmTimeout dt ch s
  | .holdExpired dt ch => Sys2Proof.Machine.execHoldExpired dt ch s
  | .tiTakeover dt ch => Sys2Proof.Machine.execTiTakeover dt ch s
  | .tiNospare dt ch => Sys2Proof.Machine.execTiNospare dt ch s
  | .rampdownFrame dt ch => Sys2Proof.Machine.execRampdownFrame dt ch s
  | .channelFence dt ch => Sys2Proof.Machine.execChannelFence dt ch s
  | .headReady dt ch => Sys2Proof.Machine.execHeadReady dt ch s
  | .gpgFire dt ch => Sys2Proof.Machine.execGpgFire dt ch s
  | .gpgStop dt ch => Sys2Proof.Machine.execGpgStop dt ch s
  | .tiPulseTrigger dt ch => Sys2Proof.Machine.execTiPulseTrigger dt ch s
  | .pulseStart dt ch => Sys2Proof.Machine.execPulseStart dt ch s
  | .pulseEnd dt ch => Sys2Proof.Machine.execPulseEnd dt ch s
  | .loopPassStart dt ch upsets => Sys2Proof.Machine.execLoopPassStart dt ch upsets s
  | .outputLatch dt ch => Sys2Proof.Machine.execOutputLatch dt ch s
  | .templateReplacementRequest dt ch template => Sys2Proof.Machine.execTemplateReplacementRequest dt ch template s
  | .templateLoadDone dt ch => Sys2Proof.Machine.execTemplateLoadDone dt ch s
  | .tileFence dt tile => Sys2Proof.Machine.execTileFence dt tile s
  | .spareReady dt ch => Sys2Proof.Machine.execSpareReady dt ch s
  | .trkaTimeout dt wing => Sys2Proof.Machine.execTrkaTimeout dt wing s
  | .trkpEdge dt wing falling => Sys2Proof.Machine.execTrkpEdge dt wing falling s
  | .trkpGateEnd dt wing => Sys2Proof.Machine.execTrkpGateEnd dt wing s
  | .trkpTimeout dt wing => Sys2Proof.Machine.execTrkpTimeout dt wing s
  | .sampleFrame dt ch frame => Sys2Proof.Machine.execSampleFrame dt ch frame s
  | .arrivalEdgeMissing dt ch => Sys2Proof.Machine.execArrivalEdgeMissing dt ch s
  | .apertureOpen dt ch => Sys2Proof.Machine.execApertureOpen dt ch s
  | .apStartCmd dt ch => Sys2Proof.Machine.execApStartCmd dt ch s
  | .apStopCmd dt ch => Sys2Proof.Machine.execApStopCmd dt ch s
  | .tiAperture dt ch => Sys2Proof.Machine.execTiAperture dt ch s
  | .recordPush dt ch flushAt => Sys2Proof.Machine.execRecordPush dt ch flushAt s
  | .recordRepush dt ch flushAt => Sys2Proof.Machine.execRecordRepush dt ch flushAt s
  | .secTimeout dt ch => Sys2Proof.Machine.execSecTimeout dt ch s
  | .swpArm dt ctx => Sys2Proof.Machine.execSwpArm dt ctx s
  | .swpCheckDone dt ctx => Sys2Proof.Machine.execSwpCheckDone dt ctx s
  | .swpStart dt ctx => Sys2Proof.Machine.execSwpStart dt ctx s
  | .swpAbort dt ctx => Sys2Proof.Machine.execSwpAbort dt ctx s
  | .swpPause dt ctx => Sys2Proof.Machine.execSwpPause dt ctx s
  | .swpResume dt ctx => Sys2Proof.Machine.execSwpResume dt ctx s
  | .swpRelease dt ctx => Sys2Proof.Machine.execSwpRelease dt ctx s
  | .tiSwpStart dt ctx => Sys2Proof.Machine.execTiSwpStart dt ctx s
  | .startTickReached dt ctx => Sys2Proof.Machine.execStartTickReached dt ctx s
  | .dwellEnd dt ctx => Sys2Proof.Machine.execDwellEnd dt ctx s
  | .stepEnd dt ctx => Sys2Proof.Machine.execStepEnd dt ctx s
  | .offPhaseEnd dt ctx => Sys2Proof.Machine.execOffPhaseEnd dt ctx s
  | .tiSwpStep dt ctx => Sys2Proof.Machine.execTiSwpStep dt ctx s
  | .tiSwpAbort dt ctx => Sys2Proof.Machine.execTiSwpAbort dt ctx s
  | .tiSwpBrk dt ctx => Sys2Proof.Machine.execTiSwpBrk dt ctx s
  | .pauseMaxExpired dt ctx => Sys2Proof.Machine.execPauseMaxExpired dt ctx s
  | .trgTmoExpired dt ctx => Sys2Proof.Machine.execTrgTmoExpired dt ctx s
  | .stepBankWindowWrite dt path bank word value ecc => Sys2Proof.Machine.execStepBankWindowWrite dt path bank word value ecc s
  | .markAccepted dt => Sys2Proof.Machine.execMarkAccepted dt s
  | .mclkMissing dt => Sys2Proof.Machine.execMclkMissing dt s
  | .mclkPresent dt => Sys2Proof.Machine.execMclkPresent dt s
  | .markLoss dt => Sys2Proof.Machine.execMarkLoss dt s
  | .holdoverExpired dt => Sys2Proof.Machine.execHoldoverExpired dt s
  | .acquireTimeout dt => Sys2Proof.Machine.execAcquireTimeout dt s
  | .loadNextMark dt => Sys2Proof.Machine.execLoadNextMark dt s
  | .loadAfterSec dt => Sys2Proof.Machine.execLoadAfterSec dt s
  | .loadCancel dt => Sys2Proof.Machine.execLoadCancel dt s
  | .snapshot dt => Sys2Proof.Machine.execSnapshot dt s
  | .tiPhsSnap dt => Sys2Proof.Machine.execTiPhsSnap dt s
  | .machEnClear dt => Sys2Proof.Machine.execMachEnClear dt s
  | .mainsEdge dt => Sys2Proof.Machine.execMainsEdge dt s
  | .mainsLoss dt => Sys2Proof.Machine.execMainsLoss dt s
  | .alarmFire dt idx => Sys2Proof.Machine.execAlarmFire dt idx s
  | .almWrite dt path => Sys2Proof.Machine.execAlmWrite dt path s
  | .almRead dt path => Sys2Proof.Machine.execAlmRead dt path s
  | .almDisable dt path => Sys2Proof.Machine.execAlmDisable dt path s
  | .ppsCapture dt => Sys2Proof.Machine.execPpsCapture dt s
  | .guardTrip dt ch cmp => Sys2Proof.Machine.execGuardTrip dt ch cmp s
  | .watchTrip dt ch cmp => Sys2Proof.Machine.execWatchTrip dt ch cmp s
  | .latchHostClear dt path ch value tripped => Sys2Proof.Machine.execLatchHostClear dt path ch value tripped s
  | .puRelease dt ch cmp => Sys2Proof.Machine.execPuRelease dt ch cmp s
  | .rbNow dt ch => Sys2Proof.Machine.execRbNow dt ch s
  | .refadcConversion dt conv => Sys2Proof.Machine.execRefadcConversion dt conv s
  | .calFullRunRequest dt ch => Sys2Proof.Machine.execCalFullRunRequest dt ch s
  | .calGainRunRequest dt ch => Sys2Proof.Machine.execCalGainRunRequest dt ch s
  | .calSave dt ch => Sys2Proof.Machine.execCalSave dt ch s
  | .calAbort dt => Sys2Proof.Machine.execCalAbort dt s
  | .calReload dt ch => Sys2Proof.Machine.execCalReload dt ch s
  | .temperatureTrigger dt => Sys2Proof.Machine.execTemperatureTrigger dt s
  | .tiCalGo dt => Sys2Proof.Machine.execTiCalGo dt s
  | .calRunStart dt => Sys2Proof.Machine.execCalRunStart dt s
  | .routeAckTimeout dt => Sys2Proof.Machine.execRouteAckTimeout dt s
  | .calTmoExpired dt => Sys2Proof.Machine.execCalTmoExpired dt s
  | .calStoreConfirmed dt => Sys2Proof.Machine.execCalStoreConfirmed dt s
  | .uplinkIdleFrame dt ch frame delay onTick => Sys2Proof.Machine.execUplinkIdleFrame dt ch frame delay onTick s
  | .descriptorFrame dt ch frame => Sys2Proof.Machine.execDescriptorFrame dt ch frame s
  | .mgmtRespFrame dt ch frame => Sys2Proof.Machine.execMgmtRespFrame dt ch frame s
  | .levelFrameSend dt ch => Sys2Proof.Machine.execLevelFrameSend dt ch s
  | .lnkRetrain dt ch => Sys2Proof.Machine.execLnkRetrain dt ch s
  | .lnkReenum dt ch => Sys2Proof.Machine.execLnkReenum dt ch s
  | .elasticSlip dt ch => Sys2Proof.Machine.execElasticSlip dt ch s
  | .headAbsent dt ch => Sys2Proof.Machine.execHeadAbsent dt ch s
  | .linkEnClear dt ch => Sys2Proof.Machine.execLinkEnClear dt ch s
  | .hmwSend dt ch => Sys2Proof.Machine.execHmwSend dt ch s
  | .mgmtTimeout dt ch => Sys2Proof.Machine.execMgmtTimeout dt ch s
  | .errorLineReport dt source cause => Sys2Proof.Machine.execErrorLineReport dt source cause s
  | .hearthWindowExpiry dt source => Sys2Proof.Machine.execHearthWindowExpiry dt source s
  | .recordServe dt => Sys2Proof.Machine.execRecordServe dt s
  | .hrtPop dt => Sys2Proof.Machine.execHrtPop dt s
  | .hrtFirstArm dt => Sys2Proof.Machine.execHrtFirstArm dt s
  | .hrtClrLost dt => Sys2Proof.Machine.execHrtClrLost dt s
  | .hrtSrcWriteCfg dt path => Sys2Proof.Machine.execHrtSrcWriteCfg dt path s
  | .hrtSrcRead dt path => Sys2Proof.Machine.execHrtSrcRead dt path s
  | .forceSet dt path => Sys2Proof.Machine.execForceSet dt path s
  | .forceClear dt path => Sys2Proof.Machine.execForceClear dt path s
  | .hostRelease dt path => Sys2Proof.Machine.execHostRelease dt path s
  | .clearOccCount dt path => Sys2Proof.Machine.execClearOccCount dt path s
  | .tmrVote dt => Sys2Proof.Machine.execTmrVote dt s
  | .cfgCheckStaging dt path => Sys2Proof.Machine.execCfgCheckStaging dt path s
  | .cfgApplyStaging dt path wing => Sys2Proof.Machine.execCfgApplyStaging dt path wing s
  | .cfgApplySlot dt path wing slot => Sys2Proof.Machine.execCfgApplySlot dt path wing slot s
  | .cfgStoreSlot dt path slot => Sys2Proof.Machine.execCfgStoreSlot dt path slot s
  | .cfgStoreFoundation dt path => Sys2Proof.Machine.execCfgStoreFoundation dt path s
  | .cfgActivateKeeper dt path => Sys2Proof.Machine.execCfgActivateKeeper dt path s
  | .cfgAbort dt path => Sys2Proof.Machine.execCfgAbort dt path s
  | .foundationCommit dt => Sys2Proof.Machine.execFoundationCommit dt s
  | .overlayApplyA dt => Sys2Proof.Machine.execOverlayApplyA dt s
  | .keeperReady dt => Sys2Proof.Machine.execKeeperReady dt s
  | .keeperReadyTimeout dt => Sys2Proof.Machine.execKeeperReadyTimeout dt s
  | .scrubRead dt region index differs refBad ends => Sys2Proof.Machine.execScrubRead dt region index differs refBad ends s
  | .panOwnWrite dt path n value => Sys2Proof.Machine.execPanOwnWrite dt path n value s
  | .ownDrainAck dt bank => Sys2Proof.Machine.execOwnDrainAck dt bank s
  | .pantryWindowRead dt path bank word high ecc => Sys2Proof.Machine.execPantryWindowRead dt path bank word high ecc s
  | .pantryWindowWrite dt path bank word value ecc other => Sys2Proof.Machine.execPantryWindowWrite dt path bank word value ecc other s
  | .patrolRead dt bank ecc => Sys2Proof.Machine.execPatrolRead dt bank ecc s
  | .panRemapRow dt path bank row => Sys2Proof.Machine.execPanRemapRow dt path bank row s
  | .rowRemapDone dt bank => Sys2Proof.Machine.execRowRemapDone dt bank s
  | .panMigrateBank dt path bank => Sys2Proof.Machine.execPanMigrateBank dt path bank s
  | .bankFence dt bank => Sys2Proof.Machine.execBankFence dt bank s
  | .migrationDone dt bank => Sys2Proof.Machine.execMigrationDone dt bank s
  | .panFullBist dt path bank => Sys2Proof.Machine.execPanFullBist dt path bank s
  | .fullBistDone dt rows => Sys2Proof.Machine.execFullBistDone dt rows s
  | .onlineBistBorrow dt fails => Sys2Proof.Machine.execOnlineBistBorrow dt fails s
  | .chutePush dt chute unit word => Sys2Proof.Machine.execChutePush dt chute unit word s
  | .chutePop dt chute unit ecc => Sys2Proof.Machine.execChutePop dt chute unit ecc s
  | .chuFlush dt chute => Sys2Proof.Machine.execChuFlush dt chute s
  | .pointerCheckFail dt chute w w2 r r2 => Sys2Proof.Machine.execPointerCheckFail dt chute w w2 r r2 s
  | .chuteStale dt chute => Sys2Proof.Machine.execChuteStale dt chute s
  | .hallwayEvent dt producer half => Sys2Proof.Machine.execHallwayEvent dt producer half s
  | .rateWindowExpiry dt chan => Sys2Proof.Machine.execRateWindowExpiry dt chan s
  | .refractoryEnd dt chan => Sys2Proof.Machine.execRefractoryEnd dt chan s
  | .hwyFire dt mask => Sys2Proof.Machine.execHwyFire dt mask s
  | .hwyRouteWrite dt path => Sys2Proof.Machine.execHwyRouteWrite dt path s
  | .hwyRouteRead dt path => Sys2Proof.Machine.execHwyRouteRead dt path s
  | .hwyClearCounts dt path => Sys2Proof.Machine.execHwyClearCounts dt path s
  | .hwyTiClr dt path => Sys2Proof.Machine.execHwyTiClr dt path s
  | .descriptorSetLoad dt => Sys2Proof.Machine.execDescriptorSetLoad dt s
  | .descriptorBoundary dt engine => Sys2Proof.Machine.execDescriptorBoundary dt engine s
  | .heldWordsTimeout dt engine => Sys2Proof.Machine.execHeldWordsTimeout dt engine s
  | .studyPop dt engine ecc => Sys2Proof.Machine.execStudyPop dt engine ecc s
  | .kernelStart dt engine flushAt => Sys2Proof.Machine.execKernelStart dt engine flushAt s
  | .kernelEnd dt engine flushAt => Sys2Proof.Machine.execKernelEnd dt engine flushAt s
  | .tiStdClose dt engine flushAt => Sys2Proof.Machine.execTiStdClose dt engine flushAt s
  | .tiStdReset dt engine flushAt => Sys2Proof.Machine.execTiStdReset dt engine flushAt s
  | .studyFence dt engine => Sys2Proof.Machine.execStudyFence dt engine s
  | .portBlockLock dt port => Sys2Proof.Machine.execPortBlockLock dt port s
  | .speedTryExpiry dt port => Sys2Proof.Machine.execSpeedTryExpiry dt port s
  | .networkHousekeepingFrame dt port vid f => Sys2Proof.Machine.execNetworkHousekeepingFrame dt port vid f s
  | .claondeaMessage dt port datagram => Sys2Proof.Machine.execClaondeaMessage dt port datagram s
  | .ping dt port => Sys2Proof.Machine.execPing dt port s
  | .regRead dt port eccs => Sys2Proof.Machine.execRegRead dt port eccs s
  | .regWrite dt port eccs => Sys2Proof.Machine.execRegWrite dt port eccs s
  | .blkRead dt port eccs => Sys2Proof.Machine.execBlkRead dt port eccs s
  | .blkWrite dt port eccs => Sys2Proof.Machine.execBlkWrite dt port eccs s
  | .ovlLoad dt port => Sys2Proof.Machine.execOvlLoad dt port s
  | .sweepLoad dt port => Sys2Proof.Machine.execSweepLoad dt port s
  | .streamSub dt port => Sys2Proof.Machine.execStreamSub dt port s
  | .eventSub dt port => Sys2Proof.Machine.execEventSub dt port s
  | .eventFire dt port => Sys2Proof.Machine.execEventFire dt port s
  | .mcStart dt port => Sys2Proof.Machine.execMcStart dt port s
  | .eventNotifyAck dt sub => Sys2Proof.Machine.execEventNotifyAck dt sub s
  | .responseHandover dt port => Sys2Proof.Machine.execResponseHandover dt port s
  | .streamDataSend dt sub chute => Sys2Proof.Machine.execStreamDataSend dt sub chute s
  | .streamItemCopy dt chute ecc => Sys2Proof.Machine.execStreamItemCopy dt chute ecc s
  | .eventNotify dt sub => Sys2Proof.Machine.execEventNotify dt sub s
  | .notifyResend dt sub => Sys2Proof.Machine.execNotifyResend dt sub s
  | .ptpMessage dt msg => Sys2Proof.Machine.execPtpMessage dt msg s
  | .announceTimeout dt => Sys2Proof.Machine.execAnnounceTimeout dt s
  | .failover dt port => Sys2Proof.Machine.execFailover dt port s
  | .failback dt path => Sys2Proof.Machine.execFailback dt path s
  | .clrSessions dt path => Sys2Proof.Machine.execClrSessions dt path s
  | .sideDoorRead dt bytes eccs late => Sys2Proof.Machine.execSideDoorRead dt bytes eccs late s
  | .sideDoorWrite dt bytes eccs late => Sys2Proof.Machine.execSideDoorWrite dt bytes eccs late s
  | .sideDoorStatus dt bytes => Sys2Proof.Machine.execSideDoorStatus dt bytes s
  | .sideDoorBadCmd dt bytes => Sys2Proof.Machine.execSideDoorBadCmd dt bytes s
  | .frameErr dt => Sys2Proof.Machine.execFrameErr dt s
  | .kprDoorRing dt path => Sys2Proof.Machine.execKprDoorRing dt path s
  | .info dt => Sys2Proof.Machine.execInfo dt s
  | .imgLoad dt => Sys2Proof.Machine.execImgLoad dt s
  | .fuseKey dt verifies => Sys2Proof.Machine.execFuseKey dt verifies s
  | .fuseRevoke dt verifies => Sys2Proof.Machine.execFuseRevoke dt verifies s
  | .fuseMinver dt verifies => Sys2Proof.Machine.execFuseMinver dt verifies s
  | .fuseSecure dt verifies => Sys2Proof.Machine.execFuseSecure dt verifies s
  | .histRead dt => Sys2Proof.Machine.execHistRead dt s
  | .mailboxTimeout dt => Sys2Proof.Machine.execMailboxTimeout dt s
  | .mailboxCommandEnd dt => Sys2Proof.Machine.execMailboxCommandEnd dt s
  | .keeperWdog dt => Sys2Proof.Machine.execKeeperWdog dt s
  | .cellarMount dt part => Sys2Proof.Machine.execCellarMount dt part s
  | .unitStore dt outs => Sys2Proof.Machine.execUnitStore dt outs s
  | .unitRead dt outs => Sys2Proof.Machine.execUnitRead dt outs s
  | .journalAppend dt outs => Sys2Proof.Machine.execJournalAppend dt outs s
  | .journalCompaction dt outs => Sys2Proof.Machine.execJournalCompaction dt outs s
  | .historyPageWrite dt outs => Sys2Proof.Machine.execHistoryPageWrite dt outs s
  | .histFlushTimer dt => Sys2Proof.Machine.execHistFlushTimer dt s
  | .nandOpTimeout dt => Sys2Proof.Machine.execNandOpTimeout dt s
  | .blockRefresh dt outs => Sys2Proof.Machine.execBlockRefresh dt outs s
  | .retentionScanRead dt outs => Sys2Proof.Machine.execRetentionScanRead dt outs s
  | .wearMigration dt outs => Sys2Proof.Machine.execWearMigration dt outs s
  | .celRetentionPass dt path => Sys2Proof.Machine.execCelRetentionPass dt path s
  | .celFlushHistory dt path => Sys2Proof.Machine.execCelFlushHistory dt path s
  | .celRefreshBlock dt path block => Sys2Proof.Machine.execCelRefreshBlock dt path block s
  | .celMarkBad dt path block => Sys2Proof.Machine.execCelMarkBad dt path block s
  | .cellarFence dt => Sys2Proof.Machine.execCellarFence dt s
  | .supplyFault dt supply low => Sys2Proof.Machine.execSupplyFault dt supply low s
  | .hrefLost dt pll => Sys2Proof.Machine.execHrefLost dt pll s
  | .resetN dt => Sys2Proof.Machine.execResetN dt s
  | .glbRstWrite dt path value => Sys2Proof.Machine.execGlbRstWrite dt path value s
  | .deviceResetRelease dt bootSel => Sys2Proof.Machine.execDeviceResetRelease dt bootSel s
  | .bootGo dt path => Sys2Proof.Machine.execBootGo dt path s
  | .bootStore dt path => Sys2Proof.Machine.execBootStore dt path s
  | .keeperStart dt => Sys2Proof.Machine.execKeeperStart dt s
  | .glbModeReq dt path value => Sys2Proof.Machine.execGlbModeReq dt path value s
  | .tiWake dt wing => Sys2Proof.Machine.execTiWake dt wing s
  | .hrtSafeRequest dt wings now => Sys2Proof.Machine.execHrtSafeRequest dt wings now s
  | .modeEntry dt wing => Sys2Proof.Machine.execModeEntry dt wing s
  | .safeEntry dt wing => Sys2Proof.Machine.execSafeEntry dt wing s
  | .sleepEntry dt wing => Sys2Proof.Machine.execSleepEntry dt wing s
  | .wingWake dt wing => Sys2Proof.Machine.execWingWake dt wing s
  | .jtagUpdateIr dt on cells => Sys2Proof.Machine.execJtagUpdateIr dt on cells s
  | .stairwellFence dt => Sys2Proof.Machine.execStairwellFence dt s
  | .calSequencerFence dt => Sys2Proof.Machine.execCalSequencerFence dt s
  | .cfgEngineFence dt => Sys2Proof.Machine.execCfgEngineFence dt s
  | .supplyReturn dt supply => Sys2Proof.Machine.execSupplyReturn dt supply s
  | .hrefReturn dt => Sys2Proof.Machine.execHrefReturn dt s
  | .comparatorRelease dt ch cmp => Sys2Proof.Machine.execComparatorRelease dt ch cmp s
  | .portLinkDown dt port => Sys2Proof.Machine.execPortLinkDown dt port s
  | .keeperFence dt => Sys2Proof.Machine.execKeeperFence dt s
  | .sideDoorFence dt => Sys2Proof.Machine.execSideDoorFence dt s
  | .keeperFault dt => Sys2Proof.Machine.execKeeperFault dt s
  | .nandOperationDone dt out => Sys2Proof.Machine.execNandOperationDone dt out s
  | .calWaitExpiry dt => Sys2Proof.Machine.execCalWaitExpiry dt s
  | .armingGateRise dt ch => Sys2Proof.Machine.execArmingGateRise dt ch s
  | .bootStandbyEntry dt => Sys2Proof.Machine.execBootStandbyEntry dt s

end Sys2Proof.Machine
end

