-- ==== Sys2Proof/WellFormed.lean ====
section
/-!
DEFINITION. Which commands are well formed: the checks that the operands' types do not already make. The model gives an
ill-formed command a meaning all the same (its step is total); a well-formed one says something that can happen at the
block's edge.
-/

namespace Sys2Proof

/-- A frame has symbols 1 to 31 (R269). -/
def Frame.wellFormed (f : Frame) : Bool := f.bytes.length == 31

/-- A source address is an IPv4 or an IPv6 address (R420). -/
def Datagram.wellFormed (d : Datagram) : Bool := d.src.length == 4 || d.src.length == 16

/-- A part has pages in blocks on its targets. -/
def NandPart.wellFormed (p : NandPart) : Bool :=
  p.targets.val == 0 || (decide (0 < p.pageBytes) && decide (0 < p.pagesPerBlock) && decide (0 < p.blocks))

/-- A unit that pops Chutes: a Porch DMA (0, 1) or a Study engine (16 to 31) (R373). -/
def popUnit (u : Nat) : Bool := decide (u < 2) || decide (16 ≤ u)

/-- A fault source of R304. -/
def sourceOk (k : Nat) : Bool :=
  decide (k < 0x88) || (decide (0x100 ≤ k) && decide (k ≤ 0x210)) || (decide (0x240 ≤ k) && decide (k ≤ 0x280))
    || (decide (0x300 ≤ k) && decide (k ≤ 0x408)) || (decide (0x410 ≤ k) && decide (k ≤ 0x425))

/-- A producer of R394. -/
def producerOk (p : Nat) : Bool :=
  let within (a b : Nat) : Bool := decide (a ≤ p) && decide (p < b)
  (decide (p < 0x800) && p % 16 != 15) || (within 0x800 0x840 && decide (p % 8 < 6)) || within 0x900 0x948
    || (within 0xA00 0xB00 && decide (p % 8 < 5)) || within 0xB00 0xB04 || within 0xB10 0xB13 || within 0xB20 0xB23
    || within 0xC00 0xC40 || within 0xD00 0xD20 || within 0xE00 0xF00

/-- The time that has passed since the command before. -/
def Instr.dt : Instr → Elapse
  | .registerWrite dt _ _ _ => dt
  | .pairLowRead dt _ _ => dt
  | .pairLowWrite dt _ _ _ => dt
  | .pairHighWrite dt _ _ _ => dt
  | .measLastVLoRead dt _ _ => dt
  | .markHtickLoRead dt _ => dt
  | .ppsHtickLoRead dt _ => dt
  | .hrtRecSrcRead dt _ => dt
  | .todSecLoRead dt _ => dt
  | .w1cFlagClear dt _ _ _ => dt
  | .powerOnResetRelease dt _ => dt
  | .periodBoundary dt _ _ => dt
  | .compMaxReached dt _ => dt
  | .arm dt _ => dt
  | .softQuench dt _ => dt
  | .hardQuench dt _ => dt
  | .wngArm dt _ _ => dt
  | .wngQuench dt _ _ _ => dt
  | .armTimeout dt _ => dt
  | .holdExpired dt _ => dt
  | .tiTakeover dt _ => dt
  | .tiNospare dt _ => dt
  | .rampdownFrame dt _ => dt
  | .channelFence dt _ => dt
  | .headReady dt _ => dt
  | .gpgFire dt _ => dt
  | .gpgStop dt _ => dt
  | .tiPulseTrigger dt _ => dt
  | .pulseStart dt _ => dt
  | .pulseEnd dt _ => dt
  | .loopPassStart dt _ _ => dt
  | .outputLatch dt _ => dt
  | .templateReplacementRequest dt _ _ => dt
  | .templateLoadDone dt _ => dt
  | .tileFence dt _ => dt
  | .spareReady dt _ => dt
  | .trkaTimeout dt _ => dt
  | .trkpEdge dt _ _ => dt
  | .trkpGateEnd dt _ => dt
  | .trkpTimeout dt _ => dt
  | .sampleFrame dt _ _ => dt
  | .arrivalEdgeMissing dt _ => dt
  | .apertureOpen dt _ => dt
  | .apStartCmd dt _ => dt
  | .apStopCmd dt _ => dt
  | .tiAperture dt _ => dt
  | .recordPush dt _ _ => dt
  | .recordRepush dt _ _ => dt
  | .secTimeout dt _ => dt
  | .swpArm dt _ => dt
  | .swpCheckDone dt _ => dt
  | .swpStart dt _ => dt
  | .swpAbort dt _ => dt
  | .swpPause dt _ => dt
  | .swpResume dt _ => dt
  | .swpRelease dt _ => dt
  | .tiSwpStart dt _ => dt
  | .startTickReached dt _ => dt
  | .dwellEnd dt _ => dt
  | .stepEnd dt _ => dt
  | .offPhaseEnd dt _ => dt
  | .tiSwpStep dt _ => dt
  | .tiSwpAbort dt _ => dt
  | .tiSwpBrk dt _ => dt
  | .pauseMaxExpired dt _ => dt
  | .trgTmoExpired dt _ => dt
  | .stepBankWindowWrite dt _ _ _ _ _ => dt
  | .markAccepted dt => dt
  | .mclkMissing dt => dt
  | .mclkPresent dt => dt
  | .markLoss dt => dt
  | .holdoverExpired dt => dt
  | .acquireTimeout dt => dt
  | .loadNextMark dt => dt
  | .loadAfterSec dt => dt
  | .loadCancel dt => dt
  | .snapshot dt => dt
  | .tiPhsSnap dt => dt
  | .machEnClear dt => dt
  | .mainsEdge dt => dt
  | .mainsLoss dt => dt
  | .alarmFire dt _ => dt
  | .almWrite dt _ => dt
  | .almRead dt _ => dt
  | .almDisable dt _ => dt
  | .ppsCapture dt => dt
  | .guardTrip dt _ _ => dt
  | .watchTrip dt _ _ => dt
  | .latchHostClear dt _ _ _ _ => dt
  | .puRelease dt _ _ => dt
  | .rbNow dt _ => dt
  | .refadcConversion dt _ => dt
  | .calFullRunRequest dt _ => dt
  | .calGainRunRequest dt _ => dt
  | .calSave dt _ => dt
  | .calAbort dt => dt
  | .calReload dt _ => dt
  | .temperatureTrigger dt => dt
  | .tiCalGo dt => dt
  | .calRunStart dt => dt
  | .routeAckTimeout dt => dt
  | .calTmoExpired dt => dt
  | .calStoreConfirmed dt => dt
  | .uplinkIdleFrame dt _ _ _ _ => dt
  | .descriptorFrame dt _ _ => dt
  | .mgmtRespFrame dt _ _ => dt
  | .levelFrameSend dt _ => dt
  | .lnkRetrain dt _ => dt
  | .lnkReenum dt _ => dt
  | .elasticSlip dt _ => dt
  | .headAbsent dt _ => dt
  | .linkEnClear dt _ => dt
  | .hmwSend dt _ => dt
  | .mgmtTimeout dt _ => dt
  | .errorLineReport dt _ _ => dt
  | .hearthWindowExpiry dt _ => dt
  | .recordServe dt => dt
  | .hrtPop dt => dt
  | .hrtFirstArm dt => dt
  | .hrtClrLost dt => dt
  | .hrtSrcWriteCfg dt _ => dt
  | .hrtSrcRead dt _ => dt
  | .forceSet dt _ => dt
  | .forceClear dt _ => dt
  | .hostRelease dt _ => dt
  | .clearOccCount dt _ => dt
  | .tmrVote dt => dt
  | .cfgCheckStaging dt _ => dt
  | .cfgApplyStaging dt _ _ => dt
  | .cfgApplySlot dt _ _ _ => dt
  | .cfgStoreSlot dt _ _ => dt
  | .cfgStoreFoundation dt _ => dt
  | .cfgActivateKeeper dt _ => dt
  | .cfgAbort dt _ => dt
  | .foundationCommit dt => dt
  | .overlayApplyA dt => dt
  | .keeperReady dt => dt
  | .keeperReadyTimeout dt => dt
  | .scrubRead dt _ _ _ _ _ => dt
  | .panOwnWrite dt _ _ _ => dt
  | .ownDrainAck dt _ => dt
  | .pantryWindowRead dt _ _ _ _ _ => dt
  | .pantryWindowWrite dt _ _ _ _ _ _ => dt
  | .patrolRead dt _ _ => dt
  | .panRemapRow dt _ _ _ => dt
  | .rowRemapDone dt _ => dt
  | .panMigrateBank dt _ _ => dt
  | .bankFence dt _ => dt
  | .migrationDone dt _ => dt
  | .panFullBist dt _ _ => dt
  | .fullBistDone dt _ => dt
  | .onlineBistBorrow dt _ => dt
  | .chutePush dt _ _ _ => dt
  | .chutePop dt _ _ _ => dt
  | .chuFlush dt _ => dt
  | .pointerCheckFail dt _ _ _ _ _ => dt
  | .chuteStale dt _ => dt
  | .hallwayEvent dt _ _ => dt
  | .rateWindowExpiry dt _ => dt
  | .refractoryEnd dt _ => dt
  | .hwyFire dt _ => dt
  | .hwyRouteWrite dt _ => dt
  | .hwyRouteRead dt _ => dt
  | .hwyClearCounts dt _ => dt
  | .hwyTiClr dt _ => dt
  | .descriptorSetLoad dt => dt
  | .descriptorBoundary dt _ => dt
  | .heldWordsTimeout dt _ => dt
  | .studyPop dt _ _ => dt
  | .kernelStart dt _ _ => dt
  | .kernelEnd dt _ _ => dt
  | .tiStdClose dt _ _ => dt
  | .tiStdReset dt _ _ => dt
  | .studyFence dt _ => dt
  | .portBlockLock dt _ => dt
  | .speedTryExpiry dt _ => dt
  | .networkHousekeepingFrame dt _ _ _ => dt
  | .claondeaMessage dt _ _ => dt
  | .ping dt _ => dt
  | .regRead dt _ _ => dt
  | .regWrite dt _ _ => dt
  | .blkRead dt _ _ => dt
  | .blkWrite dt _ _ => dt
  | .ovlLoad dt _ => dt
  | .sweepLoad dt _ => dt
  | .streamSub dt _ => dt
  | .eventSub dt _ => dt
  | .eventFire dt _ => dt
  | .mcStart dt _ => dt
  | .eventNotifyAck dt _ => dt
  | .responseHandover dt _ => dt
  | .streamDataSend dt _ _ => dt
  | .streamItemCopy dt _ _ => dt
  | .eventNotify dt _ => dt
  | .notifyResend dt _ => dt
  | .ptpMessage dt _ => dt
  | .announceTimeout dt => dt
  | .failover dt _ => dt
  | .failback dt _ => dt
  | .clrSessions dt _ => dt
  | .sideDoorRead dt _ _ _ => dt
  | .sideDoorWrite dt _ _ _ => dt
  | .sideDoorStatus dt _ => dt
  | .sideDoorBadCmd dt _ => dt
  | .frameErr dt => dt
  | .kprDoorRing dt _ => dt
  | .info dt => dt
  | .imgLoad dt => dt
  | .fuseKey dt _ => dt
  | .fuseRevoke dt _ => dt
  | .fuseMinver dt _ => dt
  | .fuseSecure dt _ => dt
  | .histRead dt => dt
  | .mailboxTimeout dt => dt
  | .mailboxCommandEnd dt => dt
  | .keeperWdog dt => dt
  | .cellarMount dt _ => dt
  | .unitStore dt _ => dt
  | .unitRead dt _ => dt
  | .journalAppend dt _ => dt
  | .journalCompaction dt _ => dt
  | .historyPageWrite dt _ => dt
  | .histFlushTimer dt => dt
  | .nandOpTimeout dt => dt
  | .blockRefresh dt _ => dt
  | .retentionScanRead dt _ => dt
  | .wearMigration dt _ => dt
  | .celRetentionPass dt _ => dt
  | .celFlushHistory dt _ => dt
  | .celRefreshBlock dt _ _ => dt
  | .celMarkBad dt _ _ => dt
  | .cellarFence dt => dt
  | .supplyFault dt _ _ => dt
  | .hrefLost dt _ => dt
  | .resetN dt => dt
  | .glbRstWrite dt _ _ => dt
  | .deviceResetRelease dt _ => dt
  | .bootGo dt _ => dt
  | .bootStore dt _ => dt
  | .keeperStart dt => dt
  | .glbModeReq dt _ _ => dt
  | .tiWake dt _ => dt
  | .hrtSafeRequest dt _ _ => dt
  | .modeEntry dt _ => dt
  | .safeEntry dt _ => dt
  | .sleepEntry dt _ => dt
  | .wingWake dt _ => dt
  | .jtagUpdateIr dt _ _ => dt
  | .stairwellFence dt => dt
  | .calSequencerFence dt => dt
  | .cfgEngineFence dt => dt
  | .supplyReturn dt _ => dt
  | .hrefReturn dt => dt
  | .comparatorRelease dt _ _ => dt
  | .portLinkDown dt _ => dt
  | .keeperFence dt => dt
  | .sideDoorFence dt => dt
  | .keeperFault dt => dt
  | .nandOperationDone dt _ => dt
  | .calWaitExpiry dt => dt
  | .armingGateRise dt _ => dt
  | .bootStandbyEntry dt => dt

/-- The operands of the command are such as can occur. -/
def Instr.wellFormed : Instr → Bool
  | .registerWrite _ _ _ _ => true
  | .pairLowRead _ _ _ => true
  | .pairLowWrite _ _ _ _ => true
  | .pairHighWrite _ _ _ _ => true
  | .measLastVLoRead _ _ _ => true
  | .markHtickLoRead _ _ => true
  | .ppsHtickLoRead _ _ => true
  | .hrtRecSrcRead _ _ => true
  | .todSecLoRead _ _ => true
  | .w1cFlagClear _ _ _ _ => true
  | .powerOnResetRelease _ _ => true
  | .periodBoundary _ _ _ => true
  | .compMaxReached _ _ => true
  | .arm _ _ => true
  | .softQuench _ _ => true
  | .hardQuench _ _ => true
  | .wngArm _ _ _ => true
  | .wngQuench _ _ _ _ => true
  | .armTimeout _ _ => true
  | .holdExpired _ _ => true
  | .tiTakeover _ _ => true
  | .tiNospare _ _ => true
  | .rampdownFrame _ _ => true
  | .channelFence _ _ => true
  | .headReady _ _ => true
  | .gpgFire _ _ => true
  | .gpgStop _ _ => true
  | .tiPulseTrigger _ _ => true
  | .pulseStart _ _ => true
  | .pulseEnd _ _ => true
  | .loopPassStart _ _ _ => true
  | .outputLatch _ _ => true
  | .templateReplacementRequest _ _ _ => true
  | .templateLoadDone _ _ => true
  | .tileFence _ _ => true
  | .spareReady _ _ => true
  | .trkaTimeout _ _ => true
  | .trkpEdge _ _ _ => true
  | .trkpGateEnd _ _ => true
  | .trkpTimeout _ _ => true
  | .sampleFrame _ _ frame => frame.wellFormed
  | .arrivalEdgeMissing _ _ => true
  | .apertureOpen _ _ => true
  | .apStartCmd _ _ => true
  | .apStopCmd _ _ => true
  | .tiAperture _ _ => true
  | .recordPush _ _ _ => true
  | .recordRepush _ _ _ => true
  | .secTimeout _ _ => true
  | .swpArm _ _ => true
  | .swpCheckDone _ _ => true
  | .swpStart _ _ => true
  | .swpAbort _ _ => true
  | .swpPause _ _ => true
  | .swpResume _ _ => true
  | .swpRelease _ _ => true
  | .tiSwpStart _ _ => true
  | .startTickReached _ _ => true
  | .dwellEnd _ _ => true
  | .stepEnd _ _ => true
  | .offPhaseEnd _ _ => true
  | .tiSwpStep _ _ => true
  | .tiSwpAbort _ _ => true
  | .tiSwpBrk _ _ => true
  | .pauseMaxExpired _ _ => true
  | .trgTmoExpired _ _ => true
  | .stepBankWindowWrite _ _ _ _ _ _ => true
  | .markAccepted _ => true
  | .mclkMissing _ => true
  | .mclkPresent _ => true
  | .markLoss _ => true
  | .holdoverExpired _ => true
  | .acquireTimeout _ => true
  | .loadNextMark _ => true
  | .loadAfterSec _ => true
  | .loadCancel _ => true
  | .snapshot _ => true
  | .tiPhsSnap _ => true
  | .machEnClear _ => true
  | .mainsEdge _ => true
  | .mainsLoss _ => true
  | .alarmFire _ _ => true
  | .almWrite _ _ => true
  | .almRead _ _ => true
  | .almDisable _ _ => true
  | .ppsCapture _ => true
  | .guardTrip _ _ cmp => decide (cmp.val < 2)
  | .watchTrip _ _ cmp => decide (2 ≤ cmp.val)
  | .latchHostClear _ _ _ _ _ => true
  | .puRelease _ _ _ => true
  | .rbNow _ _ => true
  | .refadcConversion _ _ => true
  | .calFullRunRequest _ _ => true
  | .calGainRunRequest _ _ => true
  | .calSave _ _ => true
  | .calAbort _ => true
  | .calReload _ _ => true
  | .temperatureTrigger _ => true
  | .tiCalGo _ => true
  | .calRunStart _ => true
  | .routeAckTimeout _ => true
  | .calTmoExpired _ => true
  | .calStoreConfirmed _ => true
  | .uplinkIdleFrame _ _ frame _ _ => frame.wellFormed
  | .descriptorFrame _ _ frame => frame.wellFormed
  | .mgmtRespFrame _ _ frame => frame.wellFormed
  | .levelFrameSend _ _ => true
  | .lnkRetrain _ _ => true
  | .lnkReenum _ _ => true
  | .elasticSlip _ _ => true
  | .headAbsent _ _ => true
  | .linkEnClear _ _ => true
  | .hmwSend _ _ => true
  | .mgmtTimeout _ _ => true
  | .errorLineReport _ source _ => sourceOk source.toNat
  | .hearthWindowExpiry _ source => sourceOk source.toNat
  | .recordServe _ => true
  | .hrtPop _ => true
  | .hrtFirstArm _ => true
  | .hrtClrLost _ => true
  | .hrtSrcWriteCfg _ _ => true
  | .hrtSrcRead _ _ => true
  | .forceSet _ _ => true
  | .forceClear _ _ => true
  | .hostRelease _ _ => true
  | .clearOccCount _ _ => true
  | .tmrVote _ => true
  | .cfgCheckStaging _ _ => true
  | .cfgApplyStaging _ _ _ => true
  | .cfgApplySlot _ _ _ _ => true
  | .cfgStoreSlot _ _ _ => true
  | .cfgStoreFoundation _ _ => true
  | .cfgActivateKeeper _ _ => true
  | .cfgAbort _ _ => true
  | .foundationCommit _ => true
  | .overlayApplyA _ => true
  | .keeperReady _ => true
  | .keeperReadyTimeout _ => true
  | .scrubRead _ region _ _ _ _ => decide (region.val < 8)
  | .panOwnWrite _ _ _ _ => true
  | .ownDrainAck _ _ => true
  | .pantryWindowRead _ _ _ _ _ _ => true
  | .pantryWindowWrite _ _ _ _ _ _ _ => true
  | .patrolRead _ _ _ => true
  | .panRemapRow _ _ _ _ => true
  | .rowRemapDone _ _ => true
  | .panMigrateBank _ _ _ => true
  | .bankFence _ _ => true
  | .migrationDone _ _ => true
  | .panFullBist _ _ _ => true
  | .fullBistDone _ _ => true
  | .onlineBistBorrow _ _ => true
  | .chutePush _ _ _ _ => true
  | .chutePop _ _ unit _ => popUnit unit.val
  | .chuFlush _ _ => true
  | .pointerCheckFail _ _ _ _ _ _ => true
  | .chuteStale _ _ => true
  | .hallwayEvent _ producer _ => producerOk producer.toNat
  | .rateWindowExpiry _ _ => true
  | .refractoryEnd _ _ => true
  | .hwyFire _ _ => true
  | .hwyRouteWrite _ _ => true
  | .hwyRouteRead _ _ => true
  | .hwyClearCounts _ _ => true
  | .hwyTiClr _ _ => true
  | .descriptorSetLoad _ => true
  | .descriptorBoundary _ _ => true
  | .heldWordsTimeout _ _ => true
  | .studyPop _ _ _ => true
  | .kernelStart _ _ _ => true
  | .kernelEnd _ _ _ => true
  | .tiStdClose _ _ _ => true
  | .tiStdReset _ _ _ => true
  | .studyFence _ _ => true
  | .portBlockLock _ _ => true
  | .speedTryExpiry _ _ => true
  | .networkHousekeepingFrame _ _ _ _ => true
  | .claondeaMessage _ _ datagram => datagram.wellFormed
  | .ping _ _ => true
  | .regRead _ _ _ => true
  | .regWrite _ _ _ => true
  | .blkRead _ _ _ => true
  | .blkWrite _ _ _ => true
  | .ovlLoad _ _ => true
  | .sweepLoad _ _ => true
  | .streamSub _ _ => true
  | .eventSub _ _ => true
  | .eventFire _ _ => true
  | .mcStart _ _ => true
  | .eventNotifyAck _ _ => true
  | .responseHandover _ _ => true
  | .streamDataSend _ _ _ => true
  | .streamItemCopy _ _ _ => true
  | .eventNotify _ _ => true
  | .notifyResend _ _ => true
  | .ptpMessage _ _ => true
  | .announceTimeout _ => true
  | .failover _ _ => true
  | .failback _ _ => true
  | .clrSessions _ _ => true
  | .sideDoorRead _ bytes _ _ => bytes.length == 7
  | .sideDoorWrite _ bytes _ _ => bytes.length == 7 + 4 * ((bytes.headD 0#8).toNat % 64 + 1)
  | .sideDoorStatus _ bytes => bytes.length == 3
  | .sideDoorBadCmd _ bytes => decide (3 ≤ bytes.length)
  | .frameErr _ => true
  | .kprDoorRing _ _ => true
  | .info _ => true
  | .imgLoad _ => true
  | .fuseKey _ _ => true
  | .fuseRevoke _ _ => true
  | .fuseMinver _ _ => true
  | .fuseSecure _ _ => true
  | .histRead _ => true
  | .mailboxTimeout _ => true
  | .mailboxCommandEnd _ => true
  | .keeperWdog _ => true
  | .cellarMount _ part => part.wellFormed
  | .unitStore _ _ => true
  | .unitRead _ _ => true
  | .journalAppend _ _ => true
  | .journalCompaction _ _ => true
  | .historyPageWrite _ _ => true
  | .histFlushTimer _ => true
  | .nandOpTimeout _ => true
  | .blockRefresh _ _ => true
  | .retentionScanRead _ _ => true
  | .wearMigration _ _ => true
  | .celRetentionPass _ _ => true
  | .celFlushHistory _ _ => true
  | .celRefreshBlock _ _ _ => true
  | .celMarkBad _ _ _ => true
  | .cellarFence _ => true
  | .supplyFault _ _ _ => true
  | .hrefLost _ _ => true
  | .resetN _ => true
  | .glbRstWrite _ _ _ => true
  | .deviceResetRelease _ _ => true
  | .bootGo _ _ => true
  | .bootStore _ _ => true
  | .keeperStart _ => true
  | .glbModeReq _ _ _ => true
  | .tiWake _ _ => true
  | .hrtSafeRequest _ _ _ => true
  | .modeEntry _ _ => true
  | .safeEntry _ _ => true
  | .sleepEntry _ _ => true
  | .wingWake _ _ => true
  | .jtagUpdateIr _ _ _ => true
  | .stairwellFence _ => true
  | .calSequencerFence _ => true
  | .cfgEngineFence _ => true
  | .supplyReturn _ _ => true
  | .hrefReturn _ => true
  | .comparatorRelease _ _ _ => true
  | .portLinkDown _ _ => true
  | .keeperFence _ => true
  | .sideDoorFence _ => true
  | .keeperFault _ => true
  | .nandOperationDone _ _ => true
  | .calWaitExpiry _ => true
  | .armingGateRise _ _ => true
  | .bootStandbyEntry _ => true

end Sys2Proof
end

