-- ==== Sys2Proof/Safety.lean ====
section
/-!
DEFINITION. What counts as a safe state of the block, and the conditions the statements share.
-/

namespace Sys2Proof.Machine

/-- The pins stand as the state says (R75, R228, R320). -/
def State.pinsFollow (s : State) : Prop := s.pins = s.settle.pins

/-- No pulse train runs on a channel in a safe state (R59). -/
def State.safeTrains (s : State) : Prop :=
  ∀ e ∈ s.gpg, (s.ch e.1).st.live = false → e.2.running = false ∧ e.2.inPulse = false

/-- What every step keeps: the pins follow the state, and a safe channel pulses nothing. -/
def State.Inv (s : State) : Prop := s.pinsFollow ∧ s.safeTrains

/-- No reset is held, and nothing of the block's own waits to be taken up at the end of a command: no calibration run
(R255, R259), no management response for the sequencer, no result in the Cellar's outbox (log 20). -/
abbrev State.calm (s : State) : Prop :=
  s.pwr.held = 0 ∧ s.cal.step = .idle ∧ (s.lk s.cal.ch).calRsp = none ∧ s.cel.results = []


/-- The state differs from `a` in nothing but the control, generator, loop, range and measurement records of channel `n`, the
registers of that channel, the notes of the present tick and the outboxes. -/
def State.onlyChan (u a : State) (n : Nat) : Prop :=
  (∀ m : Nat, m ≠ n → u.ch m = a.ch m ∧ u.gp m = a.gp m ∧ u.lp m = a.lp m ∧ u.rg m = a.rg m ∧ u.ms m = a.ms m) ∧
  (∀ k : Nat, k / 0x1000 ≠ 0x100 + n → u.rd k = a.rd k) ∧
  { u with ctl := a.ctl, gpg := a.gpg, loop := a.loop, rng := a.rng, meas := a.meas, regs := a.regs, tickSet := a.tickSet,
           tickInc := a.tickInc, snaps := a.snaps, launched := a.launched, reports := a.reports } = a

/-! ### Kinds of commands -/

/-- Commands of the supplies, clocks, resets and the JTAG port: they act whether or not a reset is held. -/
def supplyRow : Instr → Bool
  | .powerOnResetRelease .. => true
  | .supplyFault .. => true
  | .hrefLost .. => true
  | .resetN .. => true
  | .deviceResetRelease .. => true
  | .jtagUpdateIr .. => true
  | .supplyReturn .. => true
  | .hrefReturn .. => true
  | _ => false

/-- Commands that stand for one host write of a command register outside the blocks of R477: before the Foundation's commit
they complete "locked". -/
def hostRow : Instr → Bool
  | .arm .. => true
  | .softQuench .. => true
  | .hardQuench .. => true
  | .wngArm .. => true
  | .wngQuench .. => true
  | .gpgFire .. => true
  | .gpgStop .. => true
  | .templateReplacementRequest .. => true
  | .apStartCmd .. => true
  | .apStopCmd .. => true
  | .swpArm .. => true
  | .swpStart .. => true
  | .swpAbort .. => true
  | .swpPause .. => true
  | .swpResume .. => true
  | .swpRelease .. => true
  | .loadNextMark .. => true
  | .loadAfterSec .. => true
  | .loadCancel .. => true
  | .snapshot .. => true
  | .machEnClear .. => true
  | .rbNow .. => true
  | .calFullRunRequest .. => true
  | .calGainRunRequest .. => true
  | .calSave .. => true
  | .calAbort .. => true
  | .calReload .. => true
  | .lnkRetrain .. => true
  | .lnkReenum .. => true
  | .linkEnClear .. => true
  | .hmwSend .. => true
  | .hrtPop .. => true
  | .hrtFirstArm .. => true
  | .hrtClrLost .. => true
  | .chuFlush .. => true
  | .hwyFire .. => true
  | _ => false

end Sys2Proof.Machine
end

