-- ==== Sys2Proof/Certificates/Slice0/Obligations.lean ====
section
/-!
DEFINITION. The statements for the provers, each from the rules of the spec that its docstring and OBLIGATIONS.json name.

In every statement about one command, `a` is the state that the command finds: the state before it after the time `dt` has
passed (log 1). A command answers `.next u.settle`, where `u` is its effect and `settle` drives the pins (the statements
GateLowInSafeState and OpenDrainPinsAfterEveryCommand say how). `{ u with f := a.f } = a` says that nothing but the named parts
of the state differs from `a`. Calm states (State.calm) are those in which nothing else of the block acts at the end of the command.
-/

open Sys2Proof Sys2Proof.Machine

/-- A step takes the command at the front of the queue and executes it with the rest of the queue; with nothing waiting the
block idles. The queue is the model's own (log 1). -/
def Obligations.StepTakesFrontCommand : Prop :=
  ∀ s : State, (∀ c rest, s.pending = c :: rest → step s = exec c { s with pending := rest }) ∧
    (s.pending = [] → step s = .next s)

/-- Every command answers a next state, whatever its operands and the state: the block meets every error with a flag, a
counter, a status or a report, and no command stops it. -/
def Obligations.EveryCommandCompletes : Prop :=
  ∀ (c : Instr) (s : State), ∃ t, exec c s = .next t

/-- The invariant of the block: GATE, WTRIP and ERR_N stand as the state says, and the pulse generator of a channel in a safe
state is stopped. Every step keeps it, from every state that has it. -/
def Obligations.EveryStepKeepsInvariant : Prop :=
  ∀ s t : State, s.Inv → step s = .next t → t.Inv

/-- The state right after reset meets the invariant that every step keeps. -/
def Obligations.ResetHasInvariant : Prop :=
  State.reset.Inv

/-- GATE = state_enable and not guard_trip and not notch (R75), low while VDD_IO is out of range (R59, R232) or an EXTEST-class
instruction is current (R515); in QUENCHED and FENCED it is low and the pulse generator stands (R59). This holds after every
command, whatever state the command found. -/
def Obligations.GateLowInSafeState : Prop :=
  ∀ (c : Instr) (s t : State) (n : Nat), exec c s = .next t →
    (Tbl.get false t.pins.gate n = true ↔
      ((t.ch n).st.reg = true ∨ (t.ch n).st = .hold ∨ (t.ch n).st = .rampdown ∨ ((t.ch n).st = .arming ∧ (t.ch n).gateUp = true))
        ∧ (t.mo n).c0.latched = false ∧ (t.mo n).c1.latched = false ∧ bit t.supplyOut 3 = false
        ∧ t.notchOn n = false ∧ bit t.supplyOut 4 = false ∧ t.pwr.extest = false) ∧
    ((t.ch n).st = .quenched ∨ (t.ch n).st = .fenced →
      Tbl.get false t.pins.gate n = false ∧ (t.gp n).running = false ∧ (t.gp n).inPulse = false)

/-- WTRIP_w is driven low while at least one channel of wing w with wtrip_en = 1 has a Watch latch set (R228); ERR_N while
(HRT_HSTAT and not HRT_MASK) is nonzero, bit 27 of the mask ignored, or while the Hearth self source is in Grave (R320). -/
def Obligations.OpenDrainPinsAfterEveryCommand : Prop :=
  ∀ (c : Instr) (s t : State), exec c s = .next t → t.pwr.extest = false →
    (∀ w, w < 8 → (Tbl.get false t.pins.wtrip w = true ↔
      ∃ e ∈ t.mon, e.1 / 16 = w ∧ bit (t.act (chA e.1 0x530)) 0 = true ∧ (e.2.c2.latched = true ∨ e.2.c3.latched = true))) ∧
    (t.pins.errN = true ↔ (∃ i, i < 32 ∧ bit (t.rd 0x1000) i = true ∧ (i = 27 ∨ bit (t.rd 0x1010) i = false)) ∨
      ∃ e ∈ t.srcs, e.1 = 0x425 ∧ e.2.grave = true)

/-- While a reset is held, a command other than those of supplies, clocks, resets and JTAG only lets time pass; that accesses in
this time have no effect is the model's reading (log 26, DEDUCED). -/
def Obligations.HeldResetStopsEveryCommand : Prop :=
  ∀ (c : Instr) (s : State), supplyRow c = false → (s.advance c.dt).pwr.held ≠ 0 →
    exec c s = .next (s.advance c.dt).settle

/-- Before the commit, writes are served only to the GLB, PRC, SDR and KPR blocks and to the window of banks 0 and 1; any other
completes "locked" (R477). The rows that stand for such a write (ARM, GPG_FIRE, SWP_START, CHU_FLUSH ...) then only let
time pass. -/
def Obligations.UncommittedHostCommandsDoNothing : Prop :=
  ∀ (c : Instr) (s : State), hostRow c = true → (s.advance c.dt).calm → bits ((s.advance c.dt).rd 0x4000) 0 2 ≠ 2 →
    exec c s = .next (s.advance c.dt).settle

/-- REGISTER_WRITE (R10, R11, R16). A write to CH_HOLD stores hold_time when it lies in its range 16 to 6,000; outside it the
field keeps its value and the write completes "reserved value". A write to MEAS_CHUTE, which is RWL, completes "locked" after
the commit. No other register and nothing else changes. (No hardware write of CH_HOLD falls into the tick.) -/
def Obligations.RegisterWriteByAccessCode : Prop :=
  ∀ (s a : State) (dt : Elapse) (p : Path) (n : Fin 128) (v : Word), s.advance dt = a → a.calm → a.committed = true →
    (Tbl.get 0#32 a.tickSet (chA n 0x018) = 0#32 → Tbl.get 0#32 a.tickSwp (chA n 0x018) = 0#32 →
      (∀ e ∈ a.tickInc, e.key ≠ chA n 0x018) →
      ∃ u : State, exec (.registerWrite dt p (BitVec.ofNat 32 (chA n 0x018)) v) s = .next u.settle
        ∧ u.rf (chA n 0x018) 0 13 = (if 16 ≤ bits v 0 13 ∧ bits v 0 13 ≤ 6000 then bits v 0 13 else a.rf (chA n 0x018) 0 13)
        ∧ u.rf (chA n 0x018) 13 19 = a.rf (chA n 0x018) 13 19
        ∧ u.replies = Tbl.put a.replies (Path.idx p) ⟨if 16 ≤ bits v 0 13 ∧ bits v 0 13 ≤ 6000 then 0 else 3, 0#32⟩
        ∧ (∀ k, k ≠ chA n 0x018 → u.rd k = a.rd k)
        ∧ { u with regs := a.regs, replies := a.replies, tickOld := a.tickOld } = a) ∧
    exec (.registerWrite dt p (BitVec.ofNat 32 (chA n 0x218)) v) s
      = .next (State.settle { a with replies := Tbl.put a.replies (Path.idx p) ⟨2, 0#32⟩ })

/-- R19, R20 on the pairs at 0x2048 and 0x2054 of Phase: the low word is held on its path and has no effect on its own, and a
further low word replaces it; the high word commits both, with the held low word where there is one and else the present low
half, and empties that path's held word. Nothing else changes. -/
def Obligations.PairWritesCommitTogether : Prop :=
  ∀ (s a : State) (dt : Elapse) (p : Path) (x : Nat) (v : Word), s.advance dt = a → a.calm → a.committed = true →
    x = 0x2048 ∨ x = 0x2054 →
    (∃ u : State, exec (.pairLowWrite dt p (BitVec.ofNat 32 x) v) s = .next u.settle
      ∧ u.wrHeld (pkey p x) = some v
      ∧ (∀ k, k ≠ pkey p x → u.wrHeld k = a.wrHeld k)
      ∧ u.replies = Tbl.put a.replies (Path.idx p) ⟨0, 0#32⟩
      ∧ { u with holds := { u.holds with wr := a.holds.wr }, replies := a.replies } = a) ∧
    ((∀ k, k = x ∨ k = x + 4 → Tbl.get 0#32 a.tickSet k = 0#32 ∧ Tbl.get 0#32 a.tickSwp k = 0#32 ∧ ∀ e ∈ a.tickInc, e.key ≠ k) →
      ∃ u : State, exec (.pairHighWrite dt p (BitVec.ofNat 32 (x + 4)) v) s = .next u.settle
        ∧ u.rd x = (a.wrHeld (pkey p x)).getD (a.rd x)
        ∧ u.rf (x + 4) 0 16 = bits v 0 16
        ∧ u.wrHeld (pkey p x) = none
        ∧ (∀ k, k ≠ pkey p x → u.wrHeld k = a.wrHeld k)
        ∧ (∀ k, k ≠ x → k ≠ x + 4 → u.rd k = a.rd k)
        ∧ u.replies = Tbl.put a.replies (Path.idx p) ⟨0, 0#32⟩
        ∧ { u with regs := a.regs, replies := a.replies, tickOld := a.tickOld, holds := { u.holds with wr := a.holds.wr } } = a)

/-- R18 on CH_TRANS_TS, and the group reads of R145 (MEAS_LAST), R213 (MARK and PPS captures), R315 (the head record) and R437
(the time of day): the copy is of one house tick, it belongs to the reading path (R20), and nothing else changes. `view` is
what a read of a register shows (R10). -/
def Obligations.PairAndGroupReadsCopy : Prop :=
  ∀ (s a : State) (dt : Elapse) (p : Path), s.advance dt = a → a.calm → a.pathOpen p = true →
    (∀ n : Fin 128, ∃ u : State, exec (.pairLowRead dt p (BitVec.ofNat 32 (chA n 0x030))) s = .next u.settle
      ∧ u.rdHeld (pkey p (chA n 0x030)) = some (((a.ch n).transTs >>> 32).setWidth 32)
      ∧ u.replies = Tbl.put a.replies (Path.idx p) ⟨0, (a.ch n).transTs.setWidth 32⟩
      ∧ (∀ k, k ≠ pkey p (chA n 0x030) → u.rdHeld k = a.rdHeld k)
      ∧ { u with holds := a.holds, replies := a.replies } = a) ∧
    (∀ (c : Instr) (x m : Nat),
      (∃ n : Fin 128, c = .measLastVLoRead dt p n ∧ x = chA n 0x230 ∧ m = 9) ∨ (c = .markHtickLoRead dt p ∧ x = 0x20C0 ∧ m = 4)
        ∨ (c = .ppsHtickLoRead dt p ∧ x = 0x20E0 ∧ m = 3) ∨ (c = .hrtRecSrcRead dt p ∧ x = 0x1040 ∧ m = 5)
        ∨ (c = .todSecLoRead dt p ∧ x = 0xA488 ∧ m = 2) →
      ∃ u : State, exec c s = .next u.settle
        ∧ (∀ i, 1 ≤ i → i ≤ m → Tbl.get 0#32 u.holds.grp (pkey p (x + 4 * i)) = a.view p (x + 4 * i) (x + 4 * i))
        ∧ (∀ k, (∀ i, 1 ≤ i → i ≤ m → k ≠ pkey p (x + 4 * i)) → Tbl.get 0#32 u.holds.grp k = Tbl.get 0#32 a.holds.grp k)
        ∧ u.replies = Tbl.put a.replies (Path.idx p) ⟨0, a.view p x x⟩
        ∧ { u with holds := { u.holds with grp := a.holds.grp }, replies := a.replies } = a)

/-- W1C_FLAG_CLEAR (R12) on CH_STATUS (bits 15 to 0), MEAS_FLAGS (4 to 0) and RNG_FLAGS (6 to 0): a bit written 1 clears its flag
unless hardware sets it in the same house tick; nothing else changes. -/
def Obligations.FlagClearByWritingOnes : Prop :=
  ∀ (s a : State) (dt : Elapse) (p : Path) (n : Fin 128) (o m : Nat) (v : Word), s.advance dt = a → a.calm →
    a.committed = true → (o = 0x00C ∧ m = 16) ∨ (o = 0x220 ∧ m = 5) ∨ (o = 0x314 ∧ m = 7) →
    ∃ u : State, exec (.w1cFlagClear dt p (BitVec.ofNat 32 (chA n o)) v) s = .next u.settle
      ∧ (∀ i, i < 32 → bit (u.rd (chA n o)) i
          = (bit (a.rd (chA n o)) i && !(decide (i < m) && bit v i && !bit (Tbl.get 0#32 a.tickSet (chA n o)) i)))
      ∧ (∀ k, k ≠ chA n o → u.rd k = a.rd k)
      ∧ u.replies = Tbl.put a.replies (Path.idx p) ⟨0, 0#32⟩
      ∧ { u with regs := a.regs, replies := a.replies, tickOld := a.tickOld } = a

/-- ARM and WNG_ARM (R60, R63, R64, R88): the checks in the order of R64. With all of them passed the channel enters ARMING with
cause 0x01 at level 0, and irange_act starts as R152 says when autorange is on; else the command changes nothing but
cmd_rejected and the reject code. Other channels and everything else stay. -/
def Obligations.ArmChecksAndEnters : Prop :=
  ∀ (s a : State) (dt : Elapse) (n : Fin 128) (c : Instr), s.advance dt = a → a.calm → a.committed = true →
    Tbl.get none a.snaps n = none →
    c = .arm dt n ∨ c = .wngArm dt ⟨n.val / 16, by omega⟩ (BitVec.ofNat 16 (2 ^ (n.val % 16))) →
    let code :=
      if (a.ch n).st ≠ .quenched then 1
      else if ¬(a.wingMode (n / 16) = 2 ∨ a.wingMode (n / 16) = 3 ∨ a.wingMode (n / 16) = 5) then 2
      else if (a.ch n).headReady = false then 3
      else if (a.cc n).src < 2 ∧ bit (a.rd (chA n 0x004)) 2 = false then 4
      else if ¬∃ t, (a.lp n).tile = some t ∧ (a.tile t).role = .bound then 5
      else if (a.mo n).c0.latched = true ∨ (a.mo n).c1.latched = true ∨ bit a.supplyOut 3 = true then 6
      else if a.declV n (a.actf (chA n 0x100) 4 3) = false ∨ a.declI n (a.actf (chA n 0x100) 8 4) = false
          ∨ (a.autoOn n = true ∧ a.arRanges n = []) then 7
      else if a.actf (chA n 0x100) 0 2 ≠ 2 ∧ a.tplHas n 0x18 = false then 8
      else 0
    (code = 0 → ∃ u : State, exec c s = .next u.settle
      ∧ (u.ch n).st = .arming ∧ (u.ch n).cause = 1 ∧ (u.ch n).prev = .quenched ∧ (u.ch n).transTs = a.htick ∧ (u.ch n).level = 0#32
      ∧ u.iact n = (if a.autoOn n then a.arStart n else a.iact n)
      ∧ u.onlyChan a n) ∧
    (code ≠ 0 → ∃ u : State, exec c s = .next u.settle
      ∧ bit (u.rd (chA n 0x00C)) 7 = true ∧ u.rf (chA n 0x00C) 16 8 = code
      ∧ (∀ i, i < 32 → i ≠ 7 → ¬(16 ≤ i ∧ i < 24) → bit (u.rd (chA n 0x00C)) i = bit (a.rd (chA n 0x00C)) i)
      ∧ (∀ k, k ≠ chA n 0x00C → u.rd k = a.rd k)
      ∧ { u with regs := a.regs, tickSet := a.tickSet } = a)

/-- The transitions of R60 by one command, each with its cause code, state before, time stamp and the level 0 of the safe states:
hard quench, alone and through WNG_QUENCH (R88); arm_timeout, counted from the rise of GATE; ti_takeover (R124); the ramp's end
(R68); a fence (R72); comp_max with comp_act (R57). -/
def Obligations.ChannelEventTransitions : Prop :=
  ∀ (s a : State) (dt : Elapse) (n : Fin 128) (c : Instr) (code : Nat) (tgt : ChState), s.advance dt = a → a.calm →
    Tbl.get none a.snaps n = none →
    (c = .hardQuench dt n ∧ a.committed = true ∧ (a.ch n).st.live = true ∧ code = 0x10 ∧ tgt = .quenched)
      ∨ (c = .wngQuench dt ⟨n.val / 16, by omega⟩ 0#16 (BitVec.ofNat 16 (2 ^ (n.val % 16))) ∧ a.committed = true
          ∧ (a.ch n).st.live = true ∧ code = 0x10 ∧ tgt = .quenched)
      ∨ (c = .armTimeout dt n ∧ (a.ch n).st = .arming ∧ (a.ch n).gateUp = true
          ∧ 1024 * (a.ch n).armLim ≤ (a.htick - (a.ch n).armStart).toNat ∧ code = 0x04 ∧ tgt = .quenched)
      ∨ (c = .tiTakeover dt n ∧ ((a.ch n).st = .regulating ∨ (a.ch n).st = .compliance) ∧ code = 0x0A ∧ tgt = .hold)
      ∨ (c = .rampdownFrame dt n ∧ (a.ch n).st = .rampdown ∧ a.htick.toNat % 128 = 0 ∧ (a.ch n).rampEdge ≠ some a.htick
          ∧ 2 ≤ (a.ch n).zeroFrames ∧ code = 0x11 ∧ tgt = .quenched)
      ∨ (c = .channelFence dt n ∧ (a.ch n).st ≠ .fenced ∧ code = 0x17 ∧ tgt = .fenced)
      ∨ (c = .compMaxReached dt n ∧ (a.ch n).st = .compliance ∧ (a.ch n).compLim ≠ 0
          ∧ (a.ch n).compLim ≤ (a.ch n).compPeriods ∧ (a.ch n).compActed = false ∧ bit (a.rd (chA n 0x004)) 6 = true
          ∧ code = 0x07 ∧ tgt = .rampdown) →
    ∃ u : State, exec c s = .next u.settle
      ∧ (u.ch n).st = tgt ∧ (u.ch n).cause = code ∧ (u.ch n).prev = (a.ch n).st ∧ (u.ch n).transTs = a.htick
      ∧ (tgt = .quenched ∨ tgt = .fenced → (u.ch n).level = 0#32)
      ∧ State.onlyChan { u with fences := a.fences } a n
      ∧ (c ≠ .channelFence dt n → u.fences = a.fences)

/-- The causes that act at the next frame-grid edge (R60): soft quench alone and through WNG_QUENCH, ti_nospare with its report
(R67, R86) and the hold timer with hold_expired (R65, R85). The state of the channel does not change with the command. -/
def Obligations.CausesThatWaitForTheFrameGrid : Prop :=
  ∀ (s a : State) (dt : Elapse) (n : Fin 128) (c : Instr) (code : Nat), s.advance dt = a → a.calm → (a.ch n).edge = none →
    ((c = .softQuench dt n ∨ c = .wngQuench dt ⟨n.val / 16, by omega⟩ (BitVec.ofNat 16 (2 ^ (n.val % 16))) 0#16) ∧ a.committed = true
        ∧ ((a.ch n).st = .arming ∨ (a.ch n).st = .regulating ∨ (a.ch n).st = .compliance ∨ (a.ch n).st = .hold) ∧ code = 0x0F)
      ∨ (c = .tiNospare dt n ∧ ((a.ch n).st = .regulating ∨ (a.ch n).st = .compliance ∨ (a.ch n).st = .hold) ∧ code = 0x0E)
      ∨ (c = .holdExpired dt n ∧ (a.ch n).st = .hold ∧ (a.ch n).holdExp = false
          ∧ a.holdLimit n ≤ (a.htick - (a.ch n).holdStart).toNat ∧ code = 0x0D) →
    ∃ u : State, exec c s = .next u.settle
      ∧ (u.ch n).edge = some ⟨code, a.htick⟩ ∧ (u.ch n).st = (a.ch n).st ∧ (u.ch n).cause = (a.ch n).cause
      ∧ u.reports = a.reports ++ (if code = 0x0E then [⟨n.val, 0xE0, a.htick⟩] else if code = 0x0D then [⟨n.val, 5, a.htick⟩] else [])
      ∧ (code = 0x0D → (u.ch n).holdExp = true ∧ bit (u.rd (chA n 0x00C)) 5 = true)
      ∧ u.onlyChan a n

/-- A latched cause acts at the next frame-grid edge: the first multiple of 128 house ticks after the tick of the latch (R30,
R60). Time passes at the begin of a command; the transition and its time stamp are those of the edge. -/
def Obligations.LatchedCauseActsAtFrameGridEdge : Prop :=
  ∀ (s : State) (e : Elapse) (n : Nat) (x : EdgeCause) (tgt : ChState), Tbl.wf s.ctl = true → (s.ch n).edge = some x →
    (∀ m : Nat, m ≠ n → (s.ch m).edge = none) → nextSt x.code (s.ch n).st = some tgt →
    e.ticks < 2 ^ 64 → e.ticks ≠ 0 →
    let at_ := x.since + BitVec.ofNat 64 (128 - x.since.toNat % 128)
    at_.toNat % 128 = 0 ∧
    ((at_ - s.htick).toNat ≤ e.ticks → ((s.advance e).ch n).st = tgt ∧ ((s.advance e).ch n).cause = x.code
        ∧ ((s.advance e).ch n).prev = (s.ch n).st ∧ ((s.advance e).ch n).transTs = at_) ∧
    (e.ticks < (at_ - s.htick).toNat → (s.advance e).ch n = s.ch n) ∧
    (∀ m : Nat, m ≠ n → (s.advance e).ch m = s.ch m)

/-- ARMING_GATE_RISE: GATE rises 1,024 house ticks after it last fell, and arm_timeout counts from there (R60). HEAD_READY: once
the constant load of a head with a valid descriptor is complete, head_ready is 1 and its event goes out; the channel does not
arm without auto_arm (R83, R84). RAMPDOWN_FRAME: at a frame-grid edge the level moves toward 0 by d, and is 0 when |level| is at
most d (R68). -/
def Obligations.ArmingGateHeadReadyAndRamp : Prop :=
  ∀ (s a : State) (dt : Elapse) (n : Fin 128), s.advance dt = a → a.calm →
    ((a.ch n).st = .arming → (a.ch n).gateUp = false →
      ((a.ch n).gateFell = none ∨ ∃ t, (a.ch n).gateFell = some t ∧ 1024 ≤ (a.htick - t).toNat) →
      exec (.armingGateRise dt n) s = .next (State.settle (a.setCh n { a.ch n with gateUp := true, armStart := a.htick, armLim := a.rf (chA n 0x014) 0 16 }))) ∧
    ((a.ch n).headLoading = true → (a.lk n).descValid = true → bit (a.rd (chA n 0x004)) 1 = false →
      ∃ u : State, exec (.headReady dt n) s = .next u.settle ∧ u.ch n = { a.ch n with headReady := true, headLoading := false }
        ∧ u.launched = a.launched ++ [⟨16 * n.val + 5, a.htick⟩] ∧ (u.ms n).ap.noHead = false
        ∧ (∀ m : Nat, m ≠ n.val → u.ch m = a.ch m ∧ u.ms m = a.ms m ∧ u.cc m = a.cc m)
        ∧ (∀ k : Nat, k / 0x1000 ≠ 0x100 + n.val → u.rd k = a.rd k ∧ u.act k = a.act k)
        ∧ { u with ctl := a.ctl, meas := a.meas, chcal := a.chcal, regs := a.regs, active := a.active, launched := a.launched } = a) ∧
    ((a.ch n).st = .rampdown → a.htick.toNat % 128 = 0 → (a.ch n).rampEdge ≠ some a.htick → (a.ch n).zeroFrames < 2 →
      let l := (a.ch n).rampLvl
      let l1 := if F64.le (F64.abs l) (a.ch n).rampD then 0#64
        else if F64.lt l 0#64 then F64.add l (a.ch n).rampD else F64.sub l (a.ch n).rampD
      exec (.rampdownFrame dt n) s = .next (State.settle (a.setCh n { a.ch n with rampLvl := l1, level := F32.of64 l1, rampEdge := some a.htick, zeroFrames := if F64.isZero l then (a.ch n).zeroFrames + 1 else 0 })))

/-- A host fire and a Hallway trigger (R77, R78) from the committed source. The generator is ready when the last two LEVEL frames
carried the level a train would latch and the channel is REGULATING or COMPLIANCE with gpg_enable (R76, R77). Accepted: the
train starts at this tick with its copies latched, within the bounds of R79; with retrig an open pulse ends first, with its event.
Otherwise trig_ignored and CH_GPG_IGN, and the generator does not change. -/
def Obligations.PulseTrainTriggers : Prop :=
  ∀ (s a : State) (dt : Elapse) (n : Fin 128) (c : Instr), s.advance dt = a → a.calm →
    (c = .gpgFire dt n ∧ a.committed = true ∧ a.actf (chA n 0x700) 1 2 = 0)
      ∨ (c = .tiPulseTrigger dt n ∧ a.actf (chA n 0x700) 1 2 = 1) →
    let g := a.gp n
    let ready := g.sent.take 2 = [a.act (chA n 0x11C), a.act (chA n 0x11C)]
      ∧ ((a.ch n).st = .regulating ∨ (a.ch n).st = .compliance) ∧ bit (a.act (chA n 0x700)) 0 = true
    let w := (a.act (chA n 0x708)).toNat
    let p := (a.act (chA n 0x70C)).toNat
    let short := w < 32 ∨ p < w + 32
    (ready ∧ (g.running = false ∨ bit (a.act (chA n 0x700)) 3 = true) →
      ∃ u : State, exec c s = .next u.settle
        ∧ u.gp n = { u.gp n with running := true, t0 := a.htick, delay := (a.act (chA n 0x704)).toNat, width := if short then max w 32 else w, period := if short then max p (max w 32 + 32) else p, count := a.actf (chA n 0x710) 0 16, notch := a.actf (chA n 0x700) 4 4, level := a.act (chA n 0x11C), j := 0, inPulse := false }
        ∧ (short → bit (u.rd (chA n 0x00C)) 14 = true)
        ∧ (g.inPulse = true → (u.gp n).notchEnd = some (a.htick + BitVec.ofNat 64 g.notch)
            ∧ u.launched = a.launched ++ [⟨16 * n.val + 7, a.htick⟩])
        ∧ (g.inPulse = false → (u.gp n).notchEnd = g.notchEnd ∧ u.launched = a.launched)
        ∧ u.ch n = a.ch n ∧ State.onlyChan { u with hwyTi := a.hwyTi } a n) ∧
    (¬(ready ∧ (g.running = false ∨ bit (a.act (chA n 0x700)) 3 = true)) →
      ∃ u : State, exec c s = .next u.settle
        ∧ bit (u.rd (chA n 0x00C)) 15 = true ∧ u.rf (chA n 0x718) 0 16 = min (a.rf (chA n 0x718) 0 16 + 1) 65535
        ∧ (∀ k : Nat, k ≠ chA n 0x00C → k ≠ chA n 0x718 → u.rd k = a.rd k)
        ∧ { u with regs := a.regs, tickSet := a.tickSet, tickInc := a.tickInc, hwyTi := a.hwyTi } = a)

/-- Pulse j begins at t0 + delay + j × period with a notch, and ends width ticks later with a second one; after count pulses the
train is done (R78). in_pulse lies between the two (R81). A stop command ends the train and any open pulse (R87). -/
def Obligations.PulseNotchesAndStop : Prop :=
  ∀ (s a : State) (dt : Elapse) (n : Fin 128), s.advance dt = a → a.calm → (a.ch n).st.reg = true → (a.gp n).running = true →
    let g := a.gp n
    let t := (a.htick - g.t0).toNat
    let closed := match g.past with
      | (x, none) :: r => (x, some a.htick) :: r
      | p => p
    let notch := some (a.htick + BitVec.ofNat 64 g.notch)
    (g.inPulse = false → g.delay + g.j * g.period ≤ t →
      exec (.pulseStart dt n) s = .next (State.settle ((a.setGp n { g with inPulse := true, notchEnd := notch, past := ((a.htick, none) :: g.past).take 16 }).launch (16 * n + 6)))) ∧
    (g.inPulse = true → g.delay + g.j * g.period + g.width ≤ t →
      ∃ u : State, exec (.pulseEnd dt n) s = .next u.settle
        ∧ u.gp n = { g with inPulse := false, notchEnd := notch, past := closed, j := g.j + 1, running := !(decide (g.count ≠ 0 ∧ g.j + 1 ≥ g.count)) }
        ∧ u.launched = a.launched ++ [⟨16 * n.val + 7, a.htick⟩]
            ++ (if g.count ≠ 0 ∧ g.j + 1 ≥ g.count then [⟨16 * n.val + 8, a.htick⟩] else [])
        ∧ (∀ m : Nat, m ≠ n.val → u.gp m = a.gp m) ∧ { u with gpg := a.gpg, launched := a.launched } = a) ∧
    (a.committed = true →
      ∃ u : State, exec (.gpgStop dt n) s = .next u.settle
        ∧ u.gp n = (if g.inPulse then { g with inPulse := false, notchEnd := notch, past := closed, running := false }
            else { g with running := false })
        ∧ u.launched = a.launched ++ (if g.inPulse then [⟨16 * n.val + 7, a.htick⟩] else [])
        ∧ (∀ m : Nat, m ≠ n.val → u.gp m = a.gp m) ∧ { u with gpg := a.gpg, launched := a.launched } = a)

/-- LOOP_PASS_START at a regular φs (R105): a bound tile in REGULATING or COMPLIANCE (R111) that holds the one primitive STORE_OUT of
coefficient c0 (R94, R95, R97: 2 tile cycles, 6 house ticks over both crossings) runs a pass. The value is the committed c0 with
subnormals flushed; NaN or infinite it is not delivered (R103). A mismatch of the lanes suppresses it and reports (R90). -/
def Obligations.LoopPassDeliversItsOutput : Prop :=
  ∀ (s a : State) (dt : Elapse) (n : Fin 128) (t : Nat), s.advance dt = a → a.calm →
    (a.ch n).st = .regulating ∨ (a.ch n).st = .compliance → (a.lp n).tile = some t → (a.tile t).role = .bound →
    (a.tile t).prog = [0x200020#64] → (a.lp n).take = none → (a.lp n).startAt = none → (a.lp n).catchAt = none →
    (a.lp n).passEnd = none → a.rf (chA n 0x404) 0 22 ≠ 0 →
    a.htick.toNat % (128 * a.rf (chA n 0x404) 0 22) = a.rf (chA n 0x408) 0 16 % (128 * a.rf (chA n 0x404) 0 22) →
    let c0 := F32.ftz (a.act (chA n 0x480))
    (∃ u : State, exec (.loopPassStart dt n []) s = .next u.settle
      ∧ (u.lp n).out = (if F32.isFin c0 then some ⟨c0, a.htick + 6#64⟩ else none) ∧ (u.lp n).outBad = !F32.isFin c0
      ∧ (u.lp n).passAt = a.htick ∧ (u.lp n).passEnd = some (a.htick + 6#64) ∧ (u.lp n).lost = (a.lp n).lost
      ∧ (u.lp n).pass = (a.lp n).pass + 1#64 ∧ u.rd64 (chA n 0x418) = (a.lp n).pass + 1#64
      ∧ (F32.isFin c0 = true → u.rd (chA n 0x420) = c0)
      ∧ (u.lp n).kArming = false ∧ (u.lp n).kMode = none ∧ (u.lp n).kReplace = none ∧ (u.lp n).kXfade = false
      ∧ (u.lp n).kCoef = false ∧ (u.lp n).kResume = false ∧ (u.lp n).outLast = (a.lp n).outLast
      ∧ u.rf (tlA t 0xC) 0 12 = 2 ∧ (u.tile t).prog = [0x200020#64] ∧ (u.tile t).role = .bound
      ∧ (∀ m : Nat, m ≠ n.val → u.lp m = a.lp m) ∧ (∀ m : Nat, m ≠ t → u.tile m = a.tile m)
      ∧ { u with loop := a.loop, tiles := a.tiles, regs := a.regs, tickSet := a.tickSet, freeCtr := a.freeCtr } = a) ∧
    (∃ u : State, exec (.loopPassStart dt n [⟨.mismatch, 0⟩]) s = .next u.settle
      ∧ (u.lp n).out = none ∧ (u.lp n).outBad = false ∧ (u.lp n).lost = (a.lp n).lost + 1
      ∧ bit (u.rd (tlA t 4)) 0 = true ∧ u.reports = a.reports ++ [⟨0x100 + t, 0, a.htick⟩])

/-- At φo (R107) the delivered value is latched and may be sent from 8 ticks later on; in FZ it is not sent (R48). A value not yet
there is late and is discarded (R109); a value that is NaN or infinite never came, and the channel reports it (R103). out_last
stands in both cases. -/
def Obligations.OutputLatchTakesOrLosesTheValue : Prop :=
  ∀ (s a : State) (dt : Elapse) (n : Fin 128) (t : Nat), s.advance dt = a → a.calm →
    (a.ch n).st = .regulating ∨ (a.ch n).st = .compliance → (a.lp n).tile = some t →
    a.rf (chA n 0x408) 16 16 ≤ (a.htick - (a.lp n).passAt).toNat →
    (∀ o : OutVal, (a.lp n).out = some o → (a.htick - o.ready).toNat < 2 ^ 63 →
      ∃ u : State, exec (.outputLatch dt n) s = .next u.settle
        ∧ u.lp n = (if a.mode n = 2 then { a.lp n with out := none, lost := 0 }
            else { a.lp n with out := none, lost := 0, outLast := o.val, outFrom := some (a.htick + 8#64) })
        ∧ (∀ m : Nat, m ≠ n.val → u.lp m = a.lp m) ∧ { u with loop := a.loop } = a) ∧
    (∀ o : OutVal, (a.lp n).out = some o → 2 ^ 63 ≤ (a.htick - o.ready).toNat →
      ∃ u : State, exec (.outputLatch dt n) s = .next u.settle ∧ u.lp n = { a.lp n with out := none }
        ∧ bit (u.rd (chA n 0x410)) 0 = true ∧ u.rf (chA n 0x414) 0 16 = min (a.rf (chA n 0x414) 0 16 + 1) 65535
        ∧ bit (u.rd (tlA t 4)) 3 = true ∧ u.reports = a.reports ++ [⟨0x100 + t, 3, a.htick⟩]
        ∧ (∀ k : Nat, k ≠ chA n 0x410 → k ≠ chA n 0x414 → k ≠ tlA t 4 → u.rd k = a.rd k)
        ∧ (∀ m : Nat, m ≠ n.val → u.lp m = a.lp m)
        ∧ { u with loop := a.loop, regs := a.regs, tickSet := a.tickSet, tickInc := a.tickInc, reports := a.reports } = a) ∧
    ((a.lp n).out = none → (a.lp n).outBad = true →
      ∃ u : State, exec (.outputLatch dt n) s = .next u.settle ∧ u.lp n = { a.lp n with outBad := false }
        ∧ bit (u.rd (chA n 0x410)) 3 = true ∧ bit (u.rd (tlA t 4)) 5 = true ∧ u.reports = a.reports ++ [⟨0x100 + t, 5, a.htick⟩]
        ∧ (∀ k : Nat, k ≠ chA n 0x410 → k ≠ tlA t 4 → u.rd k = a.rd k) ∧ (∀ m : Nat, m ≠ n.val → u.lp m = a.lp m)
        ∧ { u with loop := a.loop, regs := a.regs, tickSet := a.tickSet, reports := a.reports } = a)

/-- A template replacement (R115): the request takes the lowest-numbered idle working tile of the channel's wing, or is refused with
template_refused. Once loaded, the tile holds the template's program, the committed coefficients and zero state; the binding
moves at once when the channel is not REGULATING or COMPLIANCE, and waits for the boundary otherwise. `replRefused` is the list
of refusals of R115. -/
def Obligations.TemplateReplacementAndLoad : Prop :=
  ∀ (s a : State) (dt : Elapse) (n : Fin 128) (tpl : Fin 16), s.advance dt = a → a.calm →
    (a.committed = true → tpl.val ≠ (a.lp n).template →
      (a.replRefused n tpl = true → ∃ u : State, exec (.templateReplacementRequest dt n tpl) s = .next u.settle
        ∧ bit (u.rd (chA n 0x410)) 6 = true ∧ (∀ k : Nat, k ≠ chA n 0x410 → u.rd k = a.rd k)
        ∧ { u with regs := a.regs, tickSet := a.tickSet } = a) ∧
      (a.replRefused n tpl = false → ∃ t u, exec (.templateReplacementRequest dt n tpl) s = .next (State.settle u)
        ∧ t / 32 = n.val / 16 ∧ (a.tile t).role = .idle ∧ (∀ x : Nat, x / 32 = n.val / 16 → x < t → (a.tile x).role ≠ .idle)
        ∧ u.tile t = { a.tile t with role := .loading, ch := n, template := tpl } ∧ u.lp n = { a.lp n with repl := some ⟨t, tpl, false⟩ }
        ∧ (∀ m : Nat, m ≠ t → u.tile m = a.tile m) ∧ (∀ m : Nat, m ≠ n.val → u.lp m = a.lp m)
        ∧ { u with tiles := a.tiles, loop := a.loop } = a)) ∧
    (∀ r : Repl, (a.lp n).repl = some r → r.loaded = false → (a.lp n).tile ≠ some r.tile → r.tile < 272 →
      ∃ u : State, exec (.templateLoadDone dt n) s = .next u.settle
        ∧ (u.tile r.tile).prog = a.tplWords r.template ∧ (u.tile r.tile).coef = a.coefs n
        ∧ (u.tile r.tile).z = List.replicate 16 0#64 ∧ (u.tile r.tile).ch = n
        ∧ ((a.ch n).st = .regulating ∨ (a.ch n).st = .compliance →
            (u.tile r.tile).role = .loading ∧ u.lp n = { a.lp n with repl := some { r with loaded := true } })
        ∧ ((a.ch n).st ≠ .regulating → (a.ch n).st ≠ .compliance →
            (u.tile r.tile).role = .bound ∧ (u.lp n).tile = some r.tile ∧ (u.lp n).template = r.template ∧ (u.lp n).repl = none
            ∧ (u.lp n).kReplace = some (a.lp n).uRaw
            ∧ ∀ o : Nat, (a.lp n).tile = some o → (a.tile o).role ≠ .fenced → (u.tile o).role = (if o < 256 then .idle else .spareFree))
        ∧ (∀ m : Nat, m ≠ r.tile → (a.lp n).tile ≠ some m → u.tile m = a.tile m) ∧ (∀ m : Nat, m ≠ n.val → u.lp m = a.lp m)
        ∧ { u with tiles := a.tiles, loop := a.loop } = a)

/-- A fence of a bound tile (R93, R123): the tile is fenced until power-off and a spare is taken under R41, or ti_nospare is due. At
t_R the spare is bound and loaded; takeover is set and counted (R126); with two or more outputs lost ti_takeover is due (R124).
`freeSpare` is R41's choice. -/
def Obligations.TileFenceTakesASpare : Prop :=
  ∀ (s a : State) (dt : Elapse) (n : Fin 128) (t : Fin 272), s.advance dt = a → a.calm → Tbl.wf a.loop = true →
    ((a.lp n).tile = some t.val → (a.lp n).repl = none → (a.tile t).role = .bound →
      (∀ m : Nat, m ≠ n.val → (a.lp m).tile ≠ some t.val ∧ (a.lp m).repl = none) →
      ∃ u : State, exec (.tileFence dt t) s = .next u.settle ∧ (u.tile t).role = .fenced ∧ (0x100 + t.val) ∈ u.fencedUnits
        ∧ (u.lp n).passEnd = none ∧ (∀ m : Nat, m ≠ n.val → u.lp m = a.lp m)
        ∧ (∀ p : Nat, a.freeSpare (if t.val < 256 then t.val / 32 else (t.val - 256) / 2) = some p →
            (u.lp n).tile = some p ∧ (u.lp n).take = some a.htick ∧ (u.tile p).role = .loading ∧ (u.tile p).ch = n.val
            ∧ (∀ m : Nat, m ≠ t.val → m ≠ p → u.tile m = a.tile m) ∧ u.reports = a.reports)
        ∧ (a.freeSpare (if t.val < 256 then t.val / 32 else (t.val - 256) / 2) = none →
            (u.lp n).tile = none ∧ (u.lp n).evNone = true ∧ u.reports = a.reports ++ [⟨0x210, 0xE0, a.htick⟩]
            ∧ (∀ m : Nat, m ≠ t.val → u.tile m = a.tile m))
        ∧ { u with tiles := a.tiles, loop := a.loop, reports := a.reports, fences := a.fences, fencedUnits := a.fencedUnits } = a) ∧
    ((a.lp n).tile = some t.val → (a.lp n).take ≠ none →
      ∃ u : State, exec (.spareReady dt n) s = .next u.settle ∧ (u.tile t).role = .bound ∧ (u.tile t).ch = n.val
        ∧ (u.tile t).prog = a.tplWords (a.lp n).template ∧ (u.lp n).tile = some t.val ∧ (u.lp n).take = none ∧ (u.lp n).lost = 0
        ∧ bit (u.rd (chA n 0x410)) 4 = true ∧ u.rf (chA n 0x414) 16 8 = min (a.rf (chA n 0x414) 16 8 + 1) 255
        ∧ (2 ≤ (a.lp n).lost → (u.lp n).evTake = true)
        ∧ ((a.ch n).st.reg = false → (a.lp n).lost < 2 → (u.lp n).evTake = (a.lp n).evTake ∧ (u.lp n).catchAt = (a.lp n).catchAt)
        ∧ (∀ m : Nat, m ≠ t.val → u.tile m = a.tile m) ∧ (∀ m : Nat, m ≠ n.val → u.lp m = a.lp m)
        ∧ (∀ k : Nat, k ≠ chA n 0x410 → k ≠ chA n 0x414 → u.rd k = a.rd k)
        ∧ { u with tiles := a.tiles, loop := a.loop, regs := a.regs, tickSet := a.tickSet, tickInc := a.tickInc } = a)

/-- Loss of a tracking input (R118, R119) by TRKA_TIMEOUT and TRKP_TIMEOUT, with flag, saturating counter, event and error line.
TRKP_EDGE counts an edge of the selected polarity; TRKP_GATE_END in count mode delivers the number of edges of the window (R116)
while the source is valid. -/
def Obligations.TrackingInputLossAndGate : Prop :=
  ∀ (s a : State) (dt : Elapse) (w : Fin 8), s.advance dt = a → a.calm →
    (∀ (c : Instr) (k : Nat),
      (c = .trkaTimeout dt w ∧ k = 0 ∧ (∃ n : Nat, n / 16 = w.val ∧ a.actf (chA n 0x428) 0 2 = 1) ∧ (a.wtrk w).aLost = false
          ∧ 500000 ≤ (a.htick - (a.wtrk w).aLast).toNat)
        ∨ (c = .trkpTimeout dt w ∧ k = 1 ∧ (a.wtrk w).pLost = false
          ∧ 500 * (a.wtrk w).tmoUs ≤ (a.htick - (a.wtrk w).lastEdge).toNat) →
      ∃ u : State, exec c s = .next u.settle
        ∧ u.wtrk w = (if k = 0 then { a.wtrk w with aValid := false, aLost := true } else { a.wtrk w with pValid := false, pLost := true })
        ∧ bit (u.rd (wgA w 0x218)) (2 + k) = true ∧ u.rf (wgA w 0x218) (8 + 8 * k) 8 = min (a.rf (wgA w 0x218) (8 + 8 * k) 8 + 1) 255
        ∧ u.launched = a.launched ++ [⟨0x800 + 8 * w.val + 2 * k, a.htick⟩] ∧ u.reports = a.reports ++ [⟨0x80 + w.val, 2 + k, a.htick⟩]
        ∧ (∀ j : Nat, j ≠ wgA w 0x218 → u.rd j = a.rd j) ∧ (∀ m : Nat, m ≠ w.val → u.wtrk m = a.wtrk m)
        ∧ { u with trk := a.trk, regs := a.regs, tickSet := a.tickSet, tickInc := a.tickInc, launched := a.launched, reports := a.reports } = a) ∧
    (∀ falling : Bool, bit (a.rd (wgA w 0x20C)) 1 = falling →
      ∃ u : State, exec (.trkpEdge dt w falling) s = .next u.settle ∧ (u.wtrk w).edges = (a.wtrk w).edges + 1
        ∧ (u.wtrk w).lastEdge = a.htick ∧ (u.wtrk w).tmoUs = a.rf (wgA w 0x210) 0 24 ∧ (u.wtrk w).firstEdge = (if (a.wtrk w).edges = 0 then a.htick else (a.wtrk w).firstEdge)
        ∧ (u.wtrk w).pValid = (a.wtrk w).pValid ∧ (∀ m : Nat, m ≠ w.val → u.wtrk m = a.wtrk m) ∧ { u with trk := a.trk } = a) ∧
    (bit (a.rd (wgA w 0x20C)) 0 = true → (a.wtrk w).pValid = true →
      500000 * (a.wtrk w).gateMs ≤ (a.htick - (a.wtrk w).winStart).toNat →
      ∃ u : State, exec (.trkpGateEnd dt w) s = .next u.settle ∧ u.rd (wgA w 0x214) = F32.ofInt (a.wtrk w).edges
        ∧ u.wtrk w = { a.wtrk w with winStart := a.htick, gateMs := a.rf (wgA w 0x20C) 16 10, edges := 0, gap := false }
        ∧ (∀ j : Nat, j ≠ wgA w 0x214 → u.rd j = a.rd j) ∧ (∀ m : Nat, m ≠ w.val → u.wtrk m = a.wtrk m)
        ∧ { u with trk := a.trk, regs := a.regs } = a)

/-- A SAMPLE frame that passes the link checks (R272) with its sequence number advanced, no held ranges and sample_valid is good
(R130): MEAS_FAST and the sample latch take the fast-corrected values (R131, R105), LNK_GOOD counts, and an open aperture counts
it in (R137, R139). At an arrival edge without a frame MEAS_EXCL counts and the aperture's expected count alone; the second such
edge in a row takes the link to RETRAIN (R284). `measVal` is R131 with R132's choice of the current. -/
def Obligations.SampleFrameIsTakenIn : Prop :=
  ∀ (s a : State) (dt : Elapse) (n : Fin 128) (f : Frame), s.advance dt = a → a.calm →
    bit (a.rd (chA n 0x600)) 0 = true → a.sleeping (n / 16) = false → (a.lk n).st = .up → (a.lk n).out = none →
    (a.lk n).slip = false → (a.lk n).badRun = 0 → (a.ms n).rawOn = false →
    let e := a.arrival
    let ap := (a.ms n).ap
    ap.phase = .opened → bits ap.cfg 0 2 = 0 → bits ap.cfg 4 2 = 0 → ap.cutAt = none →
    0 < (e - ap.eo).toNat → (e - ap.eo).toNat < 128 * bits ap.len 0 26 → bits ap.len 0 26 < 2 ^ 26 →
    (f.codeOk = true → frCrc f = true → frB f 0 = 0x20 → 1 ≤ a.frAdvance n f → a.frAdvance n f < 256 → frS f 0 = true →
      a.framesHeld n = false → (a.rg n).kind = .none →
      ∃ u : State, exec (.sampleFrame dt n f) s = .next u.settle
        ∧ u.rd (chA n 0x264) = (a.measVal n f).v ∧ u.rd (chA n 0x268) = (a.measVal n f).i
        ∧ (∃ q, (u.ms n).latch = some q ∧ q.v = (a.measVal n f).v ∧ q.edge = e ∧ q.seq = BitVec.ofNat 16 (frP f 18 2))
        ∧ u.rd (chA n 0x618) = BitVec.ofNat 32 (frP f 12 4)
        ∧ u.rd (chA n 0x614) = a.rd (chA n 0x614) + 1#32 ∧ (u.lk n).lastSeq = some (BitVec.ofNat 16 (frP f 18 2)) ∧ (u.lk n).noGood = 0
        ∧ (u.ms n).ap.nExp = ap.nExp + 1 ∧ (u.ms n).ap.nVal = ap.nVal + 1
        ∧ (u.ms n).ap.sv = F64.add ap.sv (F64.of32 (a.measVal n f).v)
        ∧ (∀ m : Nat, m ≠ n.val → u.ms m = a.ms m ∧ u.lk m = a.lk m ∧ u.ch m = a.ch m)
        ∧ (∀ k : Nat, k / 0x1000 ≠ 0x100 + n.val → u.rd k = a.rd k)) ∧
    (∃ u : State, exec (.arrivalEdgeMissing dt n) s = .next u.settle
        ∧ u.rd (chA n 0x228) = a.rd (chA n 0x228) + 1#32 ∧ (u.ms n).ap.nExp = ap.nExp + 1 ∧ (u.ms n).ap.nVal = ap.nVal
        ∧ (u.lk n).badRun = 1 ∧ (u.lk n).st = .up ∧ (u.lk n).noGood = min ((a.lk n).noGood + 1) 256
        ∧ u.rd (chA n 0x264) = a.rd (chA n 0x264) ∧ (u.ms n).latch = (a.ms n).latch
        ∧ (∀ m : Nat, m ≠ n.val → u.ms m = a.ms m ∧ u.lk m = a.lk m ∧ u.ch m = a.ch m)
        ∧ (∀ k : Nat, k / 0x1000 ≠ 0x100 + n.val → u.rd k = a.rd k))

/-- Apertures (R135, R136, R140): a trigger acts only when the committed setting takes triggers; the aperture opens at a frame-grid
edge with the settings committed then and empty sums; ap_stop closes it at the next frame-grid edge and marks the record cut
short. -/
def Obligations.AperturesOpenAndAreCut : Prop :=
  ∀ (s a : State) (dt : Elapse) (n : Fin 128), s.advance dt = a → a.calm →
    let ap := (a.ms n).ap
    let c := a.act (chA n 0x200)
    (∀ i : Instr, (i = .apStartCmd dt n ∧ a.committed = true) ∨ i = .tiAperture dt n →
      (bits c 2 2 = 1 → bits c 0 2 ≠ 3 → ap.phase = .closed →
        ∃ u : State, exec i s = .next u.settle
          ∧ u.ms n = { a.ms n with ap := { ap with phase := .pending, mainsO := (a.mainsPos a.htick).toNat, turnO := a.mach.turn, cutAt := none, reopen := false } }
          ∧ (∀ m : Nat, m ≠ n.val → u.ms m = a.ms m) ∧ { u with meas := a.meas, hwyTi := a.hwyTi } = a) ∧
      (bits c 2 2 ≠ 1 → ∃ u : State, exec i s = .next u.settle ∧ bit (u.rd (chA n 0x220)) 2 = true
          ∧ (∀ k : Nat, k ≠ chA n 0x220 → u.rd k = a.rd k) ∧ { u with regs := a.regs, tickSet := a.tickSet, hwyTi := a.hwyTi } = a)) ∧
    (ap.phase = .pending → a.htick.toNat % 128 = 0 → bits c 0 2 = 0 → (a.lk n).st = .up ∨ (a.lk n).st = .retrain →
      (ap.noHead = false ∨ (a.ch n).headReady = true) → ap.noTime = false →
      ∃ u : State, exec (.apertureOpen dt n) s = .next u.settle
        ∧ (u.ms n).ap.phase = .opened ∧ (u.ms n).ap.eo = a.htick ∧ (u.ms n).ap.cfg = c ∧ (u.ms n).ap.len = a.act (chA n 0x204)
        ∧ (u.ms n).ap.nExp = 0 ∧ (u.ms n).ap.nVal = 0 ∧ (u.ms n).ap.sv = 0#64 ∧ (u.ms n).ap.rs = [] ∧ (u.ms n).ap.stat = 0#32
        ∧ (u.ms n).seq = (a.ms n).seq ∧ (u.ms n).rcd = (a.ms n).rcd
        ∧ (∀ m : Nat, m ≠ n.val → u.ms m = a.ms m) ∧ { u with meas := a.meas } = a) ∧
    (a.committed = true → ap.phase = .opened →
      ∃ u : State, exec (.apStopCmd dt n) s = .next u.settle
        ∧ u.ms n = { a.ms n with ap := { ap with cutAt := some (a.htick + BitVec.ofNat 64 (128 - a.htick.toNat % 128)), reopen := false, stat := setBit ap.stat 11 } }
        ∧ (∀ m : Nat, m ≠ n.val → u.ms m = a.ms m) ∧ { u with meas := a.meas } = a)

/-- A result record (R143): with four free words in the record Chute its words are stored at w, w + 1, w + 2 and w + 3 (R372, R374),
MEAS_LAST takes it and ev_record goes out; with fewer free words the record is lost (R144). After a flush inside a group the
record is pushed again behind its fillers, with rec_repush (R144). SEC_TIMEOUT: a secondary range not seen in 64 frames ends the
crossfade's wait with its fault (R147). No byte of the Pantry but the words stored changes. -/
def Obligations.RecordsGoToTheirChute : Prop :=
  ∀ (s a : State) (dt : Elapse) (n : Fin 128) (r : Rec) (c d b : Nat), s.advance dt = a → a.calm → (a.ms n).rcd = some r →
    c = a.rf (chA n 0x218) 0 8 → d = a.chuDepth c → b = a.chuBank c → a.rf (chuA c 0) 0 5 ≤ 16 → a.owner (a.chuBank c) = 5 → (a.bank (a.chuBank c)).withdrawn = false → (a.bank (a.chuBank c)).postEnd = none →
    a.borrow = none → (a.chute c).tk ≠ a.htick →
    let w := (a.chute c).w
    let pos (k : Nat) := a.chuBase c + (w + BitVec.ofNat 17 k).toNat % d
    (r.repush = none → 24 ≤ (a.htick - r.tc).toNat → 4 ≤ a.chuFree c →
      ∃ u : State, exec (.recordPush dt n none) s = .next u.settle
        ∧ (u.ms n).rcd = none ∧ (u.chute c).w = w + 4#17 ∧ (u.chute c).r = (a.chute c).r
        ∧ u.panWord b (pos 0) = r.w0 ∧ u.panWord b (pos 1) = r.w1 ∧ u.panWord b (pos 2) = r.w2 ∧ u.panWord b (pos 3) = r.w3
        ∧ (∀ x : Nat, (∀ k, k < 4 → x < panAt b (pos k) ∨ panAt b (pos k) + 8 ≤ x) → Mem.get u.pan x = Mem.get a.pan x)
        ∧ u.rd64 (chA n 0x230) = r.w0 ∧ u.rd64 (chA n 0x238) = r.w1 ∧ u.rd64 (chA n 0x240) = r.w2 ∧ u.rd64 (chA n 0x248) = r.w3
        ∧ u.launched = a.launched ++ [⟨16 * n.val + 11, a.htick⟩]
        ∧ (∀ m : Nat, m ≠ n.val → u.ms m = a.ms m) ∧ (∀ m : Nat, m ≠ c → u.chute m = a.chute m)
        ∧ (∀ k : Nat, k / 0x1000 ≠ 0x100 + n.val → u.rd k = a.rd k)
        ∧ { u with meas := a.meas, chutes := a.chutes, banks := a.banks, pan := a.pan, poison := a.poison, regs := a.regs, launched := a.launched } = a) ∧
    (r.repush = none → 24 ≤ (a.htick - r.tc).toNat → a.chuFree c < 4 →
      ∃ u : State, exec (.recordPush dt n none) s = .next u.settle
        ∧ (u.ms n).rcd = none ∧ bit (u.rd (chA n 0x220)) 0 = true ∧ u.rf (chA n 0x224) 0 16 = min (a.rf (chA n 0x224) 0 16 + 1) 65535
        ∧ u.reports = a.reports ++ [⟨n.val, 64, a.htick⟩] ∧ (∀ m : Nat, m ≠ n.val → u.ms m = a.ms m)
        ∧ (∀ k : Nat, k ≠ chA n 0x220 → k ≠ chA n 0x224 → u.rd k = a.rd k)
        ∧ { u with meas := a.meas, regs := a.regs, tickSet := a.tickSet, tickInc := a.tickInc, reports := a.reports } = a) ∧
    (∀ q : Nat, r.repush = some q → q < 4 → 32 ≤ (a.htick - r.tc).toNat → 8 ≤ a.chuFree c →
      ∃ u : State, exec (.recordRepush dt n none) s = .next u.settle
        ∧ (u.ms n).rcd = none ∧ (u.chute c).w = w + BitVec.ofNat 17 (if q = 0 then 4 else 8 - q)
        ∧ u.panWord b (pos (if q = 0 then 0 else 4 - q)) = r.w0 ∧ u.panWord b (pos (if q = 0 then 3 else 7 - q)) = r.w3
        ∧ bit (u.rd (chA n 0x220)) 4 = true ∧ u.rd64 (chA n 0x230) = r.w0
        ∧ u.launched = a.launched ++ [⟨16 * n.val + 11, a.htick⟩] ∧ (∀ m : Nat, m ≠ c → u.chute m = a.chute m)) ∧
    ((a.rg n).kind = .xfade → (a.rg n).bx = none → (a.rg n).secSeen = false → 8192 < (a.htick - (a.rg n).secAt).toNat →
      exec (.secTimeout dt n) s = .next (State.settle ((a.setRg n { a.rg n with kind := .none, noXf := some (a.rg n).req, want := if a.autoActs n then some (a.rg n).to_ else none }).chFault n 102)))

/-- Training (R283): from DOWN, the first good IDLE frame with locked = 1 makes the head present (R287) and starts TRAIN at step 1; four
in a row lead to step 2 with the tx_delay that the arrival phase asks for. LNK_RETRAIN (R284) counts and reports; an elastic slip
is flagged, counted and reported (R286), and does not retrain when it is the first within 1 ms. -/
def Obligations.LinkTrainingSteps : Prop :=
  ∀ (s a : State) (dt : Elapse) (n : Fin 128), s.advance dt = a → a.calm →
    (∀ (f : Frame) (d : Fin 32) (t : Bool), bit (a.rd (chA n 0x600)) 0 = true → a.sleeping (n / 16) = false → f.codeOk = true →
      frCrc f = true → frB f 0 = 0 → frP f 0 1 % 2 = 1 → (a.lk n).slip = false →
      ((a.lk n).st = .down →
        ∃ u : State, exec (.uplinkIdleFrame dt n f d t) s = .next u.settle
          ∧ (u.lk n).st = .train ∧ (u.lk n).step = 1 ∧ (u.lk n).present = true ∧ (u.lk n).epoch = frP f 4 2 ∧ (u.lk n).goodIdle = 1
          ∧ (u.lk n).noGood = 0 ∧ u.rd (chA n 0x614) = a.rd (chA n 0x614) + 1#32
          ∧ (∀ k : Nat, k ≠ chA n 0x614 → u.rd k = a.rd k) ∧ (∀ m : Nat, m ≠ n.val → u.lk m = a.lk m)
          ∧ { u with link := a.link, regs := a.regs, tickInc := a.tickInc } = a) ∧
      ((a.lk n).st = .train → (a.lk n).step = 1 → (a.lk n).goodIdle = 3 →
        ∃ u : State, exec (.uplinkIdleFrame dt n f d t) s = .next u.settle
          ∧ (u.lk n).st = .train ∧ (u.lk n).step = 2 ∧ (u.lk n).txDelay = d.val ∧ (u.lk n).goodIdle = 0 ∧ (u.lk n).ebFill = 4
          ∧ (∀ m : Nat, m ≠ n.val → u.lk m = a.lk m) ∧ { u with link := a.link, regs := a.regs, tickInc := a.tickInc } = a)) ∧
    (a.committed = true → (a.lk n).st = .up → (a.lk n).out = none →
      ∃ u : State, exec (.lnkRetrain dt n) s = .next u.settle ∧ (u.lk n).st = .retrain ∧ (u.lk n).step = 1 ∧ (u.lk n).fromUp = true
        ∧ (u.lk n).descValid = (a.lk n).descValid ∧ (u.lk n).present = (a.lk n).present
        ∧ u.rf (chA n 0x610) 0 8 = min (a.rf (chA n 0x610) 0 8 + 1) 255 ∧ u.reports = a.reports ++ [⟨n.val, 0xA4, a.htick⟩]
        ∧ (∀ k : Nat, k ≠ chA n 0x610 → u.rd k = a.rd k) ∧ (∀ m : Nat, m ≠ n.val → u.lk m = a.lk m)
        ∧ { u with link := a.link, regs := a.regs, tickInc := a.tickInc, reports := a.reports } = a) ∧
    (bit (a.rd (chA n 0x600)) 0 = true → a.sleeping (n / 16) = false → (a.lk n).st ≠ .down →
      (∀ x, (a.lk n).lastSlip = some x → 500000 < (a.htick - x).toNat) →
      ∃ u : State, exec (.elasticSlip dt n) s = .next u.settle
        ∧ u.lk n = { a.lk n with slip := true, lastSlip := some a.htick, ebFill := 4 } ∧ bit (u.rd (chA n 0x608)) 2 = true
        ∧ u.rf (chA n 0x610) 8 8 = min (a.rf (chA n 0x610) 8 8 + 1) 255 ∧ u.reports = a.reports ++ [⟨n.val, 0xA2, a.htick⟩]
        ∧ (∀ k : Nat, k ≠ chA n 0x608 → k ≠ chA n 0x610 → u.rd k = a.rd k) ∧ (∀ m : Nat, m ≠ n.val → u.lk m = a.lk m)
        ∧ { u with link := a.link, regs := a.regs, tickSet := a.tickSet, tickInc := a.tickInc, reports := a.reports } = a)

/-- Absence (R287): by 256 consecutive frames without a good one, or by link_en = 0. The link returns to DOWN, the descriptor is no
longer valid, head_ready falls, and a live channel is quenched with cause 0x16 and reported (R60, R301). LNK_REENUM (R302) starts
a training with a new enumeration, and is refused unless the channel is QUENCHED or FENCED. -/
def Obligations.LinkLossAndReenumeration : Prop :=
  ∀ (s a : State) (dt : Elapse) (n : Fin 128), s.advance dt = a → a.calm → (a.lk n).out = none →
    (∀ c : Instr, Tbl.get none a.snaps n = none →
      (c = .headAbsent dt n ∧ (a.lk n).present = true ∧ 256 ≤ (a.lk n).noGood)
        ∨ (c = .linkEnClear dt n ∧ a.committed = true ∧ ((a.lk n).present = true ∨ (a.lk n).st ≠ .down)) →
      ∃ u : State, exec c s = .next u.settle
        ∧ (u.lk n).st = .down ∧ (u.lk n).present = false ∧ (u.lk n).descValid = false ∧ (u.lk n).lastSeq = none
        ∧ (u.ch n).headReady = false ∧ (u.ms n).ap.noHead = true
        ∧ ((a.ch n).st.live = true → (u.ch n).st = .quenched ∧ (u.ch n).cause = 0x16 ∧ (u.ch n).prev = (a.ch n).st
            ∧ (u.ch n).level = 0#32 ∧ u.reports.contains ⟨n.val, 0xE1, a.htick⟩ = true)
        ∧ ((a.ch n).st.live = false → (u.ch n).st = (a.ch n).st ∧ (u.ch n).cause = (a.ch n).cause ∧ u.reports = a.reports)
        ∧ (c = .linkEnClear dt n → bit (u.rd (chA n 0x600)) 0 = false)
        ∧ (∀ m : Nat, m ≠ n.val → u.lk m = a.lk m ∧ u.ch m = a.ch m ∧ u.ms m = a.ms m)
        ∧ (∀ k : Nat, k / 0x1000 ≠ 0x100 + n.val → u.rd k = a.rd k)) ∧
    (a.committed = true → (a.ch n).st.live = true →
      ∃ u : State, exec (.lnkReenum dt n) s = .next u.settle ∧ bit (u.rd (chA n 0x608)) 12 = true
        ∧ (∀ k : Nat, k ≠ chA n 0x608 → u.rd k = a.rd k) ∧ { u with regs := a.regs, tickSet := a.tickSet } = a) ∧
    (a.committed = true → (a.ch n).st.live = false → (a.lk n).st ≠ .down →
      ∃ u : State, exec (.lnkReenum dt n) s = .next u.settle ∧ (u.lk n).st = .train ∧ (u.lk n).step = 1 ∧ (u.lk n).descValid = false
        ∧ (u.lk n).fromUp = false ∧ (u.lk n).present = (a.lk n).present
        ∧ u.ch n = { a.ch n with headReady := false, headLoading := false }
        ∧ (∀ m : Nat, m ≠ n.val → u.lk m = a.lk m ∧ u.ch m = a.ch m) ∧ (∀ k : Nat, k / 0x1000 ≠ 0x100 + n.val → u.rd k = a.rd k))

/-- LEVEL_FRAME_SEND (R273, R275): the base level is 0 in the safe states and in ARMING (R59), the delivered output of the loop in
REGULATING, COMPLIANCE and HOLD from the tick on that R107 gives, and the level last sent otherwise; the pulse level follows
(R77). That a channel in FZ sends 0 is the model's reading (log 23, DEDUCED). dl_count counts every downlink frame. -/
def Obligations.DownlinkFrames : Prop :=
  ∀ (s a : State) (dt : Elapse) (n : Fin 128), s.advance dt = a → a.calm → a.htick.toNat % 128 = 0 → a.sleeping (n / 16) = false →
    let st := (a.ch n).st
    let lv := if st = .quenched ∨ st = .fenced ∨ st = .arming ∨ a.mode n = 2 then 0#32
      else match (a.lp n).outFrom with
        | some t => if st ≠ .rampdown ∧ (a.htick - t).toNat < 2 ^ 63 then (a.lp n).outLast else (a.ch n).level
        | none => (a.ch n).level
    let pl := if (a.gp n).running then (a.gp n).level else a.act (chA n 0x11C)
    ((a.lk n).st = .up → (a.lk n).out = none → (a.lk n).calQ = [] → (a.lk n).hostQ = none →
      ∃ u : State, exec (.levelFrameSend dt n) s = .next u.settle
        ∧ (u.lk n).sent.take 9 = 0x80#8 :: leBytes 4 lv.toNat ++ leBytes 4 pl.toNat
        ∧ (u.lk n).dlCount = (a.lk n).dlCount + 1#16 ∧ ((u.lk n).sent.drop 13).take 2 = leBytes 2 ((a.lk n).dlCount + 1#16).toNat
        ∧ u.ch n = { a.ch n with level := lv } ∧ u.gp n = { a.gp n with sent := (pl :: (a.gp n).sent).take 2 }
        ∧ (u.lk n).out = none ∧ (u.lk n).st = .up
        ∧ (∀ m : Nat, m ≠ n.val → u.lk m = a.lk m ∧ u.ch m = a.ch m ∧ u.gp m = a.gp m)
        ∧ (∀ k : Nat, k / 0x1000 ≠ 0x100 + n.val → u.rd k = a.rd k)) ∧
    ((a.lk n).st ≠ .up →
      ∃ u : State, exec (.levelFrameSend dt n) s = .next u.settle ∧ (u.lk n).sent.length = 29 ∧ (u.lk n).sent.head? = some 0#8
        ∧ (u.lk n).dlCount = (a.lk n).dlCount + 1#16 ∧ (u.lk n).st = (a.lk n).st
        ∧ (∀ m : Nat, m ≠ n.val → u.lk m = a.lk m) ∧ { u with link := a.link } = a)

/-- DESCRIPTOR_FRAME (R289): the pass is gathered frame by frame, and the second identical good pass makes the descriptor valid; the
epoch is the descriptor's (R290). MGMT_RESP_FRAME: fragment 1 in the frame after fragment 0 completes the request (R292, R303).
HMW_SEND (R293, R294) and MGMT_TIMEOUT (R293). `descPassOk` is the list of checks of R289. -/
def Obligations.DescriptorAndManagement : Prop :=
  ∀ (s a : State) (dt : Elapse) (n : Fin 128), s.advance dt = a → a.calm →
    (∀ f : Frame, bit (a.rd (chA n 0x600)) 0 = true → a.sleeping (n / 16) = false → f.codeOk = true → frCrc f = true →
      (a.lk n).slip = false →
      ((a.lk n).st = .desc → (a.lk n).ack = false → (a.lk n).buf = [] → frB f 0 = 0x40 →
        ∃ u : State, exec (.descriptorFrame dt n f) s = .next u.settle ∧ (u.lk n).buf = (f.bytes.drop 1).take 28 ∧ (u.lk n).bufOk = true
          ∧ (u.lk n).descValid = (a.lk n).descValid ∧ (∀ m : Nat, m ≠ n.val → u.lk m = a.lk m)
          ∧ { u with link := a.link, regs := a.regs, tickInc := a.tickInc } = a) ∧
      (∀ d : List Byte, (a.lk n).st = .desc → (a.lk n).ack = false → (a.lk n).bufOk = true → (a.lk n).buf.length = 728 →
        frB f 0 = 0x40 + 26 → d = (a.lk n).buf ++ (f.bytes.drop 1).take 28 → (a.lk n).prevPass = some d → descPassOk d = true →
        a.tplInfo (a.lp n).template = none → (a.ch n).st ≠ .fenced →
        ∃ u : State, exec (.descriptorFrame dt n f) s = .next u.settle ∧ (u.lk n).descValid = true ∧ (u.lk n).desc = d ∧ (u.lk n).ack = true
          ∧ (u.lk n).epoch = leNat ((d.drop 6).take 2) ∧ u.ch n = { a.ch n with headLoading := true }
          ∧ (∀ m : Nat, m ≠ n.val → u.lk m = a.lk m ∧ u.ch m = a.ch m) ∧ (∀ k : Nat, k / 0x1000 ≠ 0x100 + n.val → u.rd k = a.rd k)) ∧
      (∀ (o : MgmtOut) (x : List Byte), (a.lk n).st = .up → (a.lk n).out = some o → o.host = true → o.frag0 = some x → x.length = 6 →
        frB f 0 = 0x61 → a.frAdvance n f < 256 →
        let r := x ++ (f.bytes.drop 23).take 6
        ∃ u : State, exec (.mgmtRespFrame dt n f) s = .next u.settle ∧ (u.lk n).out = none
          ∧ u.rd (chA n 0xC10) = BitVec.ofNat 32 (leNat (r.take 4)) ∧ u.rd (chA n 0xC14) = BitVec.ofNat 32 (leNat ((r.drop 4).take 4))
          ∧ u.rd (chA n 0xC18) = BitVec.ofNat 32 (leNat ((r.drop 8).take 4)) ∧ bit (u.rd (chA n 0xC1C)) 1 = true
          ∧ u.rf (chA n 0xC1C) 8 8 = (r.getD 2 0#8).toNat ∧ (∀ m : Nat, m ≠ n.val → u.lk m = a.lk m))) ∧
    (a.committed = true → (a.lk n).hostQ = none → (a.lk n).out = none →
      (bits (a.rd (chA n 0xC00)) 0 8 < 0x10 ∨ 0x13 < bits (a.rd (chA n 0xC00)) 0 8 ∨ a.wingMode (n / 16) = 5) →
      exec (.hmwSend dt n) s = .next (State.settle (a.setLk n { a.lk n with hostQ := some (leBytes 4 (a.rd (chA n 0xC00)).toNat
        ++ leBytes 4 (a.rd (chA n 0xC04)).toNat ++ leBytes 4 (a.rd (chA n 0xC08)).toNat) }))) ∧
    (a.committed = true → (a.lk n).hostQ ≠ none →
      ∃ u : State, exec (.hmwSend dt n) s = .next u.settle ∧ bit (u.rd (chA n 0xC1C)) 3 = true
        ∧ (∀ k : Nat, k ≠ chA n 0xC1C → u.rd k = a.rd k) ∧ { u with regs := a.regs, tickSet := a.tickSet } = a) ∧
    (∀ o : MgmtOut, (a.lk n).out = some o → o.host = true →
      (if 0x10 ≤ (o.req.getD 0 0#8).toNat ∧ (o.req.getD 0 0#8).toNat ≤ 0x13 then 5000000 else 2048) ≤ (a.htick - o.start).toNat →
      ∃ u : State, exec (.mgmtTimeout dt n) s = .next u.settle ∧ u.lk n = { a.lk n with out := none } ∧ bit (u.rd (chA n 0x608)) 9 = true
        ∧ u.rf (chA n 0x610) 24 8 = min (a.rf (chA n 0x610) 24 8 + 1) 255 ∧ bit (u.rd (chA n 0xC1C)) 2 = true
        ∧ (∀ k : Nat, k ≠ chA n 0x608 → k ≠ chA n 0x610 → k ≠ chA n 0xC1C → u.rd k = a.rd k) ∧ (∀ m : Nat, m ≠ n.val → u.lk m = a.lk m)
        ∧ { u with link := a.link, regs := a.regs, tickSet := a.tickSet, tickInc := a.tickInc } = a)

/-- PERIOD_BOUNDARY (R31): the commit takes the shadow set as it stood before the boundary's tick (`shadowVal`), so a write in the
tick of the boundary itself waits for the next one; shadow_hold keeps the active set (R32). Between boundaries the command does
nothing. Guard and Watch settings (0x500 to 0x50C) are judged at the commit and are left out here. -/
def Obligations.PeriodBoundaryCommitsShadowSet : Prop :=
  ∀ (s a : State) (dt : Elapse) (n : Fin 128) (tr : BitVec 2), s.advance dt = a → a.calm →
    (a.atBoundary n = true → a.sleeping (n / 16) = false → bit (a.rd (chA n 0x004)) 0 = false → (a.cc n).applyHeld = false →
      ∃ u : State, exec (.periodBoundary dt n tr) s = .next u.settle
        ∧ (∀ o : Nat, o < 0x1000 → isShadow o = true → (o < 0x500 ∨ 0x510 ≤ o) → chA n o ∈ a.regs.map (·.1) →
            u.act (chA n o) = a.shadowVal (chA n o))
        ∧ (∀ k : Nat, k / 0x1000 ≠ 0x100 + n.val → u.act k = a.act k)
        ∧ (∀ m : Nat, m ≠ n.val → u.ch m = a.ch m)) ∧
    (a.atBoundary n = true → a.sleeping (n / 16) = false → bit (a.rd (chA n 0x004)) 0 = true →
      ∃ u : State, exec (.periodBoundary dt n tr) s = .next u.settle ∧ (∀ k : Nat, u.act k = a.act k)) ∧
    (a.atBoundary n = false → exec (.periodBoundary dt n tr) s = .next (State.settle a))

/-- The machine domain (R197): each command is the condition of one row of the transition table, or of R192 for a MARK in LOCKED.
MARK_ACCEPTED also captures house tick, machine tick and turn (R212). Flags, counts, events and reports as R197, R198 and R215
give them. Where a domain becomes unusable, apertures and sweeps that use it see it; those are left open here. -/
def Obligations.MachineDomainTransitions : Prop :=
  ∀ (s a : State) (dt : Elapse), s.advance dt = a → a.calm →
    let m := a.mach
    (m.st = .none → a.machEn = true → m.present = true →
      ∃ u : State, exec (.markAccepted dt) s = .next u.settle
        ∧ u.mach = { m with st := .acquiring, tit := 0, run := 0, turns := [], marked := true, markEdges := 0, markAt := a.htick, markGap := false }
        ∧ u.rd64 0x20C0 = a.htick ∧ u.rd64 0x20C8 = m.tick.setWidth 64 ∧ u.rd 0x20D0 = m.turn
        ∧ (∀ k : Nat, k ∉ [0x20C0, 0x20C4, 0x20C8, 0x20CC, 0x20D0] → u.rd k = a.rd k) ∧ { u with mach := m, regs := a.regs } = a) ∧
    (m.st = .locked → m.load = .off → m.tit ≤ a.markTol →
      ∃ u : State, exec (.markAccepted dt) s = .next u.settle
        ∧ u.mach.st = .locked ∧ u.mach.tick = m.tick ∧ u.mach.turn = m.turn ∧ u.mach.tit = m.tit ∧ u.mach.marked = true
        ∧ u.mach.markAt = a.htick ∧ u.rf 0x2018 24 8 = m.tit ∧ u.launched = a.launched ++ [⟨0x940, a.htick⟩]
        ∧ u.rd64 0x20C0 = a.htick
        ∧ (∀ k : Nat, k ∉ [0x2018, 0x20C0, 0x20C4, 0x20C8, 0x20CC, 0x20D0] → u.rd k = a.rd k)
        ∧ { u with mach := m, regs := a.regs, launched := a.launched } = a) ∧
    (m.st = .locked → a.markTol < m.tit → a.markTol + m.tit < a.turnLen →
      ∃ u : State, exec (.markAccepted dt) s = .next u.settle ∧ u.mach = m ∧ bit (u.rd 0x2010) 6 = true
        ∧ u.rf 0x2014 16 16 = min (a.rf 0x2014 16 16 + 1) 65535 ∧ u.reports = a.reports ++ [⟨0x401, 6, a.htick⟩] ∧ u.rd64 0x20C0 = a.htick
        ∧ { u with regs := a.regs, tickSet := a.tickSet, tickInc := a.tickInc, reports := a.reports } = a) ∧
    (m.st = .locked →
      ∃ u : State, exec (.mclkMissing dt) s = .next u.settle
        ∧ (m.present = true → (m.tick - m.goodAt).toNat < 2 * a.turnLen + a.markTol →
            u.mach.st = .holdover ∧ u.mach.cause = 2 ∧ u.mach.present = false ∧ u.mach.holdAt = a.htick ∧ u.mach.holdMs = a.rf 0x2008 0 16 ∧ u.mach.run = 0
            ∧ u.rf 0x2014 0 8 = min (a.rf 0x2014 0 8 + 1) 255 ∧ u.reports.contains ⟨0x401, 0, a.htick⟩ = true)) ∧
    (m.st = .acquiring → m.present = true →
      ∃ u : State, exec (.mclkMissing dt) s = .next u.settle
        ∧ u.mach = { m with st := .none, cause := 2, present := false, markGap := true, holdAt := a.htick, holdMs := a.rf 0x2008 0 16, marked := false, run := 0 }
        ∧ bit (u.rd 0x2010) 0 = true ∧ u.launched = a.launched ++ [⟨0x943, a.htick⟩] ∧ u.reports = a.reports ++ [⟨0x401, 0, a.htick⟩]
        ∧ (∀ k : Nat, k ≠ 0x2010 → u.rd k = a.rd k)
        ∧ { u with mach := m, regs := a.regs, tickSet := a.tickSet, launched := a.launched, reports := a.reports } = a) ∧
    (m.present = false →
      exec (.mclkPresent dt) s = .next (State.settle { a with mach := { m with present := true, fly := none, flyDone := 0 } })) ∧
    (m.st = .locked → 2 * a.turnLen + a.markTol ≤ (m.tick - m.goodAt).toNat →
      ∃ u : State, exec (.markLoss dt) s = .next u.settle
        ∧ u.mach = { m with st := .holdover, cause := 1, holdAt := a.htick, holdMs := a.rf 0x2008 0 16, marked := false, run := 0 }
        ∧ bit (u.rd 0x2010) 0 = true ∧ u.rf 0x2014 0 8 = min (a.rf 0x2014 0 8 + 1) 255
        ∧ u.launched = a.launched ++ [⟨0x943, a.htick⟩] ∧ u.reports = a.reports ++ [⟨0x401, 0, a.htick⟩]
        ∧ (∀ k : Nat, k ≠ 0x2010 → k ≠ 0x2014 → u.rd k = a.rd k)
        ∧ { u with mach := m, regs := a.regs, tickSet := a.tickSet, tickInc := a.tickInc, launched := a.launched, reports := a.reports } = a) ∧
    (∃ u : State, exec (.holdoverExpired dt) s = .next u.settle
        ∧ (m.st = .holdover → 500000 * m.holdMs ≤ (a.htick - m.holdAt).toNat →
            u.mach = { m with st := .frozen } ∧ bit (u.rd 0x2010) 1 = true)
        ∧ (a.mains.st = .holdover → 500000 * a.mains.holdMs ≤ (a.htick - a.mains.holdAt).toNat →
            u.mains = { a.mains with st := .frozen } ∧ bit (u.rd 0x2010) 4 = true)) ∧
    (∃ u : State, exec (.acquireTimeout dt) s = .next u.settle
        ∧ (m.st = .acquiring → 2 * a.turnLen ≤ m.markEdges →
            u.mach = { m with st := .none, cause := 1, holdAt := a.htick, holdMs := a.rf 0x2008 0 16, marked := false, run := 0 }
            ∧ bit (u.rd 0x2010) 0 = true ∧ u.reports.contains ⟨0x401, 0, a.htick⟩ = true)
        ∧ (a.mains.st = .acquiring → a.mains.lastPer ≠ 0 → 2 * a.mains.lastPer ≤ (a.htick - a.mains.edgeAt).toNat →
            u.mains.st = .none ∧ bit (u.rd 0x2010) 3 = true)) ∧
    (a.committed = true →
      ∃ u : State, exec (.machEnClear dt) s = .next u.settle ∧ u.mach = { m with st := .none, marked := false, run := 0, fly := none, flyDone := 0 }
        ∧ bit (u.rd 0x2000) 0 = false ∧ u.mains = a.mains)

/-- R200: PHS_CMD arms and cancels a load. R212: the snapshot group changes only at a snapshot, from PHS_CMD or ti_phs_snap, all of it
of one house tick; the PPS group takes the house tick and the seconds count at a second boundary of the 1588 clock. -/
def Obligations.LoadsAndTimeCaptures : Prop :=
  ∀ (s a : State) (dt : Elapse), s.advance dt = a → a.calm →
    (a.committed = true →
      exec (.loadNextMark dt) s = .next (State.settle { a with mach := { a.mach with load := .nextMark } })
      ∧ exec (.loadAfterSec dt) s = .next (State.settle { a with mach := { a.mach with load := .afterSec } })
      ∧ exec (.loadCancel dt) s = .next (State.settle { a with mach := { a.mach with load := .off } })) ∧
    (∀ c : Instr, (c = .snapshot dt ∧ a.committed = true) ∨ c = .tiPhsSnap dt →
      ∃ u : State, exec c s = .next u.settle
        ∧ u.rd64 0x2080 = a.htick ∧ u.rd64 0x2088 = a.mach.tick.setWidth 64 ∧ u.rd 0x2090 = a.mach.turn
        ∧ u.rf 0x2094 24 8 = (a.rf 0x2094 24 8 + 1) % 256 ∧ (a.mach.tit < 2 ^ 20 → u.rf 0x2094 0 20 = a.mach.tit)
        ∧ u.rd 0x2098 = BitVec.ofNat 32 ((a.mains.at_ a.htick).toNat / 65536) ∧ u.rd 0x209C = BitVec.ofNat 32 ((a.mains.at_ a.htick).toNat % 65536)
        ∧ u.rd64 0x20A0 = a.tod.sec.setWidth 64 ∧ u.rd 0x20A8 = BitVec.ofNat 32 a.tod.ns
        ∧ (∀ k : Nat, k < 0x2080 ∨ 0x20A8 < k → u.rd k = a.rd k) ∧ { u with regs := a.regs, hwyTi := a.hwyTi } = a) ∧
    (a.tod.ns < 4 →
      ∃ u : State, exec (.ppsCapture dt) s = .next u.settle ∧ u.rd64 0x20E0 = a.htick ∧ u.rd64 0x20E8 = a.tod.sec.setWidth 64
        ∧ (∀ k : Nat, k < 0x20E0 ∨ 0x20EC < k → u.rd k = a.rd k) ∧ { u with regs := a.regs } = a)

/-- R202 to R204. The statement takes edges whose period keeps the domain LOCKED (15.385 ms to 22.222 ms). `mains.at_` is the position
the flywheel has reached. With phase at most 0x0CCC the step is −phase and the cycle count stays. -/
def Obligations.MainsDomainEdges : Prop :=
  ∀ (s a : State) (dt : Elapse), s.advance dt = a → a.calm →
    let m := a.mains
    let per := (a.htick - m.edgeAt).toNat
    let p := m.at_ a.htick
    (m.edged = true → per < 2000000 → exec (.mainsEdge dt) s = .next (State.settle a)) ∧
    (a.mainsEn = true → m.edged = false → m.st = .none →
      exec (.mainsEdge dt) s = .next (State.settle { a with mains := { m with st := .acquiring, pos := BitVec.ofNat 48 (m.pos.toNat / 65536 * 65536), posAt := a.htick,
                                                                               run := 0, periods := [], edged := true, edgeAt := a.htick, lastPer := 0 } })) ∧
    (a.mainsEn = true → m.st = .locked → m.edged = true → 7692500 ≤ per → per ≤ 11111000 →
      (p.toNat % 65536 ≤ 0xCCC →
        ∃ u : State, exec (.mainsEdge dt) s = .next u.settle
          ∧ u.mains.st = .locked ∧ u.mains.pos.toNat = p.toNat - p.toNat % 65536 ∧ u.mains.posAt = a.htick ∧ u.mains.edgeAt = a.htick
          ∧ u.mains.lastPer = per ∧ u.mains.goodCyc = p.toNat / 65536
          ∧ u.rf 0x201C 0 16 = (65536 - p.toNat % 65536) % 65536 ∧ u.launched.contains ⟨0x941, a.htick⟩ = true ∧ u.mach = a.mach) ∧
      (0xCCC < p.toNat % 65536 → p.toNat % 65536 < 65536 - 0xCCC →
        ∃ u : State, exec (.mainsEdge dt) s = .next u.settle ∧ u.mains.st = .locked ∧ u.mains.pos = p ∧ u.mains.posAt = a.htick
          ∧ u.mains.goodCyc = m.goodCyc ∧ bit (u.rd 0x2010) 7 = true ∧ u.reports = a.reports ++ [⟨0x401, 7, a.htick⟩]
          ∧ (∀ k : Nat, k ≠ 0x2010 → u.rd k = a.rd k)
          ∧ { u with mains := m, regs := a.regs, tickSet := a.tickSet, reports := a.reports } = a)) ∧
    (m.st = .locked → (m.goodCyc + 2) * 65536 + 0xCCC ≤ p.toNat →
      ∃ u : State, exec (.mainsLoss dt) s = .next u.settle
        ∧ u.mains = { m with st := .holdover, pos := p, posAt := a.htick, holdAt := a.htick, holdMs := a.rf 0x2008 16 16, run := 0 }
        ∧ bit (u.rd 0x2010) 3 = true ∧ u.rf 0x2014 8 8 = min (a.rf 0x2014 8 8 + 1) 255
        ∧ u.launched = a.launched ++ [⟨0x946, a.htick⟩] ∧ u.reports = a.reports ++ [⟨0x401, 3, a.htick⟩]
        ∧ (∀ k : Nat, k ≠ 0x2010 → k ≠ 0x2014 → u.rd k = a.rd k)
        ∧ { u with mains := m, regs := a.regs, tickSet := a.tickSet, tickInc := a.tickInc, launched := a.launched, reports := a.reports } = a)

/-- R205 to R209, R211. The staging registers, the index and the status are each path's own. An alarm written enabled at a position
that has already passed is missed: no event, enable cleared, its PHS_ALM_MISS bit, alm_missed and a report. -/
def Obligations.AlarmsFireAndAreWritten : Prop :=
  ∀ (s a : State) (dt : Elapse), s.advance dt = a → a.calm →
    (∀ i : Fin 4096, Tbl.get none a.almOld i = none →
      (bit (a.alarm i).cfg 0 = true → bits (a.alarm i).cfg 1 2 = 2 → bit (a.alarm i).cfg 3 = false → a.htick = (a.alarm i).val →
        ∃ u : State, exec (.alarmFire dt i) s = .next u.settle
          ∧ u.alarm i = { a.alarm i with cfg := clrBit (a.alarm i).cfg 0, fires := ((a.alarm i).fires + 1) % 65536 }
          ∧ u.launched = (if a.launched.contains ⟨0x900 + bits (a.alarm i).cfg 4 6, a.htick⟩ then a.launched
                          else a.launched ++ [⟨0x900 + bits (a.alarm i).cfg 4 6, a.htick⟩])
          ∧ (∀ j : Nat, j ≠ i.val → u.alarm j = a.alarm j) ∧ { u with alarms := a.alarms, launched := a.launched } = a) ∧
      ((bit (a.alarm i).cfg 0 = false ∨ (bits (a.alarm i).cfg 1 2 = 0 ∧ a.mach.st.usable = false) ∨ (bits (a.alarm i).cfg 1 2 = 1 ∧ a.mains.st.usable = false)) →
        exec (.alarmFire dt i) s = .next (State.settle a))) ∧
    (∀ p : Path, a.committed = true →
      let i := bits (a.rd (pkey p 0x2100)) 0 12
      let e : Alarm := { cfg := a.rd (pkey p 0x2104), val := a.rd (pkey p 0x210C) ++ a.rd (pkey p 0x2108), per := a.rd (pkey p 0x2110) }
      (∃ u : State, exec (.almWrite dt p) s = .next u.settle ∧ u.replies = Tbl.put a.replies (Path.idx p) ⟨0, 0#32⟩
        ∧ (∀ j : Nat, j ≠ i → u.alarm j = a.alarm j)
        ∧ ((bit e.cfg 0 = false ∨ bit e.cfg 3 = true ∨ a.almPassed e = false) → u.alarm i = e ∧ u.regs = a.regs ∧ u.reports = a.reports)
        ∧ (bit e.cfg 0 = true → bit e.cfg 3 = false → a.almPassed e = true →
            u.alarm i = { e with cfg := clrBit e.cfg 0, missed := true } ∧ bit (u.rd (0x2200 + 4 * (i / 32))) (i % 32) = true
            ∧ bit (u.rd 0x2010) 10 = true ∧ u.reports = a.reports ++ [⟨0x401, 10, a.htick⟩])
        ∧ u.launched = a.launched) ∧
      (∃ u : State, exec (.almRead dt p) s = .next u.settle ∧ u.replies = Tbl.put a.replies (Path.idx p) ⟨0, 0#32⟩ ∧ u.alarms = a.alarms
        ∧ u.rd (pkey p 0x2104) = (a.alarm i).cfg ∧ u.rd (pkey p 0x210C) ++ u.rd (pkey p 0x2108) = (a.alarm i).val
        ∧ u.rd (pkey p 0x2110) = (a.alarm i).per ∧ u.rf (pkey p 0x2118) 16 16 = (a.alarm i).fires % 65536
        ∧ bit (u.rd (pkey p 0x2118)) 0 = bit (a.alarm i).cfg 0 ∧ bit (u.rd (pkey p 0x2118)) 1 = (a.alarm i).missed) ∧
      (∃ u : State, exec (.almDisable dt p) s = .next u.settle ∧ u.replies = Tbl.put a.replies (Path.idx p) ⟨0, 0#32⟩
        ∧ u.alarm i = { a.alarm i with cfg := clrBit (a.alarm i).cfg 0 } ∧ (∀ j : Nat, j ≠ i → u.alarm j = a.alarm j) ∧ u.regs = a.regs))

/-- The context commands (R168). `armRefusal` is the table of refuse codes that ARM checks at once, `recRefusal` those of its records;
`ctxValue` is the value of R166. A refused command sets cmd_refused, loads the code and leaves the state as it is. (`rc i` is the step record of step i, `free i` says that the time domain of its profile is usable, R181.) -/
def Obligations.SweepContextCommands : Prop :=
  ∀ (s a : State) (dt : Elapse) (c : Fin 32), s.advance dt = a → a.calm → a.committed = true →
    let cfg := a.rd (ctxA c 0)
    let n := a.ctxFwd c
    let rc := fun i : Nat => a.stepRec (a.ctxFirst c + (if bits cfg 0 2 = 0 then (if i < n then i else 2 * n - 2 - i) else 0))
    let free := fun i : Nat => ∀ d, kindDomain (a.rf (SWP + 0x100 + 8 * bits (rc i).2 0 4) 0 2) = some d → a.domUsable d = true
    let x := a.ctx c
    let refused := fun (i : Instr) (code : Nat) =>
      ∃ u : State, exec i s = .next u.settle ∧ bit (u.rd (ctxA c 0x34)) 0 = true ∧ u.rf (ctxA c 0x30) 8 8 = code
        ∧ (∀ k : Nat, k ≠ ctxA c 0x34 → k ≠ ctxA c 0x30 → u.rd k = a.rd k) ∧ { u with regs := a.regs, tickSet := a.tickSet } = a
    let others := fun u : State => (∀ y : Nat, y ≠ c.val → u.ctx y = a.ctx y)
      ∧ (∀ m o : Nat, m < 128 → m ∉ a.ctxGang c → o < 0x1000 → u.rd (chA m o) = a.rd (chA m o))
    (a.armRefusal c = 0 →
      ∃ u : State, exec (.swpArm dt c) s = .next u.settle ∧ u.ctx c = { x with st := .checking, since := a.htick, phase := .none }
        ∧ (∀ y : Nat, y ≠ c.val → u.ctx y = a.ctx y) ∧ { u with ctxs := a.ctxs } = a) ∧
    (x.st ≠ .idle → refused (.swpArm dt c) 0x01) ∧
    (x.st = .idle → a.unitFenced 0x420 = false → a.wingMode (a.ctxWing c) ≠ 3 → refused (.swpArm dt c) 0x02) ∧
    (x.st = .checking → a.recRefusal c = 0 → x.t = none → a.owner a.resBank = 2 → (a.bank a.resBank).withdrawn = false →
      a.borrow = none → a.ctxFirst c + a.ctxTags c ≤ 32768 →
      ∃ u : State, exec (.swpCheckDone dt c) s = .next u.settle ∧ u.ctx c = { x with st := .armed }
        ∧ (∀ t : Nat, a.ctxFirst c ≤ t → t < a.ctxFirst c + a.ctxTags c → bits (u.panWord a.resBank (2 * t + 1)) 32 8 = 0)
        ∧ u.regs = a.regs ∧ (∀ y : Nat, y ≠ c.val → u.ctx y = a.ctx y)) ∧
    (x.st = .checking → a.recRefusal c ≠ 0 →
      ∃ u : State, exec (.swpCheckDone dt c) s = .next u.settle ∧ u.ctx c = { x with st := .idle } ∧ bit (u.rd (ctxA c 0x34)) 0 = true
        ∧ u.rf (ctxA c 0x30) 8 8 = a.recRefusal c ∧ u.pan = a.pan) ∧
    (x.st = .armed → a.wingMode (a.ctxWing c) = 3 → free 0 →
      ∃ u : State, exec (.swpStart dt c) s = .next u.settle
        ∧ (u.ctx c).st = .running ∧ (u.ctx c).phase = .dwell ∧ (u.ctx c).step = 0 ∧ (u.ctx c).w = a.htick
        ∧ (u.ctx c).d = a.htick + BitVec.ofNat 64 (toEdge a.htick) ∧ (u.ctx c).run = 1 ∧ (u.ctx c).t = none
        ∧ (∀ m ∈ a.ctxGang c, u.rd (chA m 0x108) = a.ctxValue c 0 ((a.stepRec (a.ctxFirst c)).1.setWidth 32)
            ∧ u.rd (chA m 0x114) = a.rd (ctxA c 0x14)) ∧ others u) ∧
    (x.st ≠ .armed → refused (.swpStart dt c) 0x01) ∧
    (x.st = .running → x.phase ≠ .wait → x.phase ≠ .off →
      ∃ u : State, exec (.swpPause dt c) s = .next u.settle ∧ u.ctx c = { x with pauseReq := true } ∧ { u with ctxs := a.ctxs } = a
        ∧ (∀ y : Nat, y ≠ c.val → u.ctx y = a.ctx y)) ∧
    (x.st = .running → (x.phase = .wait ∨ x.phase = .off) →
      ∃ u : State, exec (.swpPause dt c) s = .next u.settle ∧ (u.ctx c).st = .paused ∧ (u.ctx c).pHost = true ∧ (u.ctx c).since = a.htick
        ∧ bit (u.rd (ctxA c 0x34)) 8 = true ∧ u.rf (ctxA c 0x3C) 16 8 = min (a.rf (ctxA c 0x3C) 16 8 + 1) 255 ∧ others u) ∧
    (x.st ≠ .running → refused (.swpPause dt c) 0x01) ∧
    (x.st = .paused → x.pTb = none → x.pTrg = false → a.wingMode (a.ctxWing c) = 3 → free x.resume →
      ∃ u : State, exec (.swpResume dt c) s = .next u.settle ∧ (u.ctx c).st = .running ∧ (u.ctx c).step = x.resume ∧ (u.ctx c).w = a.htick
        ∧ (u.ctx c).pHost = false ∧ others u) ∧
    (x.st = .paused → (x.pTb ≠ none ∨ x.pTrg = true) → refused (.swpResume dt c) 0x0B) ∧
    (x.st = .armed ∨ x.st = .done ∨ x.st = .aborted →
      ∃ u : State, exec (.swpRelease dt c) s = .next u.settle ∧ u.ctx c = { x with st := .idle, phase := .none } ∧ { u with ctxs := a.ctxs } = a
        ∧ (∀ y : Nat, y ≠ c.val → u.ctx y = a.ctx y)) ∧
    (x.st = .running ∨ x.st = .paused ∨ x.st = .armed →
      ∃ u : State, exec (.swpAbort dt c) s = .next u.settle ∧ (u.ctx c).st = .aborted ∧ u.rf (ctxA c 0x30) 16 8 = 0x01
        ∧ u.launched.contains ⟨0xA00 + 8 * c.val + 4, a.htick⟩ = true
        ∧ (x.st ≠ .armed → ∀ m ∈ a.ctxGang c,
            u.rd (chA m 0x108) = (if bit cfg 7 then 0#32 else if bit cfg 3 then a.rd (ctxA c 0x10) else x.v0)
            ∧ u.rd (chA m 0x114) = a.rd (ctxA c 0x18) ∧ bits (u.rd (chA m 0x200)) 0 2 = 3)
        ∧ (x.st = .armed → ∀ m o : Nat, m < 128 → o < 0x1000 → u.rd (chA m o) = a.rd (chA m o)) ∧ others u)

/-- The life of a step (R159, R170 to R172) and the starts by tick and by event (R174). An event at ti_swp_step that finds no waiting
context is ignored, flagged and counted. (`rc i` is the step record of step i, `free i` says that the time domain of its profile is usable, R181.) -/
def Obligations.SweepStepsInTime : Prop :=
  ∀ (s a : State) (dt : Elapse) (c : Fin 32), s.advance dt = a → a.calm →
    let cfg := a.rd (ctxA c 0)
    let n := a.ctxFwd c
    let rc := fun i : Nat => a.stepRec (a.ctxFirst c + (if bits cfg 0 2 = 0 then (if i < n then i else 2 * n - 2 - i) else 0))
    let free := fun i : Nat => ∀ d, kindDomain (a.rf (SWP + 0x100 + 8 * bits (rc i).2 0 4) 0 2) = some d → a.domUsable d = true
    let x := a.ctx c
    let tail := a.ctxFirst c + x.step
    let running := fun (i : Instr) (k : Nat) =>
      ∃ u : State, exec i s = .next u.settle ∧ (u.ctx c).st = .running ∧ (u.ctx c).phase = .dwell ∧ (u.ctx c).step = k ∧ (u.ctx c).w = a.htick
        ∧ (u.ctx c).d = a.htick + BitVec.ofNat 64 (toEdge a.htick)
        ∧ (∀ m ∈ a.ctxGang c, u.rd (chA m 0x114) = a.rd (ctxA c 0x14)) ∧ (∀ y : Nat, y ≠ c.val → u.ctx y = a.ctx y)
        ∧ (∀ m o : Nat, m < 128 → m ∉ a.ctxGang c → o < 0x1000 → u.rd (chA m o) = a.rd (chA m o))
    (x.st = .running → x.phase = .dwell → x.kind ≠ 3 → (a.htick - x.ed).toNat < 2 ^ 63 →
      ∃ u : State, exec (.dwellEnd dt c) s = .next u.settle ∧ (u.ctx c).phase = .aper ∧ (u.ctx c).st = .running ∧ (u.ctx c).step = x.step
        ∧ u.launched = a.launched ++ [⟨0xA00 + 8 * c.val, a.htick⟩] ∧ (∀ y : Nat, y ≠ c.val → u.ctx y = a.ctx y)
        ∧ { u with ctxs := a.ctxs, launched := a.launched } = a) ∧
    (x.st = .running → x.phase = .dwell → x.kind = 3 → (a.htick - x.ed).toNat < 2 ^ 63 → x.masked = false → x.flags / 4 % 2 = 0 →
      a.owner a.resBank = 2 → (a.bank a.resBank).withdrawn = false → a.borrow = none → tail < 32768 → a.stepBank ≠ a.resBank →
      (x.flags / 8 % 2 = 1 ∨ a.ctxTags c ≤ x.step + 1 →
        ∃ u : State, exec (.stepEnd dt c) s = .next u.settle ∧ u.ctx c = { x with st := .done, phase := .none, pauseReq := false }
          ∧ u.panWord a.resBank (2 * tail) = x.d
          ∧ u.panWord a.resBank (2 * tail + 1) = BitVec.ofNat 64 (x.setpt.toNat + 2 ^ 32 * 2 + 2 ^ 40 * (b2n x.leg + 2 * x.run))
          ∧ u.launched = a.launched ++ [⟨0xA00 + 8 * c.val + 3, a.htick⟩] ∧ u.regs = a.regs) ∧
      (x.flags / 8 % 2 = 0 → x.step + 1 < a.ctxTags c → x.pauseReq = false → bit cfg 3 = false → bit cfg 6 = false → free (x.step + 1) →
        running (.stepEnd dt c) (x.step + 1))) ∧
    (x.st = .running → x.phase = .off → (a.htick - x.endAt).toNat < 2 ^ 63 → bit cfg 6 = false → free x.resume →
      running (.offPhaseEnd dt c) x.resume) ∧
    (x.st = .running → x.phase = .off → (a.htick - x.endAt).toNat < 2 ^ 63 → bit cfg 6 = true →
      ∃ u : State, exec (.offPhaseEnd dt c) s = .next u.settle ∧ u.ctx c = { x with phase := .wait, since := a.htick, tmo := a.rf (ctxA c 0x20) 0 24 }
        ∧ (∀ y : Nat, y ≠ c.val → u.ctx y = a.ctx y) ∧ { u with ctxs := a.ctxs } = a) ∧
    (∀ i : Instr, x.st = .armed →
      (i = .tiSwpStart dt c ∧ bits cfg 4 2 = 1) ∨ (i = .startTickReached dt c ∧ bits cfg 4 2 = 2 ∧ a.mach.st.usable = true
        ∧ ∃ t, x.t = some t ∧ (a.mach.tick - t).toNat < 2 ^ 47) →
      (a.wingMode (a.ctxWing c) = 3 → free 0 → running i 0) ∧
      (a.wingMode (a.ctxWing c) ≠ 3 →
        ∃ u : State, exec i s = .next u.settle ∧ u.ctx c = { x with t := none } ∧ bit (u.rd (ctxA c 0x34)) 2 = true
          ∧ (∀ k : Nat, k ≠ ctxA c 0x34 → u.rd k = a.rd k) ∧ (∀ y : Nat, y ≠ c.val → u.ctx y = a.ctx y))) ∧
    (x.st = .running → x.phase = .wait → free x.resume → running (.tiSwpStep dt c) x.resume) ∧
    (x.st ≠ .paused → x.phase ≠ .wait →
      ∃ u : State, exec (.tiSwpStep dt c) s = .next u.settle ∧ bit (u.rd (ctxA c 0x34)) 4 = true
        ∧ u.rf (ctxA c 0x3C) 0 16 = min (a.rf (ctxA c 0x3C) 0 16 + 1) 65535
        ∧ (∀ k : Nat, k ≠ ctxA c 0x34 → k ≠ ctxA c 0x3C → u.rd k = a.rd k)
        ∧ { u with regs := a.regs, tickSet := a.tickSet, tickInc := a.tickInc, hwyTi := a.hwyTi } = a)

/-- Aborts (R177, R178), the limit of a pause (R182), the trigger-loss timer (R184), and the window into the step bank (R160). The fence
clause takes a Stairwell with one context in use. -/
def Obligations.SweepAbortsPausesAndWindow : Prop :=
  ∀ (s a : State) (dt : Elapse) (c : Fin 32), s.advance dt = a → a.calm →
    let cfg := a.rd (ctxA c 0)
    let x := a.ctx c
    let aborts := fun (i : Instr) (code : Nat) =>
      ∃ u : State, exec i s = .next u.settle ∧ (u.ctx c).st = .aborted ∧ u.rf (ctxA c 0x30) 16 8 = code
        ∧ u.launched.contains ⟨0xA00 + 8 * c.val + 4, a.htick⟩ = true
        ∧ (∀ m ∈ a.ctxGang c,
            u.rd (chA m 0x108) = (if bit cfg 7 then 0#32 else if bit cfg 3 then a.rd (ctxA c 0x10) else x.v0)
            ∧ u.rd (chA m 0x114) = a.rd (ctxA c 0x18) ∧ bits (u.rd (chA m 0x200)) 0 2 = 3)
        ∧ (∀ y : Nat, y ≠ c.val → u.ctx y = a.ctx y)
        ∧ (∀ m o : Nat, m < 128 → m ∉ a.ctxGang c → o < 0x1000 → u.rd (chA m o) = a.rd (chA m o)) ∧ u.ctl = a.ctl
    (x.st = .paused ∨ (x.st = .running ∧ (x.flags / 2 % 2 = 0 ∨ x.phase = .wait ∨ x.phase = .off)) → aborts (.tiSwpAbort dt c) 0x02) ∧
    (x.st = .running → (x.phase = .dwell ∨ x.phase = .aper) → x.flags / 2 % 2 = 1 →
      ∃ u : State, exec (.tiSwpAbort dt c) s = .next u.settle ∧ u.ctx c = { x with masked := true } ∧ bit (u.rd (ctxA c 0x34)) 7 = true
        ∧ u.rf (ctxA c 0x3C) 24 8 = min (a.rf (ctxA c 0x3C) 24 8 + 1) 255
        ∧ (∀ k : Nat, k ≠ ctxA c 0x34 → k ≠ ctxA c 0x3C → u.rd k = a.rd k) ∧ (∀ y : Nat, y ≠ c.val → u.ctx y = a.ctx y)
        ∧ { u with ctxs := a.ctxs, regs := a.regs, tickSet := a.tickSet, tickInc := a.tickInc, hwyTi := a.hwyTi } = a) ∧
    (x.st = .running ∨ x.st = .paused → aborts (.tiSwpBrk dt c) 0x03) ∧
    (x.st = .paused → a.rf (ctxA c 0x1C) 24 8 ≠ 0 → 500000000 * a.rf (ctxA c 0x1C) 24 8 ≤ (a.htick - x.since).toNat →
      aborts (.pauseMaxExpired dt c) 0x07) ∧
    (x.st = .running ∨ x.st = .paused → a.ctxs = [(c.val, x)] → aborts (.stairwellFence dt) 0x08) ∧
    (x.st = .running → x.phase = .wait → x.tmo ≠ 0 → 500 * x.tmo ≤ (a.htick - x.since).toNat →
      ∃ u : State, exec (.trgTmoExpired dt c) s = .next u.settle ∧ (u.ctx c).st = .paused ∧ (u.ctx c).pTrg = true ∧ (u.ctx c).resume = x.step
        ∧ bit (u.rd (ctxA c 0x34)) 5 = true ∧ bit (u.rd 0xE010) 1 = true ∧ u.reports = a.reports ++ [⟨0x420, 1, a.htick⟩]
        ∧ u.rf (ctxA c 0x3C) 16 8 = min (a.rf (ctxA c 0x3C) 16 8 + 1) 255
        ∧ (∀ y : Nat, y ≠ c.val → u.ctx y = a.ctx y)
        ∧ (∀ k : Nat, k ≠ ctxA c 0x34 → k ≠ ctxA c 0x3C → k ≠ 0xE010 → u.rd k = a.rd k)) ∧
    (∀ (p : Path) (i : BitVec 16) (v lo : Word) (e : Ecc), a.committed = true → a.stepBank < 64 → a.stepBank ≠ a.resBank →
      a.owner a.stepBank = 2 → a.fullOn a.stepBank = false → (a.bank a.stepBank).withdrawn = false → a.borrow = none →
      a.wrHeld (pkey p (panAddr a.stepBank i.toNat)) = some lo →
      (a.tagCtx (i.toNat / 2) = some c.val → x.st.active = true →
        ∃ u : State, exec (.stepBankWindowWrite dt p (Fin.ofNat 64 a.stepBank) i v e) s = .next u.settle ∧ u.pan = a.pan
          ∧ u.replies = Tbl.put a.replies (Path.idx p) ⟨2, 0#32⟩ ∧ bit (u.rd 0xE010) 0 = true ∧ u.ctxs = a.ctxs) ∧
      (a.tagCtx (i.toNat / 2) = none →
        ∃ u : State, exec (.stepBankWindowWrite dt p (Fin.ofNat 64 a.stepBank) i v e) s = .next u.settle
          ∧ u.panWord a.stepBank i.toNat = v ++ lo ∧ u.replies = Tbl.put a.replies (Path.idx p) ⟨0, 0#32⟩ ∧ u.regs = a.regs ∧ u.ctxs = a.ctxs))

/-- Trips (R225, R227), releases (R229), the power-up state (R231), the host clear (R230) and the readback command (R236). A disabled
comparator never trips (R217). `cmp c` is comparator c of the channel; `latched` its latch, `filt` says that it is not released. -/
def Obligations.MonitorTripsAndReleases : Prop :=
  ∀ (s a : State) (dt : Elapse) (n : Fin 128) (c : Fin 4), s.advance dt = a → a.calm →
    let k := (a.mo n).cmp c
    let on := bit (a.act (chA n (0x500 + 4 * c.val))) 0
    let others := fun u : State => ∀ m : Nat, m ≠ n.val → u.mo m = a.mo m ∧ u.ch m = a.ch m
    let count := fun u : State => u.rf (chA n 0x538) (8 * c.val) 8 = min (a.rf (chA n 0x538) (8 * c.val) 8 + 1) 255
    (c.val < 2 → on = true → bit a.supplyOut 3 = false → k.noDesc = false → k.latched = false → Tbl.get none a.snaps n = none →
      ∃ u : State, exec (.guardTrip dt n c) s = .next u.settle
        ∧ u.mo n = (a.mo n).setCmp c { k with raw := true, filt := true, latched := true, tripAt := none } ∧ count u
        ∧ u.launched.contains ⟨16 * n.val + 13, a.htick⟩ = true ∧ u.reports.contains ⟨n.val, 2, a.htick⟩ = true
        ∧ bit (u.rd (chA n 0x00C)) 2 = true
        ∧ ((a.ch n).st.live = true → (u.ch n).st = .quenched ∧ (u.ch n).cause = 0x12 ∧ (u.ch n).prev = (a.ch n).st)
        ∧ ((a.ch n).st.live = false → (u.ch n).st = (a.ch n).st ∧ (u.ch n).cause = (a.ch n).cause) ∧ others u) ∧
    (2 ≤ c.val → on = true → bit a.supplyOut 3 = false → a.settling n c = false → k.noDesc = false → k.latched = false →
      a.rf (chA n 0x004) 4 2 = 0 →
      ∃ u : State, exec (.watchTrip dt n c) s = .next u.settle
        ∧ u.mo n = (a.mo n).setCmp c { k with raw := true, filt := true, latched := true, tripAt := none } ∧ count u
        ∧ u.launched = a.launched ++ [⟨16 * n.val + 14, a.htick⟩]
        ∧ u.reports = (if bit (a.act (chA n 0x530)) 1 then a.reports ++ [⟨n.val, 128 + c.val, a.htick⟩] else a.reports)
        ∧ (∀ j : Nat, j ≠ chA n 0x538 → u.rd j = a.rd j) ∧ u.ctl = a.ctl ∧ others u) ∧
    (on = false → exec (.guardTrip dt n c) s = .next (State.settle a) ∧ exec (.watchTrip dt n c) s = .next (State.settle a)) ∧
    (on = true → k.puPending = false → bit a.supplyOut 3 = false → (c.val < 2 ∨ a.settling n c = false) →
      ∃ u : State, exec (.comparatorRelease dt n c) s = .next u.settle ∧ u.mo n = (a.mo n).setCmp c { k with raw := false, filt := false }
        ∧ others u ∧ { u with mon := a.mon } = a) ∧
    (k.puPending = true → k.noDesc = false → bit a.supplyOut 3 = false →
      ∃ u : State, exec (.puRelease dt n c) s = .next u.settle
        ∧ u.mo n = (a.mo n).setCmp c { k with raw := false, filt := false, latched := false, puPending := false }
        ∧ others u ∧ { u with mon := a.mon } = a) ∧
    (∀ (p : Path) (v : Word) (tr : BitVec 2), a.committed = true → bit v c.val = true → k.latched = true → k.puPending = false → k.noDesc = false →
      (k.filt = false → bit tr c.val = false →
        ∃ u : State, exec (.latchHostClear dt p n v tr) s = .next u.settle ∧ ((u.mo n).cmp c).latched = false
          ∧ u.rf (chA n 0x538) (8 * c.val) 8 = a.rf (chA n 0x538) (8 * c.val) 8) ∧
      (k.filt = false → bit tr c.val = true → v = 1#32 <<< c.val →
        ∃ u : State, exec (.latchHostClear dt p n v tr) s = .next u.settle ∧ ((u.mo n).cmp c).latched = true ∧ count u
          ∧ u.launched = a.launched ++ [⟨16 * n.val + 13, a.htick⟩] ∧ u.reports = a.reports ++ [⟨n.val, 2, a.htick⟩]) ∧
      (k.filt = true → k.tripAt = none →
        ∃ u : State, exec (.latchHostClear dt p n v tr) s = .next u.settle ∧ ((u.mo n).cmp c).latched = true
          ∧ u.rf (chA n 0x538) (8 * c.val) 8 = a.rf (chA n 0x538) (8 * c.val) 8)) ∧
    (a.committed = true →
      ∃ u : State, exec (.rbNow dt n) s = .next u.settle ∧ (∀ j : Nat, j < 4 → (u.mo n).cmp j = { (a.mo n).cmp j with rbDue := true })
        ∧ others u ∧ { u with mon := a.mon } = a)

/-- Requests (R252), the temperature trigger (R253), the start of a full run with its preconditions (R254), the reload of the constant
cache (R263), and the conversions of the REFADC (R244 to R247). `calNextCh` is the next channel with a request after the one served
last; `adcUse` is the use of a slot (R245); `calChoose` the choice of R263. -/
def Obligations.CalibrationRequestsAndStarts : Prop :=
  ∀ (s a : State) (dt : Elapse) (n : Fin 128), s.advance dt = a → a.calm →
    let others := fun u : State => ∀ k : Nat, k ≠ calPendReg n → u.rd k = a.rd k
    (a.committed = true →
      (∃ u : State, exec (.calFullRunRequest dt n) s = .next u.settle ∧ bit (u.rd (calPendReg n)) (n % 32) = true ∧ others u
        ∧ ((∀ t, Tbl.get none a.cal.pend n ≠ some (1, t)) → Tbl.get none u.cal.pend n = some (1, false))
        ∧ u.cal = { a.cal with pend := u.cal.pend } ∧ { u with cal := a.cal, regs := a.regs } = a) ∧
      (∃ u : State, exec (.calGainRunRequest dt n) s = .next u.settle ∧ bit (u.rd (calPendReg n)) (n % 32) = true ∧ others u
        ∧ Tbl.get none u.cal.pend n = (match Tbl.get none a.cal.pend n with
            | some (1, t) => some (1, t)
            | _ => some (2, false))
        ∧ u.cal = { a.cal with pend := u.cal.pend } ∧ { u with cal := a.cal, regs := a.regs } = a) ∧
      exec (.calReload dt n) s = .next (State.settle { a with cal := { a.cal with cache := Tbl.put a.cal.cache n (a.calChoose n) } })) ∧
    (∀ i : Instr, (i = .calRunStart dt ∧ a.rb CAL 2 = false) ∨ (i = .tiCalGo dt ∧ a.rb CAL 2 = true) → a.unitFenced 0x402 = false →
      a.calNextCh = some n.val → ∀ t : Bool, Tbl.get none a.cal.pend n = some (1, t) → (a.lk n).calRsp = none →
      (a.wingMode (n / 16) = 4 → (a.lk n).st = .up → 100 * a.tempSpan n ≤ 128 * a.rf (CAL + 0x0C) 0 8 → a.rb (CAL + 0x24) 1 = false →
        (∀ r : Nat, r < 8 → a.declV n r = true → a.vrec n r 27 1 % 2 = 1) → (∀ r : Nat, r < 16 → a.declI n r = true → a.irec n r 27 1 % 2 = 1) →
        (a.ch n).st = .quenched →
        ∃ u : State, exec i s = .next u.settle ∧ u.cal.step = .senseS ∧ u.cal.ch = n.val ∧ u.cal.kind = 1 ∧ u.cal.start = a.htick
          ∧ u.cal.todo = a.calSets n ∧ Tbl.get none u.cal.pend n = none ∧ bit (u.rd (calPendReg n)) (n % 32) = false ∧ others u ∧ u.ctl = a.ctl) ∧
      (a.wingMode (n / 16) = 4 → (a.ch n).st ≠ .quenched →
        ∃ u : State, exec i s = .next u.settle ∧ u.cal.step = .idle ∧ u.rf (CAL + 0x20) 16 8 = 0x03 ∧ u.rf (chA n 0xB00) 8 8 = 0x03
          ∧ bit (u.rd (CAL + 0x24)) 0 = true ∧ u.reports = a.reports ++ [⟨0x402, 0, a.htick⟩] ∧ u.launched = a.launched ++ [⟨0xB01, a.htick⟩]
          ∧ Tbl.get none u.cal.pend n = none ∧ u.ctl = a.ctl)) ∧
    (a.rb CAL 2 = true → a.calNextCh = none →
      ∃ u : State, exec (.tiCalGo dt) s = .next u.settle ∧ u.rf (CAL + 0x28) 0 16 = min (a.rf (CAL + 0x28) 0 16 + 1) 65535 ∧ u.cal = a.cal
        ∧ (∀ k : Nat, k ≠ CAL + 0x28 → u.rd k = a.rd k)) ∧
    (a.htick.toNat % 500000000 = 0 → (a.cc n).tN ≠ 0 → (a.ch n).headReady = true → ((a.cc n).src = 3 ∨ (a.cc n).src = 4) →
      bit (a.rd (chA n 0xB0C)) 1 = false →
      F64.lt (F64.ofFrac (a.rf (CAL + 0x04) 0 10) 100)
        (F64.abs (F64.sub (F64.div (F64.ofInt (a.cc n).tSum) (F64.ofInt (128 * (a.cc n).tN : Nat))) (F64.of32 (a.rd (chA n 0xB04))))) = true →
      ∃ u : State, exec (.temperatureTrigger dt) s = .next u.settle ∧ bit (u.rd (calDueReg n)) (n % 32) = true
        ∧ u.launched.contains ⟨0xB02, a.htick⟩ = true ∧ (u.cc n).tN = 0 ∧ u.ctl = a.ctl) ∧
    (a.htick.toNat % 500000000 ≠ 0 → exec (.temperatureTrigger dt) s = .next (State.settle a)) ∧
    (∀ x : Conv, let m := (a.htick.toNat - 16) / 5000 - 1
      5016 ≤ a.htick.toNat → a.cal.adcNext ≤ m →
      (x.overload = true →
        ∃ u : State, exec (.refadcConversion dt x) s = .next u.settle ∧ u.cal = { a.cal with adcNext := m + 1 } ∧ bit (u.rd (CAL + 0x24)) 3 = true
          ∧ u.reports = a.reports ++ [⟨0x422, 3, a.htick⟩] ∧ (∀ k : Nat, k ≠ CAL + 0x24 → u.rd k = a.rd k)
          ∧ { u with cal := a.cal, regs := a.regs, tickSet := a.tickSet, reports := a.reports } = a) ∧
      (x.overload = false → m % 10 = 9 → a.dirService = true → a.rb (CAL + 0x60) 6 = true →
        ∃ u : State, exec (.refadcConversion dt x) s = .next u.settle ∧ u.cal = { a.cal with adcNext := m + 1 }
          ∧ u.rf (CAL + 0x64) 0 24 = x.code.toNat ∧ (∀ k : Nat, k ≠ CAL + 0x64 → u.rd k = a.rd k)
          ∧ { u with cal := a.cal, regs := a.regs } = a) ∧
      (x.overload = false → m % 10 = 8 → m / 10 % 10 = 0 → m / 10 % 100 ≠ 50 →
        ∃ u : State, exec (.refadcConversion dt x) s = .next u.settle ∧ u.cal = { a.cal with adcNext := m + 1 } ∧ u.rd (CAL + 0x50) = F32.of64 x.value)) ∧
    (∀ x : Conv, a.htick.toNat < 5016 ∨ (a.htick.toNat - 16) / 5000 - 1 < a.cal.adcNext →
      exec (.refadcConversion dt x) s = .next (State.settle a))

/-- Aborts (R259, R260), the wait of settle_ms (R255), and the Cellar's answer to a save (R262). These statements start from states with a
run under way. That a save sends one request to the Cellar at once is the model's form (log 20). -/
def Obligations.CalibrationRunsEnd : Prop :=
  ∀ (s a : State) (dt : Elapse), s.advance dt = a → a.pwr.held = 0 → (a.lk a.cal.ch).calRsp = none →
    let n := a.cal.ch
    (∀ (i : Instr) (code : Nat), a.cel.results = [] → a.cal.step.measuring = true → n < 128 → Tbl.get none a.snaps n = none →
      (i = .calAbort dt ∧ code = 0x0B ∧ a.committed = true)
        ∨ (i = .routeAckTimeout dt ∧ code = 0x0E ∧ (a.cal.step = .isolate ∨ a.cal.step = .route ∨ a.cal.step = .injRoute)
            ∧ 5000000 ≤ (a.htick - a.cal.wait).toNat)
        ∨ (i = .calTmoExpired dt ∧ code = 0x01 ∧ 500000 * a.cal.tmoMs ≤ (a.htick - a.cal.start).toNat)
        ∨ (i = .calSequencerFence dt ∧ code = 0x0F) →
      ∃ u : State, exec i s = .next u.settle ∧ u.cal.step = .idle ∧ u.rf (CAL + 0x20) 16 8 = code ∧ u.rf (chA n 0xB00) 8 8 = code
        ∧ bit (u.rd (CAL + 0x24)) 0 = true ∧ u.reports.contains ⟨0x402, 0, a.htick⟩ = true ∧ u.launched.contains ⟨0xB01, a.htick⟩ = true
        ∧ u.rf (chA n 0xB10) 16 16 = min (a.rf (chA n 0xB10) 16 16 + 1) 65535
        ∧ (a.cal.kind = 1 → u.cal.dac = 0 ∧ ((a.ch n).st.live = true → (u.ch n).st = .quenched ∧ (u.ch n).cause = 0x10)
            ∧ u.rf (chA n 0x100) 0 2 = a.cal.modeReg % 4)
        ∧ (a.cal.kind ≠ 1 → (u.cc n).estNext = some (0, none) ∧ (u.cc n).release = true ∧ u.ctl = a.ctl)
        ∧ (∀ m o : Nat, m < 128 → 0x800 ≤ o → o < 0xB00 → u.rd (chA m o) = a.rd (chA m o) ∧ u.act (chA m o) = a.act (chA m o))
        ∧ (∀ m : Nat, m ≠ n → u.ch m = a.ch m)) ∧
    (a.cel.results = [] → a.cal.step = .idle → exec (.calAbort dt) s = .next (State.settle a)) ∧
    (a.cel.results = [] → a.cal.step = .settle → a.calBroken = none → 500000 * a.cal.settleMs ≤ (a.htick - a.cal.wait).toNat →
      ∃ u : State, exec (.calWaitExpiry dt) s = .next u.settle
        ∧ u.cal = { a.cal with step := .average, accT := 0#64, accTN := 0, accSlots := 0, accR := 0#64, accRN := 0 }
        ∧ { u with cal := a.cal } = a) ∧
    (∀ (r : CelRes) (v : Nat × Nat × Nat), a.cal.step = .idle → a.cel.results = [r] → r.who = 4 → a.cal.saves = [v] → v.1 = r.item →
      (r.ok = true →
        ∃ u : State, exec (.calStoreConfirmed dt) s = .next u.settle ∧ (u.cc v.1).src = 3 + v.2.1 ∧ u.rd (chA v.1 0xB08) = BitVec.ofNat 32 v.2.2
          ∧ u.cal.saves = [] ∧ u.cel.results = [] ∧ (∀ k : Nat, k ≠ chA v.1 0xB08 → u.rd k = a.rd k)) ∧
      (r.ok = false →
        ∃ u : State, exec (.calStoreConfirmed dt) s = .next u.settle ∧ bit (u.rd (CAL + 0x24)) 4 = true ∧ u.reports = a.reports ++ [⟨0x402, 4, a.htick⟩]
          ∧ u.cal.saves = [] ∧ u.cel.results = [] ∧ u.chcal = a.chcal)) ∧
    (∀ m : Fin 128, a.committed = true → a.cel.results = [] → a.cal.step = .idle → a.rb CAL 1 = true → a.unitFenced 0x402 = false → a.cal.saves = [] →
      a.cel.mount = 2 → a.cel.fenced = false →
      ∃ u : State, exec (.calSave dt m) s = .next u.settle ∧ u.cal.saves = [(m.val, a.calSlot m)] ∧ u.ctl = a.ctl
        ∧ (a.cel.cur ≠ none → (∃ r ∈ u.cel.queue, r.kind = .cal ∧ r.who = 4 ∧ r.item = m.val ∧ r.lblk = (a.calSlot m).1) ∧ u.regs = a.regs))

/-- R317. HRT_FIRST_SRC [21] `taken` says that a report has been taken since arming. For a pending report that gathered several arrivals the
first-error registers show the first of them and the last-error registers the last. The state of the queue is not in the hypotheses. -/
def Obligations.FirstAndLastErrorRegisters : Prop :=
  ∀ (s a : State) (dt : Elapse), s.advance dt = a → a.calm →
    (∀ (p : PendRep) (t : List PendRep), a.pendReps = p :: t → p.src < 2 ^ 11 → p.c1 < 2 ^ 8 → p.cN < 2 ^ 8 → p.cls < 4 →
      ∃ u : State, exec (.recordServe dt) s = .next u.settle
        ∧ u.pendReps = t
        ∧ (bit (a.rd 0x1060) 21 = false →
            u.rf 0x1060 0 11 = p.src ∧ u.rf 0x1060 11 8 = p.c1 ∧ u.rf 0x1060 19 2 = p.cls ∧ bit (u.rd 0x1060) 21 = true ∧ u.rd64 0x1064 = p.t1)
        ∧ (bit (a.rd 0x1060) 21 = true → u.rd 0x1060 = a.rd 0x1060 ∧ u.rd64 0x1064 = a.rd64 0x1064)
        ∧ u.rf 0x1070 0 11 = p.src ∧ u.rf 0x1070 11 8 = p.cN ∧ u.rf 0x1070 19 2 = p.cls ∧ u.rd64 0x1074 = p.tN) ∧
    (a.committed = true →
      ∃ u : State, exec (.hrtFirstArm dt) s = .next u.settle ∧ bit (u.rd 0x1060) 21 = false ∧ u.rd64 0x1064 = a.rd64 0x1064
        ∧ u.rf 0x1060 0 21 = a.rf 0x1060 0 21 ∧ (∀ k : Nat, k ≠ 0x1060 → u.rd k = a.rd k) ∧ { u with regs := a.regs } = a) ∧
    bit (State.reset.rd 0x1060) 21 = false

/-- R309 to R311 for a report that no other of its source shares the tick with and that is not waiting in the block's own outbox (log 3).
Also the end of a window (R310), the host's pop and clr_lost (R315, R327), and the vote (R305). -/
def Obligations.ReportsCountAndClassify : Prop :=
  ∀ (s a : State) (dt : Elapse), s.advance dt = a → a.calm →
    (∀ (k : BitVec 11) (cause : BitVec 8) (g : Nat), (∀ r ∈ a.reports, r.source ≠ k.toNat) → srcGroup k.toNat = some g →
      let x := a.src k.toNat
      let fresh : Bool := match x.win with
        | some t => decide (500 * x.cfg.w ≤ (a.htick - t).toNat)
        | none => true
      let count := if fresh then 1 else min (x.count + 1) 255
      let marks := fun u : State => (u.src k.toNat).occ = min (x.occ + 1) 65535 ∧ (u.src k.toNat).last = cause.toNat
        ∧ (u.src k.toNat).real = true ∧ (∀ m : Nat, m ≠ k.toNat → u.src m = a.src m)
      x.lastAt ≠ some a.htick → x.prev = none →
      (x.cfg.cls = 0 →
        ∃ u : State, exec (.errorLineReport dt k cause) s = .next u.settle ∧ marks u ∧ (u.src k.toNat).count = x.count ∧ (u.src k.toNat).grave = x.grave
          ∧ { u with srcs := a.srcs } = a) ∧
      (x.cfg.cls ≠ 0 → x.grave = false →
        (x.cfg.cls ≠ 3 → count < x.cfg.n →
          ∃ u : State, exec (.errorLineReport dt k cause) s = .next u.settle ∧ marks u ∧ (u.src k.toNat).count = count ∧ (u.src k.toNat).grave = false
            ∧ (u.src k.toNat).win = (if fresh then some a.htick else x.win) ∧ bit (u.rd 0x1000) g = true
            ∧ u.pendReps.any (fun q => q.src == k.toNat && q.tN == a.htick && q.cN == cause.toNat) = true
            ∧ (∀ j : Nat, j ∉ [0x1000, 0x1020, 0x1024] → u.rd j = a.rd j)
            ∧ u.fences = a.fences ∧ u.safeReqs = a.safeReqs ∧ u.launched = a.launched) ∧
        (x.cfg.cls = 3 ∨ x.cfg.n ≤ count →
          ∃ u : State, exec (.errorLineReport dt k cause) s = .next u.settle ∧ marks u ∧ (u.src k.toNat).count = count ∧ (u.src k.toNat).grave = true
            ∧ (u.src k.toNat).win = none ∧ bit (u.rd 0x1000) g = true ∧ u.launched = a.launched ++ [⟨0xB11, a.htick⟩]
            ∧ u.fences = (if 1 ≤ x.cfg.react ∧ srcFences k.toNat = true then a.fences ++ [k.toNat] else a.fences)
            ∧ (x.cfg.react < 2 → u.safeReqs = a.safeReqs) ∧ (2 ≤ x.cfg.react → u.safeReqs.length = a.safeReqs.length + 1)))) ∧
    (∀ (k : BitVec 11) (t : DWord), (a.src k.toNat).win = some t → 500 * (a.src k.toNat).cfg.w ≤ (a.htick - t).toNat →
      ∃ u : State, exec (.hearthWindowExpiry dt k) s = .next u.settle ∧ u.src k.toNat = { a.src k.toNat with win := none, count := 0 }
        ∧ (∀ m : Nat, m ≠ k.toNat → u.src m = a.src m) ∧ { u with srcs := a.srcs } = a) ∧
    (a.committed = true →
      (∀ (r : HrtRec) (t : List HrtRec), a.hrtQueue = r :: t → r.merged = none →
        exec (.hrtPop dt) s = .next (State.settle { a with hrtQueue := t })) ∧
      ((∀ e ∈ a.tickInc, e.key ≠ 0x1030) →
        ∃ u : State, exec (.hrtClrLost dt) s = .next u.settle ∧ u.rf 0x1030 16 16 = 0 ∧ u.rf 0x1030 0 16 = a.rf 0x1030 0 16
          ∧ (∀ k : Nat, k ≠ 0x1030 → u.rd k = a.rd k) ∧ { u with regs := a.regs } = a)) ∧
    (∃ u : State, exec (.tmrVote dt) s = .next u.settle ∧ bit (u.rd 0x1080) 0 = true ∧ u.reports = a.reports ++ [⟨0x425, 0, a.htick⟩]
        ∧ (∀ k : Nat, k ≠ 0x1080 → u.rd k = a.rd k) ∧ { u with regs := a.regs, tickSet := a.tickSet, reports := a.reports } = a)

/-- HRT_SRC_CMD (R322, R324, R327, R328), staged and answered on each path of its own. Injection is stated for a source of class 0, which
counts and does no more. -/
def Obligations.HearthSourceCommands : Prop :=
  ∀ (s a : State) (dt : Elapse) (p : Path), s.advance dt = a → a.calm → a.committed = true →
    let k := bits (a.rd (pkey p 0x1100)) 0 11
    let x := a.src k
    let others := fun u : State => ∀ m : Nat, m ≠ k → u.src m = a.src m
    let reply := fun (u : State) (st : Nat) => u.replies = Tbl.put a.replies (Path.idx p) ⟨st, 0#32⟩
    (∃ u : State, exec (.hrtSrcWriteCfg dt p) s = .next u.settle ∧ reply u 0
      ∧ (u.src k).cfg.cls = bits (a.rd (pkey p 0x1104)) 0 2 ∧ (u.src k).cfg.react = bits (a.rd (pkey p 0x1104)) 2 2
      ∧ (u.src k).cfg.n = bits (a.rd (pkey p 0x1104)) 8 8 ∧ (u.src k).cfg.injCause = bits (a.rd (pkey p 0x1104)) 16 8
      ∧ (u.src k).cfg.w = bits (a.rd (pkey p 0x1108)) 0 30 ∧ (u.src k).count = x.count ∧ (u.src k).win = x.win ∧ (u.src k).grave = x.grave
      ∧ others u ∧ { u with srcs := a.srcs, replies := a.replies } = a) ∧
    (∃ u : State, exec (.hrtSrcRead dt p) s = .next u.settle ∧ reply u 0 ∧ u.srcs = a.srcs
      ∧ (x.cfg.cls < 4 → x.cfg.react < 4 → x.cfg.n < 256 → x.cfg.injCause < 256 →
          u.rf (pkey p 0x1104) 0 2 = x.cfg.cls ∧ u.rf (pkey p 0x1104) 2 2 = x.cfg.react ∧ u.rf (pkey p 0x1104) 8 8 = x.cfg.n
          ∧ u.rf (pkey p 0x1104) 16 8 = x.cfg.injCause)
      ∧ (x.cfg.w < 2 ^ 30 → u.rf (pkey p 0x1108) 0 30 = x.cfg.w)
      ∧ (x.count < 256 → x.lost < 65536 → bit (u.rd (pkey p 0x110C)) 9 = x.grave ∧ bit (u.rd (pkey p 0x110C)) 10 = x.fenced
          ∧ bit (u.rd (pkey p 0x110C)) 12 = x.force ∧ u.rf (pkey p 0x110C) 16 16 = x.lost)
      ∧ (x.occ < 65536 → u.rf (pkey p 0x1110) 0 16 = x.occ)
      ∧ (∀ j : Nat, j ∉ [pkey p 0x1104, pkey p 0x1108, pkey p 0x110C, pkey p 0x1110] → u.rd j = a.rd j)) ∧
    (a.injOk k = true → x.cfg.cls = 0 → x.prev = none → x.lastAt ≠ some a.htick → srcGroup k ≠ none →
      ∃ u : State, exec (.forceSet dt p) s = .next u.settle ∧ reply u 0 ∧ (u.src k).force = true ∧ (u.src k).inj = true ∧ (u.src k).real = x.real
        ∧ (u.src k).occ = min (x.occ + 1) 65535 ∧ (u.src k).last = bits (a.rd (pkey p 0x1104)) 16 8
        ∧ others u ∧ { u with srcs := a.srcs, replies := a.replies } = a) ∧
    (a.injOk k = false → exec (.forceSet dt p) s = .next (State.settle { a with replies := Tbl.put a.replies (Path.idx p) ⟨2, 0#32⟩ })) ∧
    (∃ u : State, exec (.forceClear dt p) s = .next u.settle ∧ reply u 0 ∧ u.src k = { x with force := false } ∧ others u
      ∧ { u with srcs := a.srcs, replies := a.replies } = a) ∧
    (srcHostRelease k = true → k ≠ 0x421 →
      ∃ u : State, exec (.hostRelease dt p) s = .next u.settle ∧ reply u 0 ∧ u.src k = { x with grave := false, fenced := false, count := 0, win := none }
        ∧ u.fencedUnits = a.fencedUnits.filter (fun m => m != k) ∧ others u) ∧
    (srcHostRelease k = false → exec (.hostRelease dt p) s = .next (State.settle { a with replies := Tbl.put a.replies (Path.idx p) ⟨2, 0#32⟩ })) ∧
    (x.lastAt ≠ some a.htick →
      ∃ u : State, exec (.clearOccCount dt p) s = .next u.settle ∧ reply u 0 ∧ u.src k = { x with occ := 0, lost := 0, real := false, inj := false } ∧ others u
        ∧ { u with srcs := a.srcs, replies := a.replies } = a)

/-- The Cellar is stated at work with another operation (log 20), so that the request stays in its queue; without a mounted medium the
store fails with code 0x16. CFG_RESULT holds code, op and record index, CFG_FAIL_OFS the offset. -/
def Obligations.ConfigurationCommands : Prop :=
  ∀ (s a : State) (dt : Elapse), s.advance dt = a → a.calm →
    let a0 : State := { a with cfg := { a.cfg with hostImg := none } }
    let img := a.stageImage
    let result := fun (u : State) (op : Nat) (e : ImgErr) =>
      u.rd 0x400C = BitVec.ofNat 32 (e.code + 256 * op + 65536 * (e.idx % 65536)) ∧ u.rd 0x4010 = BitVec.ofNat 32 e.ofs
    let replied := fun (u : State) (p : Path) (st : Nat) => u.replies = Tbl.put a.replies (Path.idx p) ⟨st, 0#32⟩
    let refused := fun (u : State) (op : Nat) (e : ImgErr) => result u op e
      ∧ u.rf 0x4028 16 16 = min (a.rf 0x4028 16 16 + 1) 65535 ∧ u.launched = a.launched ++ [⟨0xB21, a.htick⟩]
      ∧ (∀ k : Nat, k ∉ [0x4004, 0x400C, 0x4010, 0x4028] → u.rd k = a.rd k)
    let asked := fun (u : State) (j : CfgJob) (r : CelReq) => u.cfg = { a0.cfg with job := some j } ∧ u.cel.queue = a.cel.queue ++ [{ r with id := a.cel.nextId }]
      ∧ u.cel.cur = a.cel.cur ∧ u.cel.nand = a.cel.nand ∧ u.regs = a.regs
    (∀ (p : Path), a.committed = true → a.cfgBusy = false → a.cfgFenced = false →
      (∀ m : Img, isOvl img = true → a0.ovlCheck img = .ok m → a0.ovlMeaning m 0 = 0 →
        ∃ u : State, exec (.cfgCheckStaging dt p) s = .next u.settle ∧ replied u p 0 ∧ result u 1 { code := 0 } ∧ u.cfg = a0.cfg
          ∧ (∀ k : Nat, k ≠ 0x400C → k ≠ 0x4010 → u.rd k = a.rd k) ∧ { u with regs := a.regs, cfg := a.cfg, replies := a.replies } = a) ∧
      (∀ (m : Img) (c : Nat), isOvl img = true → a0.ovlCheck img = .ok m → a0.ovlMeaning m 0 = c → c ≠ 0 → c ≠ 0x14 →
        ∃ u : State, exec (.cfgCheckStaging dt p) s = .next u.settle ∧ replied u p 0 ∧ refused u 1 { code := c } ∧ u.cfg = a0.cfg) ∧
      (∀ e : ImgErr, isOvl img = true → a0.ovlCheck img = .error e → e.code ≠ 0x14 →
        ∃ u : State, exec (.cfgCheckStaging dt p) s = .next u.settle ∧ replied u p 0 ∧ refused u 1 e ∧ u.cfg = a0.cfg) ∧
      (∀ m : Img, isOvl img = false → a0.fndCheck img = .ok m →
        ∃ u : State, exec (.cfgCheckStaging dt p) s = .next u.settle ∧ replied u p 0 ∧ result u 1 { code := 0 } ∧ u.cfg = a0.cfg) ∧
      (∀ e : ImgErr, isOvl img = false → a0.fndCheck img = .error e → e.code ≠ 0x14 →
        ∃ u : State, exec (.cfgCheckStaging dt p) s = .next u.settle ∧ replied u p 0 ∧ refused u 1 e ∧ u.cfg = a0.cfg) ∧
      (a.cel.mount = 2 → a.cel.fenced = false → a.cel.cur.isSome = true →
        (∀ (slot : BitVec 6) (m : Img), slot.toNat < 48 → a0.imgCheck true img = .ok m →
          ∃ u : State, exec (.cfgStoreSlot dt p slot) s = .next u.settle ∧ replied u p 0
            ∧ asked u ⟨4, 0, slot.toNat, img.take (fld img 8 4)⟩ { id := 0, kind := .unitStore, who := 1, region := 3, item := slot.toNat, data := img.take (fld img 8 4) }) ∧
        (∀ m : Img, a0.fndStoreCheck img = .ok m →
          ∃ u : State, exec (.cfgStoreFoundation dt p) s = .next u.settle ∧ replied u p 0
            ∧ asked u ⟨5, 0, a.freeSlot, img.take (fld img 8 4)⟩ { id := 0, kind := .unitStore, who := 1, region := 1, item := a.freeSlot, data := img.take (fld img 8 4) }) ∧
        (∀ (w : Fin 8) (slot : BitVec 6), slot.toNat < 48 →
          ∃ u : State, exec (.cfgApplySlot dt p w slot) s = .next u.settle ∧ replied u p 0
            ∧ asked u ⟨3, w.val, slot.toNat, []⟩ { id := 0, kind := .unitRead, who := 1, region := 3, item := slot.toNat })) ∧
      (∀ m : Img, a.cel.mount ≠ 2 → a.cel.fenced = false → a.cfg.wait = none → a0.fndStoreCheck img = .ok m →
        ∃ u : State, exec (.cfgStoreFoundation dt p) s = .next u.settle ∧ refused u 5 { code := 0x16 } ∧ bit (u.rd 0x4004) 6 = true ∧ u.cfg.job = none) ∧
      (a.anyService = true → a.kpr.loaded = true → a.kprFenced = false →
        ∃ u : State, exec (.cfgActivateKeeper dt p) s = .next u.settle ∧ replied u p 0 ∧ result u 6 { code := 0 } ∧ u.cfg = a0.cfg
          ∧ u.kpr = { a.kpr with running := true, ready := false, activating := true, image := 1 - a.kpr.image, startAt := a.htick, loaded := false }
          ∧ (∀ k : Nat, k ≠ 0x400C → k ≠ 0x4010 → u.rd k = a.rd k)) ∧
      (a.anyService = false ∨ a.kpr.loaded = false ∨ a.kprFenced = true →
        ∃ u : State, exec (.cfgActivateKeeper dt p) s = .next u.settle ∧ replied u p 2 ∧ { u with cfg := a.cfg, replies := a.replies } = a)) ∧
    (∀ (p : Path), a.committed = true → a.cfgBusy = true →
      ∃ u : State, exec (.cfgCheckStaging dt p) s = .next u.settle ∧ replied u p 0 ∧ result u 1 { code := 0x14 } ∧ u.cfg = a0.cfg
        ∧ (∀ k : Nat, k ≠ 0x400C → k ≠ 0x4010 → u.rd k = a.rd k) ∧ { u with regs := a.regs, cfg := a.cfg, replies := a.replies } = a) ∧
    (∀ (p : Path), a.committed = true → a.cfg.apply = none →
      exec (.cfgAbort dt p) s = .next (State.settle { a with replies := Tbl.put a.replies (Path.idx p) ⟨0, 0#32⟩ })) ∧
    (a.cfg.apply = none → a.cfg.wait = none →
      exec (.cfgEngineFence dt) s = .next (State.settle { a with fences := a.fences.filter (fun u => u != 0x403), fencedUnits := 0x403 :: a.fencedUnits.filter (fun u => u != 0x403) })) ∧
    (a.kpr.running = true → a.kpr.ready = false →
      exec (.keeperReady dt) s = .next (State.settle { a with kpr := { a.kpr with ready := true, boot := a.kpr.image, activating := false } }) ∧
      (1000000000 ≤ a.since a.kpr.startAt →
        ∃ u : State, exec (.keeperReadyTimeout dt) s = .next u.settle ∧ u.kpr = { a.kpr with image := 1 - a.kpr.image, startAt := a.htick, activating := false }
          ∧ bit (u.rd 0x4004) 5 = true ∧ u.reports = a.reports ++ [⟨0x403, 5, a.htick⟩] ∧ (∀ k : Nat, k ≠ 0x4004 → u.rd k = a.rd k)))

/-- R340, R343, R344, R352 to R354. The overlay's registers are stated where no sweep wrote in the same tick. The reference store of the
scrub engine is what the model compares against without holding it twice (log 27). -/
def Obligations.FoundationAndOverlaysTakeEffect : Prop :=
  ∀ (s a : State) (dt : Elapse), s.advance dt = a → a.calm →
    let good := fun (u : State) (b : List Byte) (m : Img) (src : Nat) => u.rf 0x4000 0 2 = 2 ∧ u.rf 0x4000 2 2 = src
      ∧ u.rd64 0x4018 = BitVec.ofNat 64 m.build ∧ u.rd 0x4020 = BitVec.ofNat 32 m.ver ∧ u.cfg.commit = none
      ∧ u.cfg.hostImg = (if 2 ≤ src then some b else none) ∧ (⟨0xB20, a.htick⟩ : Launch) ∈ u.launched ∧ u.stage = 4
      ∧ (∀ w : Nat, w < 8 → (u.md w).run = some 1) ∧ (∀ t : Nat, (a.tile t).role = .fenced → (u.tile t).role = .fenced)
      ∧ (∀ x ∈ m.binds, (a.tile x.tile).role ≠ .fenced → (u.tile x.tile).role = .bound ∧ (u.tile x.tile).ch = x.ch ∧ (u.lp x.ch).tile = some x.tile)
      ∧ u.htick = a.htick ∧ u.fuses = a.fuses
    let bad := fun (u : State) => u.rf 0x4000 0 2 = 3 ∧ u.stage = 2 ∧ u.cfg.commit = none ∧ u.loop = a.loop ∧ u.tiles = a.tiles ∧ u.pan = a.pan
    (a.cfgFenced = false → a.committed = false →
      (∀ (b : List Byte) (src : Nat) (m : Img), a.cfg.commit = some (b, src) → src < 4 → a.fndCheck b = .ok m →
        ∃ u : State, exec (.foundationCommit dt) s = .next u.settle ∧ good u b m src) ∧
      (∀ (b : List Byte) (src : Nat) (e : ImgErr), a.cfg.commit = some (b, src) → a.fndCheck b = .error e →
        ∃ u : State, exec (.foundationCommit dt) s = .next u.settle ∧ bad u) ∧
      (∀ (x y : List Byte) (m n : Img), a.cfg.commit = none → a.stage = 1 → a.cfg.bootA = some (some x) → a.cfg.bootB = some (some y) →
        a.fndCheck x = .ok m → a.fndCheck y = .ok n →
        ∃ u : State, exec (.foundationCommit dt) s = .next u.settle ∧ (n.ver ≤ m.ver → good u x m 0) ∧ (m.ver < n.ver → good u y n 1)) ∧
      (a.cfg.commit = none → a.stage = 1 → a.cfg.bootA = some none → a.cfg.bootB = some none → a.cel.unitFind 1 0 = none → a.cel.unitFind 1 1 = none →
        ∃ u : State, exec (.foundationCommit dt) s = .next u.settle ∧ bad u ∧ u.launched = a.launched ∧ u.reports = a.reports)) ∧
    (∀ (p : Path) (w : Fin 8) (m : Img), a.committed = true → a.cfgBusy = false → a.cfgFenced = false →
      let a0 : State := { a with cfg := { a.cfg with hostImg := none } }
      a0.ovlCheck a.stageImage = .ok m →
      (m.wing = w.val → m.mode = a.wingMode w.val → a0.ovlMeaning m 0 = 0 →
        ∃ (u : State) (x : Apply), exec (.cfgApplyStaging dt p w) s = .next u.settle ∧ u.replies = Tbl.put a.replies (Path.idx p) ⟨0, 0#32⟩
          ∧ u.cfg.apply = some x ∧ x.req = { wing := w.val, image := a.stageImage, op := 2 } ∧ x.start = a.htick ∧ x.undo = m.lastWrites.map (fun e => (e.1, a.rd e.1))
          ∧ (∀ n : Nat, 16 * w.val ≤ n → n < 16 * w.val + 16 → (u.cc n).applyHeld = true)
          ∧ (a.tickSwp = [] → ∀ e ∈ m.lastWrites, e.1 ≠ 0x4000 → ∀ r : RegRow, regRow e.1 = some r → u.rd e.1 &&& BitVec.ofNat 32 r.rw = e.2 &&& BitVec.ofNat 32 r.rw)
          ∧ (∀ k : Nat, k ≠ 0x4000 → (∀ e ∈ m.lastWrites, e.1 ≠ k) → u.rd k = a.rd k) ∧ u.pan = a.pan ∧ u.launched = a.launched ∧ u.reports = a.reports) ∧
      (m.wing ≠ w.val ∨ m.mode ≠ a.wingMode w.val →
        ∃ u : State, exec (.cfgApplyStaging dt p w) s = .next u.settle ∧ u.rd 0x400C = BitVec.ofNat 32 (0x0D + 256 * 2 + 65536 * 65535) ∧ u.cfg = a0.cfg
          ∧ (∀ k : Nat, k ∉ [0x4004, 0x400C, 0x4010, 0x4028] → u.rd k = a.rd k) ∧ u.launched = a.launched ++ [⟨0xB21, a.htick⟩])) ∧
    (∀ (x : Apply) (m : Img), a.cfg.apply = some x → a.cfg.wait = none → x.req.wing < 8 → x.req.entry = none → a.ovlCheck x.req.image = .ok m →
      (a.ovlMeaning m x.tiles.length = 0 → m.mode < 8 →
        ∃ u : State, exec (.overlayApplyA dt) s = .next u.settle ∧ u.cfg.apply = none ∧ u.rf 0x4028 0 16 = (a.rf 0x4028 0 16 + 1) % 65536
          ∧ u.rd64 0x4030 = a.htick ∧ u.rd64 (0x4040 + 8 * x.req.wing) = BitVec.ofNat 64 m.build ∧ u.rf 0x4080 (3 * x.req.wing) 3 = m.mode
          ∧ u.rd 0x400C = BitVec.ofNat 32 (256 * x.req.op + 65536 * 65535) ∧ u.launched = a.launched ++ [⟨0x805 + 8 * x.req.wing, a.htick⟩]
          ∧ (∀ n : Nat, 16 * x.req.wing ≤ n → n < 16 * x.req.wing + 16 → (u.cc n).applyHeld = false) ∧ u.pan = a.pan ∧ u.reports = a.reports) ∧
      (∀ c : Nat, a.ovlMeaning m x.tiles.length = c → c ≠ 0 → c ≠ 0x14 → (x.undo.map Prod.fst).Nodup → (∀ e ∈ x.undo, isCh e.1 = true ∨ isWg e.1 = true) →
        ∃ u : State, exec (.overlayApplyA dt) s = .next u.settle ∧ u.cfg.apply = none ∧ (∀ e ∈ x.undo, u.rd e.1 = e.2)
          ∧ u.rd 0x400C = BitVec.ofNat 32 (c + 256 * x.req.op + 65536 * 65535)
          ∧ (∀ k : Nat, k ∉ [0x4004, 0x400C, 0x4010, 0x4028] → (∀ e ∈ x.undo, e.1 ≠ k) → u.rd k = a.rd k)
          ∧ u.launched = a.launched ++ [⟨0xB21, a.htick⟩])) ∧
    (∀ (r : Fin 16) (i : Nat), bit (a.rd 0x4090) 0 = true → a.scrubDefers r.val i = false → a.cfg.refBad.contains (r.val, i) = false →
      (∃ u : State, exec (.scrubRead dt r i true false false) s = .next u.settle ∧ bit (u.rd 0x4094) 0 = true
        ∧ u.rf 0x4098 0 16 = min (a.rf 0x4098 0 16 + 1) 65535 ∧ u.rd 0x409C = BitVec.ofNat 32 (r.val + 16 * i)
        ∧ u.reports = a.reports ++ [⟨0x404, 0, a.htick⟩] ∧ u.launched = a.launched ++ [⟨0xB22, a.htick⟩]
        ∧ (∀ k : Nat, k ∉ [0x4094, 0x4098, 0x409C] → u.rd k = a.rd k)
        ∧ { u with regs := a.regs, tickSet := a.tickSet, tickInc := a.tickInc, reports := a.reports, launched := a.launched } = a) ∧
      (∃ u : State, exec (.scrubRead dt r i false true false) s = .next u.settle ∧ bit (u.rd 0x4094) 1 = true ∧ bit (u.rd 0x4004) 7 = true
        ∧ u.cfg = { a.cfg with refBad := (r.val, i) :: a.cfg.refBad } ∧ u.reports = a.reports ++ [⟨0x403, 7, a.htick⟩]) ∧
      (∃ u : State, exec (.scrubRead dt r i false false true) s = .next u.settle ∧ u.rf 0x4098 16 16 = (a.rf 0x4098 16 16 + 1) % 65536
        ∧ (∀ k : Nat, k ≠ 0x4098 → u.rd k = a.rd k) ∧ { u with regs := a.regs, tickInc := a.tickInc } = a))

/-- R362, over the two operations through which every unit of the block reaches a bank. Owner codes are 0 to 6, banks 0 to 63. The report
is cause 1, own_viol's flag number, of source 0x280 (R381). -/
def Obligations.OnlyTheOwnerAccessesABank : Prop :=
  ∀ (s : State) (code b i : Nat) (v : DWord), code < 8 → b < 64 → s.owner b ≠ code →
    let refused := fun u : State => bit (u.rd 0x6030) 1 = true ∧ u.rd 0x6038 = BitVec.ofNat 32 (code + 256 * b)
      ∧ u.rf 0x603C 16 16 = min (s.rf 0x603C 16 16 + 1) 65535 ∧ u.rf 0x603C 0 16 = s.rf 0x603C 0 16
      ∧ (∀ j : Nat, j < 32 → j ≠ 1 → bit (u.rd 0x6030) j = bit (s.rd 0x6030) j)
      ∧ u.reports = s.reports ++ [⟨0x280, 1, s.htick⟩] ∧ (∀ k : Nat, k ∉ [0x6030, 0x6038, 0x603C] → u.rd k = s.rd k)
      ∧ { u with regs := s.regs, tickSet := s.tickSet, tickInc := s.tickInc, reports := s.reports } = s
    (∃ u : State, s.unitRead code b i = (u, none) ∧ refused u) ∧ refused (s.unitWrite code b i v)

/-- R360 to R370. No sweep is active at the PAN_OWN write, since it could end by it (R177). Failing cells are the command's operand. -/
def Obligations.BankOwnersAndService : Prop :=
  ∀ (s a : State) (dt : Elapse), s.advance dt = a → a.calm →
    let replied := fun (u : State) (p : Path) (st : Nat) => u.replies = Tbl.put a.replies (Path.idx p) ⟨st, 0#32⟩
    let others := fun (u : State) (b : Nat) => ∀ m : Nat, m ≠ b → u.bank m = a.bank m
    (∀ (p : Path) (n : Fin 8) (v : Word), a.committed = true →
      ((∀ e ∈ a.ctxs, e.2.st.active = false) → (∀ e ∈ a.ownChanges n.val v, a.ownLocked e.1 = false) → (∀ j : Nat, j < 8 → bits v (4 * j) 3 ≠ 7) →
        ∃ u : State, exec (.panOwnWrite dt p n v) s = .next u.settle ∧ replied u p 0
          ∧ (∀ j : Nat, j < 8 → u.owner (8 * n.val + j) = bits v (4 * j) 3
              ∧ (bits v (4 * j) 3 ≠ a.owner (8 * n.val + j) → u.ownAck (8 * n.val + j) = false ∧ Tbl.get none u.panOps.drain (8 * n.val + j) = some a.htick)
              ∧ (bits v (4 * j) 3 = a.owner (8 * n.val + j) → u.ownAck (8 * n.val + j) = a.ownAck (8 * n.val + j)))
          ∧ (∀ b : Nat, b < 64 → b / 8 ≠ n.val → u.owner b = a.owner b ∧ u.ownAck b = a.ownAck b)
          ∧ (∀ k : Nat, k ≠ 0x6000 + 4 * n.val → k ≠ 0x6020 → k ≠ 0x6024 → u.rd k = a.rd k)
          ∧ { u with regs := a.regs, panOps := a.panOps, replies := a.replies } = a) ∧
      ((∃ e ∈ a.ownChanges n.val v, a.ownLocked e.1 = true) →
        exec (.panOwnWrite dt p n v) s = .next (State.settle { a with replies := Tbl.put a.replies (Path.idx p) ⟨2, 0#32⟩ }))) ∧
    (∀ (b : Fin 64) (t : DWord), Tbl.get none a.panOps.drain b.val = some t →
      ∃ u : State, exec (.ownDrainAck dt b) s = .next u.settle ∧ u.ownAck b.val = true ∧ Tbl.get none u.panOps.drain b.val = none
        ∧ (∀ m : Nat, m < 64 → m ≠ b.val → u.ownAck m = a.ownAck m) ∧ u.stdLoads = (if a.panOps.toStudy.contains b.val then a.stdLoads ++ [b.val] else a.stdLoads)
        ∧ { u with regs := a.regs, panOps := a.panOps, stdLoads := a.stdLoads } = a) ∧
    (∀ b : Fin 64, (a.bank b.val).withdrawn = false → (a.bank b.val).patrol < 65536 →
      let i := (a.bank b.val).patrol
      (a.poisoned b.val i = false →
        (∃ u : State, exec (.patrolRead dt b .clean) s = .next u.settle ∧ u.bank b.val = { a.bank b.val with patrol := (i + 1) % 65536 } ∧ others u b.val
          ∧ { u with banks := a.banks } = a) ∧
        (∃ u : State, exec (.patrolRead dt b .single) s = .next u.settle ∧ (u.bank b.val).patrol = (i + 1) % 65536
          ∧ u.rf (bkA b.val 0x06C) 0 16 = min (a.rf (bkA b.val 0x06C) 0 16 + 1) 65535 ∧ u.pan = a.pan ∧ u.poison = a.poison ∧ u.reports = a.reports
          ∧ (∀ k : Nat, k ≠ bkA b.val 0x06C → u.rd k = a.rd k)) ∧
        ((a.bank b.val).rows.length + (a.bank b.val).remap.length < 4 → (a.bank b.val).remap.contains (i / 256) = false →
          ∃ u : State, exec (.patrolRead dt b .more) s = .next u.settle ∧ (u.bank b.val).patrol = (i + 1) % 65536 ∧ u.poisoned b.val i = true ∧ u.pan = a.pan
            ∧ (∀ m j : Nat, m < 64 → j < 65536 → m ≠ b.val ∨ j ≠ i → u.poisoned m j = a.poisoned m j) ∧ bit (u.rd (bkA b.val 0x068)) 1 = true
            ∧ u.rf (bkA b.val 0x06C) 24 8 = min (a.rf (bkA b.val 0x06C) 24 8 + 1) 255 ∧ u.rf (bkA b.val 0x074) 0 16 = i
            ∧ u.reports = a.reports ++ [⟨0x240 + b.val, 1, a.htick⟩] ∧ (u.bank b.val).remap = (a.bank b.val).remap ++ [i / 256])) ∧
      (a.poisoned b.val i = true → (a.bank b.val).remap.contains (i / 256) = true →
        ∃ u : State, exec (.patrolRead dt b .clean) s = .next u.settle ∧ (u.bank b.val).patrol = (i + 1) % 65536 ∧ bit (u.rd (bkA b.val 0x068)) 1 = true
          ∧ u.reports = a.reports ++ [⟨0x240 + b.val, 1, a.htick⟩] ∧ u.pan = a.pan ∧ u.poison = a.poison)) ∧
    (∀ (p : Path) (b : Fin 64) (row : Fin 256), a.committed = true → (a.bank b.val).remap.contains row.val = false →
      ((a.bank b.val).rows.length + (a.bank b.val).remap.length < 4 →
        ∃ u : State, exec (.panRemapRow dt p b row) s = .next u.settle ∧ replied u p 0 ∧ u.bank b.val = { a.bank b.val with remap := (a.bank b.val).remap ++ [row.val] }
          ∧ others u b.val ∧ { u with banks := a.banks, replies := a.replies } = a) ∧
      (4 ≤ (a.bank b.val).rows.length + (a.bank b.val).remap.length →
        ∃ u : State, exec (.panRemapRow dt p b row) s = .next u.settle ∧ replied u p 0 ∧ bit (u.rd (bkA b.val 0x068)) 3 = true
          ∧ u.reports = a.reports ++ [⟨0x240 + b.val, 3, a.htick⟩] ∧ (∀ k : Nat, k ≠ bkA b.val 0x068 → u.rd k = a.rd k)
          ∧ { u with regs := a.regs, tickSet := a.tickSet, reports := a.reports, replies := a.replies } = a)) ∧
    (∀ (b : Fin 64) (r : Nat) (t : List Nat), (a.bank b.val).remap = r :: t →
      ∃ u : State, exec (.rowRemapDone dt b) s = .next u.settle ∧ u.bank b.val = { a.bank b.val with rows := (a.bank b.val).rows ++ [r], remap := t } ∧ others u b.val
        ∧ bit (u.rd (bkA b.val 0x068)) 2 = true ∧ u.pan = a.pan ∧ u.reports = a.reports ∧ (∀ k : Nat, k ≠ bkA b.val 0x068 → u.rd k = a.rd k)) ∧
    (∀ (p : Path) (b : Fin 64), a.committed = true → (a.bank b.val).mig = none →
      (∀ (x : Nat) (t : List Nat), a.sparesFree = x :: t →
        ∃ u : State, exec (.panMigrateBank dt p b) s = .next u.settle ∧ replied u p 0 ∧ u.bank b.val = { a.bank b.val with mig := some x } ∧ others u b.val
          ∧ { u with banks := a.banks, replies := a.replies } = a) ∧
      (a.sparesFree = [] →
        ∃ u : State, exec (.panMigrateBank dt p b) s = .next u.settle ∧ replied u p 0 ∧ bit (u.rd 0x6030) 4 = true
          ∧ (∀ k : Nat, k ≠ 0x6030 → u.rd k = a.rd k) ∧ { u with regs := a.regs, tickSet := a.tickSet, replies := a.replies } = a)) ∧
    (∀ b : Fin 64, (a.bank b.val).mig = none →
      ∃ u : State, exec (.bankFence dt b) s = .next u.settle ∧ u.unitFenced (0x240 + b.val) = true ∧ others u b.val ∧ u.pan = a.pan ∧ u.regs = a.regs
        ∧ (∀ (x : Nat) (t : List Nat), a.sparesFree = x :: t → u.bank b.val = { a.bank b.val with mig := some x })
        ∧ (a.sparesFree = [] → u.bank b.val = { a.bank b.val with withdrawn := true })) ∧
    (∀ (b : Fin 64) (x : Nat), (a.bank b.val).mig = some x →
      ∃ u : State, exec (.migrationDone dt b) s = .next u.settle ∧ u.bank b.val = { a.bank b.val with onSpare := some x, mig := none } ∧ others u b.val
        ∧ { u with banks := a.banks } = a) ∧
    (∀ (p : Path) (b : Fin 64), a.committed = true →
      (a.owner b.val = 0 → a.anyService = true → a.panOps.full = none →
        ∃ u : State, exec (.panFullBist dt p b) s = .next u.settle ∧ replied u p 0 ∧ u.fullOn b.val = true ∧ (u.bank b.val).full = true ∧ others u b.val
          ∧ u.panOps.full = some (b.val, a.htick) ∧ { u with banks := a.banks, panOps := a.panOps, replies := a.replies } = a) ∧
      (a.owner b.val ≠ 0 ∨ a.anyService = false →
        exec (.panFullBist dt p b) s = .next (State.settle { a with replies := Tbl.put a.replies (Path.idx p) ⟨2, 0#32⟩ }))) ∧
    (∀ (b : Nat) (t : DWord), a.panOps.full = some (b, t) → b < 64 → 655360 ≤ a.since t →
      ∃ u : State, exec (.fullBistDone dt []) s = .next u.settle ∧ u.panOps.full = none ∧ (u.bank b).full = false ∧ (u.bank b).fullResult = 1
        ∧ (∀ x : Nat, b * 0x80000 ≤ x → x < (b + 1) * 0x80000 → Mem.get u.pan x = 0#8)
        ∧ (∀ x : Nat, x < b * 0x80000 ∨ (b + 1) * 0x80000 ≤ x → Mem.get u.pan x = Mem.get a.pan x) ∧ u.regs = a.regs ∧ u.reports = a.reports
        ∧ (∀ i : Nat, i < 65536 → u.poisoned b i = false)) ∧
    (bit (a.rd 0x6044) 0 = true → a.rf 0x6044 8 16 ≠ 0 → a.rf 0x6044 8 16 * 500 ≤ a.since a.panOps.bistAt → a.borrowed = none →
      ∀ (b r : Nat), a.bistNext = some b → a.bistRegion b = some r →
        ∃ u : State, exec (.onlineBistBorrow dt false) s = .next u.settle ∧ u.borrow = some ⟨b, r, a.htick⟩ ∧ (u.bank b).region = (r + 1) % 1024
          ∧ u.panOps.bistAt = a.htick ∧ u.panOps.bistBank = b ∧ { u with banks := a.banks, panOps := a.panOps, borrow := a.borrow } = a)

/-- R358 to R361, R365, R372 to R380. The flag of a Chute with its report is cause i of source 0x300 + c. The region of the word is not borrowed
by the online BIST, whose end would set bist_stall (R371);
no raw stream runs into the flushed Chute (R134). -/
def Obligations.WindowAccessesAndChutes : Prop :=
  ∀ (s a : State) (dt : Elapse), s.advance dt = a → a.calm →
    let keeps := fun (u : State) (b i : Nat) => ∀ x : Nat, x < panAt b i ∨ panAt b i + 8 ≤ x → Mem.get u.pan x = Mem.get a.pan x
    (∀ (p : Path) (b : Fin 64) (i : BitVec 16), a.committed = true → a.borrow = none → (a.bank b.val).withdrawn = false → a.fullOn b.val = false →
      let k := pkey p (panAddr b.val i.toNat)
      let word := a.panWord b.val i.toNat
      let put := fun (u : State) (v : DWord) => u.panWord b.val i.toNat = v ∧ u.poisoned b.val i.toNat = false ∧ keeps u b.val i.toNat ∧ u.wrHeld k = none
        ∧ u.replies = Tbl.put a.replies (Path.idx p) ⟨0, 0#32⟩ ∧ { u with pan := a.pan, poison := a.poison, holds := a.holds, replies := a.replies } = a
      (a.poisoned b.val i.toNat = false →
        ∃ u : State, exec (.pantryWindowRead dt p b i false .clean) s = .next u.settle ∧ u.replies = Tbl.put a.replies (Path.idx p) ⟨0, word.setWidth 32⟩
          ∧ u.rdHeld k = some ((word >>> 32).setWidth 32) ∧ { u with holds := a.holds, replies := a.replies } = a) ∧
      (a.poisoned b.val i.toNat = true →
        ∃ u : State, exec (.pantryWindowRead dt p b i false .clean) s = .next u.settle ∧ u.replies = Tbl.put a.replies (Path.idx p) ⟨4, 0xFFFFFFFF#32⟩
          ∧ u.rdHeld k = some 0xFFFFFFFF#32 ∧ { u with holds := a.holds, replies := a.replies } = a) ∧
      (∀ v : Word, a.rdHeld k = some v →
        ∃ u : State, exec (.pantryWindowRead dt p b i true .clean) s = .next u.settle ∧ u.replies = Tbl.put a.replies (Path.idx p) ⟨Tbl.get 0 a.holds.st k, v⟩
          ∧ u.rdHeld k = none ∧ { u with holds := a.holds, replies := a.replies } = a) ∧
      (∀ v : Word, a.owner b.val = 0 ∨ a.owner b.val = 6 →
        (∀ lo : Word, a.wrHeld k = some lo →
          ∃ u : State, exec (.pantryWindowWrite dt p b i v .clean none) s = .next u.settle ∧ put u (v ++ lo)) ∧
        (a.wrHeld k = none → a.poisoned b.val i.toNat = false →
          ∃ u : State, exec (.pantryWindowWrite dt p b i v .clean none) s = .next u.settle ∧ put u (v ++ word.setWidth 32)) ∧
        (∀ lo w : Word, a.wrHeld k = some lo → (w ++ lo : BitVec 64) ≠ v ++ lo →
          ∃ u : State, exec (.pantryWindowWrite dt p b i v .clean (some (w ++ lo))) s = .next u.settle ∧ u.panWord b.val i.toNat = w ++ lo ∧ keeps u b.val i.toNat
            ∧ bit (u.rd 0x6030) 0 = true ∧ u.rf 0x603C 0 16 = min (a.rf 0x603C 0 16 + 1) 65535 ∧ u.reports = a.reports ++ [⟨0x280, 0, a.htick⟩]
            ∧ (bit (a.rd 0x6030) 0 = false → u.rd 0x6034 = BitVec.ofNat 32 (b.val * 65536 + i.toNat)))) ∧
      (∀ v lo : Word, a.wrHeld k = some lo → a.owner b.val = 1 ∨ a.owner b.val = 3 ∨ a.owner b.val = 4 ∨ a.owner b.val = 5 →
        ∃ u : State, exec (.pantryWindowWrite dt p b i v .clean none) s = .next u.settle ∧ u.wrHeld k = none
          ∧ u.replies = Tbl.put a.replies (Path.idx p) ⟨2, 0#32⟩ ∧ { u with holds := a.holds, replies := a.replies } = a)) ∧
    (∀ (c : Fin 256) (n : Fin 272) (v : DWord),
      let x := a.chuTick c.val
      let b := a.chuBank c.val
      let i := a.chuBase c.val + x.w.toNat % a.chuDepth c.val
      let others := fun u : State => ∀ m : Nat, m ≠ c.val → u.chute m = a.chute m
      x.flush = false → x.pushed = none →
      (a.chuDepth c.val ≠ 0 → a.chuDepth c.val ≤ 65536 → x.level < a.chuDepth c.val → a.postFull c.val = false → a.owner b = 5 → (a.bank b).withdrawn = false → a.borrow = none →
        ∃ u : State, exec (.chutePush dt c n v) s = .next u.settle ∧ (u.chute c.val).w = x.w + 1#17 ∧ (u.chute c.val).w2 = x.w + 1#17 ∧ (u.chute c.val).r = x.r
          ∧ (u.chute c.val).pushed = some n.val ∧ (u.chute c.val).stale = (if x.level = 0 then some a.htick else x.stale)
          ∧ (u.chute c.val).staleUs = (if x.level = 0 then a.rf (chuA c.val 4) 0 24 else x.staleUs)
          ∧ u.panWord b i = v ∧ keeps u b i ∧ others u ∧ { u with pan := a.pan, poison := a.poison, chutes := a.chutes, banks := a.banks } = a) ∧
      (a.chuDepth c.val ≤ x.level →
        ∃ u : State, exec (.chutePush dt c n v) s = .next u.settle ∧ (u.chute c.val).w = x.w ∧ (u.chute c.val).r = x.r ∧ others u
          ∧ u.rf (chuA c.val 0x1C) 0 16 = min (a.rf (chuA c.val 0x1C) 0 16 + 1) 65535 ∧ bit (u.rd (chuA c.val 0x14)) 0 = true
          ∧ u.reports = a.reports ++ [⟨0x300 + c.val, 0, a.htick⟩] ∧ (∀ k : Nat, k ≠ chuA c.val 0x1C → k ≠ chuA c.val 0x14 → u.rd k = a.rd k)
          ∧ { u with regs := a.regs, tickSet := a.tickSet, tickInc := a.tickInc, chutes := a.chutes, reports := a.reports } = a)) ∧
    (∀ (c : Fin 256) (n : Fin 272) (m : Nat) (v : DWord), (a.chuTick c.val).flush = false → (a.chuTick c.val).pushed = some m → m < n.val →
      ∃ u : State, exec (.chutePush dt c n v) s = .next u.settle ∧ bit (u.rd (chuA c.val 0x14)) 4 = true ∧ u.reports = a.reports ++ [⟨0x300 + c.val, 4, a.htick⟩]
        ∧ { u with regs := a.regs, tickSet := a.tickSet, reports := a.reports } = a) ∧
    (∀ (c : Fin 256) (n : Fin 32),
      let x := a.chuTick c.val
      let b := a.chuBank c.val
      let i := a.chuBase c.val + x.r.toNat % a.chuDepth c.val
      n.val < 2 ∨ (16 ≤ n.val ∧ (dKernel (a.eng (n.val - 16)).act = 0 ∨ dIn (a.eng (n.val - 16)).act ≠ c.val)) →
      x.flush = false → x.popped = none →
      (x.lvl0 ≠ 0 → a.chuDepth c.val ≠ 0 → x.ovf = none → a.owner b = 5 → (a.bank b).withdrawn = false → a.borrow = none → a.poisoned b i = false →
        (a.chuPop c.val n.val .clean).2 = some (a.panWord b i, false) ∧
        ∃ u : State, exec (.chutePop dt c n .clean) s = .next u.settle ∧ (u.chute c.val).r = x.r + 1#17 ∧ (u.chute c.val).r2 = x.r + 1#17 ∧ (u.chute c.val).w = x.w
          ∧ (u.chute c.val).staleLive = false ∧ (u.chute c.val).stale = (if x.w = x.r + 1#17 then none else some a.htick)
          ∧ (∀ k : Nat, k ≠ c.val → u.chute k = a.chute k) ∧ { u with chutes := a.chutes } = a) ∧
      (x.lvl0 = 0 →
        ∃ u : State, exec (.chutePop dt c n .clean) s = .next u.settle ∧ (u.chute c.val).r = x.r ∧ (u.chute c.val).w = x.w ∧ bit (u.rd (chuA c.val 0x14)) 1 = true
          ∧ u.rf (chuA c.val 0x1C) 16 16 = min (a.rf (chuA c.val 0x1C) 16 16 + 1) 65535 ∧ u.reports = a.reports ++ [⟨0x300 + c.val, 1, a.htick⟩]
          ∧ (∀ k : Nat, k ≠ chuA c.val 0x1C → k ≠ chuA c.val 0x14 → u.rd k = a.rd k)
          ∧ { u with regs := a.regs, tickSet := a.tickSet, tickInc := a.tickInc, chutes := a.chutes, reports := a.reports } = a)) ∧
    (∀ c : Fin 256, a.committed = true → (∀ e ∈ a.meas, e.2.rawOn = true → a.rawChute e.1 ≠ c.val) →
      ∃ u : State, exec (.chuFlush dt c) s = .next u.settle ∧ (u.chute c.val).level = 0 ∧ (u.chute c.val).r = (a.chuTick c.val).w0 ∧ (u.chute c.val).flush = true
        ∧ (u.chute c.val).stale = none ∧ u.chuGen c.val = (a.chuGen c.val + 1) % 65536 ∧ bit (u.rd (chuA c.val 0x14)) 7 = true
        ∧ (∀ k : Nat, k ≠ chuA c.val 0x14 → k ≠ chuA c.val 0x18 → u.rd k = a.rd k) ∧ (∀ k : Nat, k ≠ c.val → u.chute k = a.chute k)
        ∧ { u with regs := a.regs, tickSet := a.tickSet, chutes := a.chutes } = a) ∧
    (∀ (c : Fin 256) (w w2 r r2 : BitVec 17), w ≠ w2 ∨ r ≠ r2 →
      ∃ u : State, exec (.pointerCheckFail dt c w w2 r r2) s = .next u.settle ∧ (u.chute c.val).w = w ∧ (u.chute c.val).w2 = w ∧ (u.chute c.val).r = w ∧ (u.chute c.val).r2 = w
        ∧ u.chuGen c.val = (a.chuGen c.val + 1) % 65536 ∧ bit (u.rd (chuA c.val 0x14)) 3 = true ∧ bit (u.rd (chuA c.val 0x14)) 7 = true
        ∧ u.reports = a.reports ++ [⟨0x300 + c.val, 3, a.htick⟩] ∧ (∀ k : Nat, k ≠ chuA c.val 0x14 → k ≠ chuA c.val 0x18 → u.rd k = a.rd k)
        ∧ { u with regs := a.regs, tickSet := a.tickSet, chutes := a.chutes, reports := a.reports } = a) ∧
    (∀ (c : Fin 256) (t : DWord), (a.chute c.val).stale = some t → (a.chute c.val).staleUs ≠ 0 → (a.chute c.val).staleUs * 500 ≤ a.since t →
      ∃ u : State, exec (.chuteStale dt c) s = .next u.settle ∧ u.chute c.val = { a.chute c.val with stale := none, staleLive := true }
        ∧ bit (u.rd (chuA c.val 0x14)) 2 = true ∧ u.reports = a.reports ++ [⟨0x300 + c.val, 2, a.htick⟩] ∧ u.launched = a.launched ++ [⟨0xE00 + c.val, a.htick⟩]
        ∧ (∀ k : Nat, k ≠ chuA c.val 0x14 → u.rd k = a.rd k)
        ∧ { u with regs := a.regs, tickSet := a.tickSet, chutes := a.chutes, reports := a.reports, launched := a.launched } = a)

/-- R386 to R392, R398, R400. The edge is the oldest one of its producer that the block has launched, else one at the command's tick (log 12). The
time stamp of R390 lies on that tick or the next (R385, free bit of log 2). A trigger is stated at an input that one channel only names. -/
def Obligations.HallwayPassesAndAbsorbs : Prop :=
  ∀ (s a : State) (dt : Elapse), s.advance dt = a → a.calm →
    (∀ (p : BitVec 12) (half : Bool), (a.hwy.map Prod.fst).Nodup → (∀ e ∈ a.hwy, e.1 < 256) →
      let l := ((a.launched.find? (fun l => l.prod == p.toNat && decide ((a.htick - l.at_).toNat < 2 ^ 63))).getD ⟨p.toNat, a.htick⟩)
      ∃ u : State, exec (.hallwayEvent dt p half) s = .next u.settle ∧ u.launched = a.launched.erase l
        ∧ { u with hwy := a.hwy, hwyTi := a.hwyTi, launched := a.launched, regs := a.regs, tickSet := a.tickSet, reports := a.reports, freeCtr := a.freeCtr } = a
        ∧ (∀ (c : Nat) (x : HwyCh), (c, x) ∈ a.hwy →
          let named := (x.route l.at_).1.contains p.toNat
          let kept := a.muted c = true ∨ x.refractory (l.at_, half) = true
          (named = false → u.hw c = x) ∧
          (named = true → kept → (u.hw c).absorb = min (x.absorb + 1) 65535 ∧ (u.hw c).count = x.count ∧ (u.hw c).guard = x.guard ∧ (u.hw c).ts = x.ts
            ∧ (u.hw c).prods = x.prods ∧ (u.hw c).tis = x.tis ∧ bit (u.rd 0x5000) 3 = true) ∧
          (named = true → ¬ kept → (u.hw c).count = x.count + 1#32 ∧ (u.hw c).guard = some (l.at_, half) ∧ (u.hw c).grefr = x.refr ∧ (u.hw c).absorb = x.absorb
            ∧ ((u.hw c).ts = l.at_ ∨ (u.hw c).ts = l.at_ + 1#64) ∧ bit (u.rd (0x5010 + 4 * (c / 32))) (c % 32) = true
            ∧ (u.hw c).prods = x.prods ∧ (u.hw c).tis = x.tis
            ∧ (x.rateEn = false → (u.hw c).hits = x.hits ∧ (u.hw c).win = x.win)
            ∧ (∀ w : DWord, x.rateEn = true → x.win = some w → (l.at_ - w).toNat < x.winUs * 500 →
                (x.winN ≠ x.winMax → (u.hw c).winN = x.winN + 1 ∧ (u.hw c).hits = x.hits) ∧
                (x.winN = x.winMax → (u.hw c).win = none ∧ (u.hw c).hits = min (x.hits + 1) 65535 ∧ bit (u.rd (rateHitReg c)) (c % 32) = true
                  ∧ bit (u.rd 0x5000) 0 = true ∧ (⟨0x400, 0, a.htick⟩ : Report) ∈ u.reports
                  ∧ (bit (a.rd 0x5004) 30 = true → u.muted c = true ∧ bit (u.rd 0x5000) 1 = true)))
            ∧ (∀ k : Nat, hwyTiOk k = true → k ∈ (x.route l.at_).2 → (∀ e ∈ a.hwy, e.1 ≠ c → k ∉ (e.2.route l.at_).2) → a.tiGated k = false →
                ((a.ti k).last = none → (a.ti k).pend < 3 → (u.ti k).pend = (a.ti k).pend + 1 ∧ (u.ti k).last = some (l.at_, half) ∧ (u.ti k).coinc = (a.ti k).coinc) ∧
                ((a.ti k).last = none → 3 ≤ (a.ti k).pend → (u.ti k).pend = (a.ti k).pend ∧ (u.ti k).coinc = true ∧ (u.ti k).merges = min ((a.ti k).merges + 1) 65535))))) ∧
    (∀ c : Fin 256,
      (∀ w : DWord, (a.hw c.val).win = some w → (a.hw c.val).winUs * 500 ≤ a.since w →
        ∃ u : State, exec (.rateWindowExpiry dt c) s = .next u.settle ∧ u.hw c.val = { a.hw c.val with win := none } ∧ (∀ m : Nat, m ≠ c.val → u.hw m = a.hw m) ∧ { u with hwy := a.hwy } = a) ∧
      (∀ g : DWord × Bool, (a.hw c.val).guard = some g → 4 * (4 * ((a.hw c.val).grefr : Int)) ≤ 5 * (edgeNs (a.htick, true) - edgeNs g) →
        ∃ u : State, exec (.refractoryEnd dt c) s = .next u.settle ∧ u.hw c.val = { a.hw c.val with guard := none } ∧ (∀ m : Nat, m ≠ c.val → u.hw m = a.hw m) ∧ { u with hwy := a.hwy } = a)) ∧
    (a.committed = true →
      (∀ m : BitVec 16,
        exec (.hwyFire dt m) s = .next (State.settle { a with launched := a.launched ++ ((List.range 16).filter (fun k => m.getLsbD k)).map (fun k => ⟨0xD10 + k, a.htick⟩) })) ∧
      (∀ p : Path,
        let c := bits (a.rd (pkey p 0x5100)) 0 8
        let x := a.hw c
        let k := bits (a.rd (pkey p 0x5180)) 0 16
        let okP := fun i : Nat => a.stagedSlot p 0x10C i = 0xFFFF ∨ hwyProdOk (a.stagedSlot p 0x10C i) = true
        let okT := fun i : Nat => a.stagedSlot p 0x12C i = 0xFFFF ∨ hwyTiOk (a.stagedSlot p 0x12C i) = true
        (∃ u : State, exec (.hwyRouteWrite dt p) s = .next u.settle
          ∧ u.replies = Tbl.put a.replies (Path.idx p) ⟨if (∀ i ∈ List.range 16, okP i) ∧ (∀ i ∈ List.range 8, okT i) then 0 else 3, 0#32⟩
          ∧ (∀ i : Nat, i < 16 → (u.hw c).prods.getD i 0xFFFF = if okP i then a.stagedSlot p 0x10C i else x.prods.getD i 0xFFFF)
          ∧ (∀ i : Nat, i < 8 → (u.hw c).tis.getD i 0xFFFF = if okT i then a.stagedSlot p 0x12C i else x.tis.getD i 0xFFFF)
          ∧ (u.hw c).refr = bits (a.rd (pkey p 0x5108)) 0 6 ∧ (u.hw c).rateEn = bit (a.rd (pkey p 0x5108)) 8
          ∧ (u.hw c).old = some (a.htick, x.prods, x.tis) ∧ (u.hw c).guard = x.guard ∧ (u.hw c).count = x.count ∧ (u.hw c).absorb = x.absorb ∧ (u.hw c).hits = x.hits
          ∧ (∀ m : Nat, m ≠ c → u.hw m = a.hw m) ∧ { u with hwy := a.hwy, replies := a.replies } = a) ∧
        (∃ u : State, exec (.hwyRouteRead dt p) s = .next u.settle ∧ u.replies = Tbl.put a.replies (Path.idx p) ⟨0, 0#32⟩ ∧ u.rd (pkey p 0x513C) = x.count
          ∧ u.rd64 (pkey p 0x5144) = x.ts ∧ (x.absorb < 65536 → x.hits < 65536 → u.rf (pkey p 0x5140) 0 16 = x.absorb ∧ u.rf (pkey p 0x5140) 16 16 = x.hits)
          ∧ (x.refr < 64 → u.rf (pkey p 0x5108) 0 6 = x.refr ∧ bit (u.rd (pkey p 0x5108)) 8 = x.rateEn)
          ∧ (∀ i : Nat, i < 8 → x.prods.getD (2 * i) 0xFFFF < 65536 → x.prods.getD (2 * i + 1) 0xFFFF < 65536 →
              u.rf (pkey p (0x510C + 4 * i)) 0 16 = x.prods.getD (2 * i) 0xFFFF ∧ u.rf (pkey p (0x510C + 4 * i)) 16 16 = x.prods.getD (2 * i + 1) 0xFFFF)
          ∧ (∀ j : Nat, (∀ o : Nat, 0x5108 ≤ o → o < 0x514C → j ≠ pkey p o) → u.rd j = a.rd j) ∧ { u with regs := a.regs, replies := a.replies } = a) ∧
        (x.evAt.1 ≠ a.htick → x.absAt.1 ≠ a.htick → x.hitAt.1 ≠ a.htick →
          ∃ u : State, exec (.hwyClearCounts dt p) s = .next u.settle ∧ u.replies = Tbl.put a.replies (Path.idx p) ⟨0, 0#32⟩ ∧ u.hw c = { x with count := 0#32, absorb := 0, hits := 0 }
            ∧ (∀ m : Nat, m ≠ c → u.hw m = a.hw m) ∧ { u with hwy := a.hwy, replies := a.replies } = a) ∧
        ((a.ti k).mergeAt.1 ≠ a.htick →
          ∃ u : State, exec (.hwyTiClr dt p) s = .next u.settle ∧ u.replies = Tbl.put a.replies (Path.idx p) ⟨0, 0#32⟩ ∧ u.ti k = { a.ti k with coinc := false, merges := 0 }
            ∧ (∀ m : Nat, m ≠ k → u.ti m = a.ti m) ∧ { u with hwyTi := a.hwyTi, replies := a.replies } = a)))

/-- R406 to R416 for items that are not passed on (pass_en 0) and, at the kernel's end, produce no output item or one that is not pushed (out_en 0), as
R405 has it. Kernel 2 is stated at a step that is no multiple of its decimation and at one that is. -/
def Obligations.StudyEngines : Prop :=
  ∀ (s a : State) (dt : Elapse), s.advance dt = a → a.calm →
    (∀ (b : Nat) (t : List Nat), a.stdLoads = b :: t → a.owner b = 3 →
      let a1 : State := { a with stdLoads := t }
      let h := a.stdBytes b 0 16
      let g := a.stdBytes b 16 8
      let e := dsc g 0 1
      let d := a.stdBytes b (8 * dsc g 4 4) 256
      (dsc h 0 4 ≠ 0x44534B44 → exec (.descriptorSetLoad dt) s = .next (State.settle a1)) ∧
      (dsc h 0 4 = 0x44534B44 → dsc h 4 2 = 0 ∨ 16 < dsc h 4 2 ∨ dsc h 6 10 ≠ 0 →
        ∃ u : State, exec (.descriptorSetLoad dt) s = .next u.settle ∧ u.rd 0xC000 = BitVec.ofNat 32 (b + 256 * 9) ∧ bit (u.rd 0xC004) 0 = true ∧ u.engs = a.engs
          ∧ (∀ k : Nat, k ≠ 0xC000 → k ≠ 0xC004 → u.rd k = a.rd k)) ∧
      (dsc h 0 4 = 0x44534B44 → dsc h 4 2 = 1 → dsc h 6 10 = 0 → e < 16 → dsc g 1 3 = 0 → dsc g 4 4 % 32 = 0 → dsc g 4 4 + 32 ≤ 65536 →
        (a1.dscCode e d = 0 →
          ∃ u : State, exec (.descriptorSetLoad dt) s = .next u.settle ∧ u.eng e = { a.eng e with loadCode := 0, pend := some d } ∧ u.rd 0xC000 = BitVec.ofNat 32 (b + 65536 * 2 ^ e)
            ∧ (∀ m : Nat, m ≠ e → u.eng m = a.eng m) ∧ (∀ k : Nat, k ≠ 0xC000 → u.rd k = a.rd k) ∧ { u with regs := a.regs, stdLoads := a.stdLoads, engs := a.engs } = a) ∧
        (∀ c : Nat, a1.dscCode e d = c → c ≠ 0 →
          ∃ u : State, exec (.descriptorSetLoad dt) s = .next u.settle ∧ u.eng e = { a.eng e with loadCode := c } ∧ u.rd 0xC000 = BitVec.ofNat 32 b
            ∧ bit (u.rd (engA e 4)) 6 = true ∧ u.reports = a.reports ++ [⟨0x410 + e, 6, a.htick⟩] ∧ u.launched = a.launched ++ [⟨0xC03 + 4 * e, a.htick⟩]))) ∧
    (∀ n : Fin 16,
      let e := n.val
      let x := a.eng e
      let m := fmtWords (dFmt x.act)
      let others := fun u : State => ∀ j : Nat, j ≠ e → u.eng j = a.eng j
      let keeps := fun (u : State) (d : List Byte) => ∀ k : Nat, k < dBank d * 0x80000 + 8 * dBase d ∨ dBank d * 0x80000 + 8 * (dBase d + dScratch d) ≤ k → Mem.get u.pan k = Mem.get a.pan k
      (a.engFenced e = false →
        (∀ d : List Byte, x.pend = some d → x.run = none → x.words = [] → dScratch d = 0 ∨ (a.owner (dBank d) = 3 ∧ (a.bank (dBank d)).withdrawn = false) →
          ∃ u : State, exec (.descriptorBoundary dt n) s = .next u.settle ∧ u.eng e = { x.cleared with act := d, pend := none } ∧ others u
            ∧ u.launched = a.launched ++ [⟨0xC02 + 4 * e, a.htick⟩] ∧ keeps u d
            ∧ (∀ k : Nat, dBank d * 0x80000 + 8 * dBase d ≤ k → k < dBank d * 0x80000 + 8 * (dBase d + dScratch d) → Mem.get u.pan k = 0#8)
            ∧ { u with engs := a.engs, pan := a.pan, poison := a.poison, launched := a.launched } = a) ∧
        (∀ (d : List Byte) (w : PopWord) (t : List PopWord), x.pend = some d → x.run = none → x.words = w :: t → x.words.length < m →
          500000 ≤ a.since w.at_ → a.since w.at_ < 2 ^ 63 → dScratch d = 0 →
          ∃ u : State, exec (.heldWordsTimeout dt n) s = .next u.settle ∧ (u.eng e).act = d ∧ (u.eng e).pend = none ∧ (u.eng e).words = [] ∧ others u
            ∧ u.rf (engA e 0x14) 0 16 = min (a.rf (engA e 0x14) 0 16 + 1) 65535 ∧ bit (u.rd (engA e 4)) 1 = true
            ∧ u.launched = a.launched ++ [⟨0xC02 + 4 * e, a.htick⟩] ∧ (∀ k : Nat, k ≠ engA e 0x14 → k ≠ engA e 4 → u.rd k = a.rd k) ∧ u.pan = a.pan) ∧
        (let c := dIn x.act
         let q := a.chuTick c
         let i := a.chuBase c + q.r.toNat % a.chuDepth c
         a.engPops e = true → q.flush = false → q.popped = none → q.ovf = none → q.lvl0 ≠ 0 → a.chuDepth c ≠ 0 → a.owner (a.chuBank c) = 5 →
         (a.bank (a.chuBank c)).withdrawn = false → a.borrow = none → a.poisoned (a.chuBank c) i = false → (∀ w : PopWord, x.words.getLast? = some w → w.gen = a.chuGen c) →
          ∃ u : State, exec (.studyPop dt n .clean) s = .next u.settle
            ∧ u.eng e = { x with words := x.words ++ [⟨a.panWord (a.chuBank c) i, false, a.htick + 3#64, a.chuGen c⟩] } ∧ others u
            ∧ (u.chute c).r = q.r + 1#17 ∧ (∀ j : Nat, j ≠ c → u.chute j = a.chute j) ∧ { u with engs := a.engs, chutes := a.chutes } = a) ∧
        (let ws := x.words.take m
         let it := itemOf (dFmt x.act) (dQ x.act) ws
         x.run = none → x.act ≠ [] → dKernel x.act ≠ 0 → m ≤ x.words.length → (∀ w ∈ ws, (a.htick - w.at_).toNat < 2 ^ 63) →
          let counted := fun u : State => (u.eng e).words = x.words.drop m ∧ u.rf (engA e 0x0C) 0 32 = (a.rf (engA e 0x0C) 0 32 + 1) % 2 ^ 32 ∧ others u ∧ u.pan = a.pan
          ((∃ w ∈ ws, w.poison = true) →
            ∃ u : State, exec (.kernelStart dt n none) s = .next u.settle ∧ counted u ∧ (u.eng e).run = none ∧ (u.eng e).skipped = true ∧ bit (u.rd (engA e 4)) 0 = true
              ∧ u.reports = a.reports ++ [⟨0x410 + e, 0, a.htick⟩] ∧ u.launched = a.launched ++ [⟨0xC03 + 4 * e, a.htick⟩]) ∧
          ((∀ w ∈ ws, w.poison = false) → dPassEn x.act = false →
            (it.skip = true → ∃ u : State, exec (.kernelStart dt n none) s = .next u.settle ∧ counted u ∧ (u.eng e).run = none ∧ (u.eng e).skipped = true
              ∧ u.rf (engA e 0x14) 0 16 = min (a.rf (engA e 0x14) 0 16 + 1) 65535 ∧ u.launched = a.launched ∧ u.reports = a.reports) ∧
            (it.skip = false → dKernel x.act ≠ 4 ∨ x.latched = false →
              ∃ (u : State) (t : DWord), exec (.kernelStart dt n none) s = .next u.settle ∧ counted u
                ∧ (u.eng e).run = some ([it.v, it.i, it.x, it.ts, t], a.htick + BitVec.ofNat 64 x.cost) ∧ (u.eng e).skipAge = x.skipAge + 1
                ∧ u.launched = a.launched ∧ u.reports = a.reports)))) ∧
      (∀ (v i xv ts t y : DWord), x.run = some ([v, i, xv, ts, t], y) → (a.htick - y).toNat < 2 ^ 63 → x.closeDue = false → x.resetDue = false →
        (dKernel x.act = 3 → x.seg.length + 1 ≠ dsc x.act 32 4 →
          ∃ u : State, exec (.kernelEnd dt n none) s = .next u.settle ∧ u.eng e = { x with run := none, seg := (v, i) :: x.seg, lastTs := ts } ∧ others u ∧ { u with engs := a.engs } = a) ∧
        (dKernel x.act = 2 → (x.n + 1) % dsc x.act 34 4 ≠ 0 →
          ∃ u : State, exec (.kernelEnd dt n none) s = .next u.settle
            ∧ u.eng e = { x with run := none, xs := (xv :: x.xs).take (dsc x.act 32 2), n := x.n + 1, lastTs := ts } ∧ others u ∧ { u with engs := a.engs } = a) ∧
        (dKernel x.act = 2 → (x.n + 1) % dsc x.act 34 4 = 0 → dOutEn x.act = false →
          ∃ u : State, exec (.kernelEnd dt n none) s = .next u.settle ∧ (u.eng e).run = none ∧ (u.eng e).n = x.n + 1 ∧ (u.eng e).outSeq = (x.outSeq + 1) % 65536
            ∧ u.rf (engA e 0x10) 0 32 = (a.rf (engA e 0x10) 0 32 + 1) % 2 ^ 32 ∧ u.launched = (if dEvEach x.act then a.launched ++ [⟨0xC01 + 4 * e, a.htick⟩] else a.launched)
            ∧ others u ∧ u.pan = a.pan ∧ u.chutes = a.chutes)) ∧
      (a.engFenced e = false → x.act ≠ [] →
        (x.run.isSome = true →
          ∃ u : State, exec (.tiStdClose dt n none) s = .next u.settle ∧ u.eng e = { x with closeDue := true } ∧ (u.ti (0x1A0 + 2 * e)).pend = (a.ti (0x1A0 + 2 * e)).pend - 1
            ∧ others u ∧ { u with engs := a.engs, hwyTi := a.hwyTi } = a) ∧
        (x.run = none → x.closeDue = false → dKernel x.act ≠ 6 →
          ∃ u : State, exec (.tiStdReset dt n none) s = .next u.settle ∧ u.eng e = { x.cleared with resetDue := false } ∧ (u.ti (0x1A1 + 2 * e)).pend = (a.ti (0x1A1 + 2 * e)).pend - 1
            ∧ others u ∧ { u with engs := a.engs, hwyTi := a.hwyTi } = a)) ∧
      (∃ u : State, exec (.studyFence dt n) s = .next u.settle ∧ u.engFenced e = true
        ∧ u.eng e = { x with act := [], pend := none, run := none, words := [], closeDue := false, resetDue := false } ∧ others u
        ∧ { u with engs := a.engs, fences := a.fences, fencedUnits := a.fencedUnits } = a))

/-- R419 to R426, R436 to R439, R446. The message's session is known (R424) and its sequence number one above the highest, or one executed. What a port
last handed to the MAC is kept in the port's record. -/
def Obligations.PorchLinksMessagesAndClock : Prop :=
  ∀ (s a : State) (dt : Elapse) (q : Fin 2), s.advance dt = a → a.calm →
    let x := a.port q.val
    let rest := fun u : State => ∀ m : Nat, m ≠ q.val → u.port m = a.port m
    let netOnly := fun u : State => { u with net := a.net } = a
    let dropped := fun u : State => u.rf (prcA q.val 0x14) 16 16 = min (a.rf (prcA q.val 0x14) 16 16 + 1) 65535
      ∧ (∀ k : Nat, k ≠ prcA q.val 0x14 → k ≠ prcA q.val 8 → u.rd k = a.rd k) ∧ u.net.reqs = a.net.reqs ∧ u.net.rsps = a.net.rsps ∧ u.net.sess = a.net.sess ∧ u.reports = a.reports
    (a.portEnabled q.val = true → x.linkUp = false →
      (5000000 ≤ a.since x.tryAt → ∃ u : State, exec (.portBlockLock dt q) s = .next u.settle ∧ (u.port q.val).linkUp = true ∧ (u.port q.val).serving = x.serving
        ∧ (a.committed = true → a.rf (prcA q.val 0) 1 2 = 1 → (u.port q.val).at25g = true) ∧ (a.committed = true → a.rf (prcA q.val 0) 1 2 = 2 → (u.port q.val).at25g = false)
        ∧ (a.rf (prcA q.val 0) 1 2 = 0 → (u.port q.val).at25g = !x.try10) ∧ rest u ∧ netOnly u) ∧
      (a.rf (prcA q.val 0) 1 2 = 0 → 250000000 ≤ a.since x.tryAt → ∃ u : State, exec (.speedTryExpiry dt q) s = .next u.settle
        ∧ u.port q.val = { x with tryAt := a.htick, try10 := !x.try10 } ∧ rest u ∧ netOnly u)) ∧
    (x.linkUp = true → ∃ u : State, exec (.portLinkDown dt q) s = .next u.settle ∧ u.port q.val = { x with linkUp := false, downAt := a.htick, foMs := a.rf 0xA404 2 8, tryAt := a.htick, try10 := false } ∧ rest u
      ∧ bit (u.rd (prcA q.val 8)) 0 = true ∧ u.reports = a.reports ++ [⟨0x405 + q.val, 0, a.htick⟩] ∧ (∀ k : Nat, k ≠ prcA q.val 8 → u.rd k = a.rd k)
      ∧ { u with net := a.net, regs := a.regs, tickSet := a.tickSet, reports := a.reports } = a) ∧
    (a.portOn q.val = true → a.committed = true → bit (a.rd (prcA q.val 0)) 5 = false → x.serving = false →
      (∀ ip : Word, ip ≠ 0#32 → ip = a.rd (prcA q.val 0x20) → ∃ u : State, exec (.networkHousekeepingFrame dt q none (.arp ip)) s = .next u.settle
        ∧ u.port q.val = { x with sent := [.arpReply ip (a.portMac q.val)] } ∧ rest u ∧ netOnly u) ∧
      (∀ ip : Word, ip ≠ a.rd (prcA q.val 0x20) → ∃ u : State, exec (.networkHousekeepingFrame dt q none (.arp ip)) s = .next u.settle
        ∧ u.port q.val = { x with sent := [] } ∧ rest u ∧ netOnly u) ∧
      (∃ u : State, exec (.networkHousekeepingFrame dt q none .fragment) s = .next u.settle ∧ bit (u.rd (prcA q.val 8)) 2 = true ∧ dropped u) ∧
      (∃ u : State, exec (.networkHousekeepingFrame dt q none .badFcs) s = .next u.settle ∧ u.rf (prcA q.val 0x14) 0 16 = min (a.rf (prcA q.val 0x14) 0 16 + 1) 65535
        ∧ (∀ k : Nat, k ≠ prcA q.val 0x14 → u.rd k = a.rd k))) ∧
    (∀ d : Datagram, a.reaches q.val d = true → a.committed = true →
      (msgOf d.payload = none → ∃ u : State, exec (.claondeaMessage dt q d) s = .next u.settle ∧ bit (u.rd (prcA q.val 8)) 2 = true ∧ dropped u) ∧
      (∀ m : Msg, msgOf d.payload = some m → a.nodeOk m = true → m.op ≠ 0x31 →
        (a.authFails m = some true → ∃ u : State, exec (.claondeaMessage dt q d) s = .next u.settle ∧ bit (u.rd (prcA q.val 8)) 3 = true ∧ dropped u) ∧
        (∀ i : Nat, a.authFails m = none → a.findSess d.src d.sport.toNat m.sid = some i →
          let y := a.sess i
          let counted := fun u : State => u.rf (prcA q.val 0x0C) 0 32 = (a.rf (prcA q.val 0x0C) 0 32 + 1) % 2 ^ 32 ∧ (∀ k : Nat, k ≠ prcA q.val 0x0C → u.rd k = a.rd k)
            ∧ (u.sess i).idleAt = a.htick ∧ (∀ j : Nat, j ≠ i → u.sess j = a.sess j)
          (m.seq = (y.h + 1) % 2 ^ 32 → y.h < 2 ^ 32 → m.kind = 0 → m.noReply = false → a.tagHeld m.tag = false →
            ∃ u : State, exec (.claondeaMessage dt q d) s = .next u.settle ∧ counted u ∧ (u.sess i).h = m.seq ∧ bit (u.sess i).doing 0 = true ∧ bit (u.sess i).done 0 = false
              ∧ u.netTags = m.tag :: a.netTags ∧ u.net.rsps = a.net.rsps
              ∧ u.net.reqs = a.net.reqs ++ [⟨q.val, i, m.op, m.tag, m.seq, false, if m.auth then some m.key else none, true, m.body⟩]
              ∧ { u with net := a.net, netTags := a.netTags, regs := a.regs, tickInc := a.tickInc } = a) ∧
          (m.seq = (y.h + 1) % 2 ^ 32 → y.h < 2 ^ 32 → m.kind = 0 → m.noReply = false → a.tagHeld m.tag = true →
            ∃ (u : State) (b : List Byte), exec (.claondeaMessage dt q d) s = .next u.settle ∧ counted u ∧ u.net.reqs = a.net.reqs ∧ u.netTags = a.netTags
              ∧ u.net.rsps = a.net.rsps ++ [⟨q.val, i, none, m.seq, false, b⟩] ∧ fld b 6 2 / 256 = 5 ∧ bit (u.sess i).doing 0 = false ∧ bit (u.sess i).done 0 = false) ∧
          (∀ b : List Byte, m.noReply = false → y.judge m.seq false = 2 → y.cache.find? (fun e => e.1 == m.seq) = some (m.seq, b) →
            ∃ u : State, exec (.claondeaMessage dt q d) s = .next u.settle ∧ counted u ∧ u.net.reqs = a.net.reqs ∧ u.netTags = a.netTags
              ∧ u.net.rsps = a.net.rsps ++ [⟨q.val, i, none, m.seq, false, b⟩])))) ∧
    (a.tod.st = 1 ∨ a.tod.st = 4 →
      exec (.ptpMessage dt .announce) s = .next (State.settle { a with tod := { a.tod with annAt := a.htick, st := 2 } })) ∧
    (∀ ofs : Int, a.tod.st = 2 ∨ a.tod.st = 3 → -(2 ^ 31 : Int) ≤ ofs → ofs < 2 ^ 31 →
      (1000000 < ofs.natAbs → ∃ u : State, exec (.ptpMessage dt (.sync ofs)) s = .next u.settle ∧ u.tod = { ({ a.tod with offset := BitVec.ofInt 32 ofs } : Tod).shift (-ofs) with run := 0 }
        ∧ bit (u.rd 0xA494) 1 = true ∧ (∀ k : Nat, k ≠ 0xA494 → u.rd k = a.rd k) ∧ { u with tod := a.tod, regs := a.regs, tickSet := a.tickSet } = a) ∧
      (ofs.natAbs ≤ 1000000 → ∃ u : State, exec (.ptpMessage dt (.sync ofs)) s = .next u.settle ∧ u.tod.offset = BitVec.ofInt 32 ofs
        ∧ u.tod.run = (if ofs.natAbs < 100 then min (a.tod.run + 1) 16 else 0) ∧ u.tod.st = (if ofs.natAbs < 100 ∧ 15 ≤ a.tod.run then 3 else a.tod.st)
        ∧ u.tod.sec = a.tod.sec ∧ u.tod.sub = a.tod.sub ∧ { u with tod := a.tod, freeCtr := a.freeCtr } = a)) ∧
    (a.tod.st = 2 ∨ a.tod.st = 3 → ∃ u : State, exec (.announceTimeout dt) s = .next u.settle ∧ u.tod = { a.tod with st := 4, run := 0 } ∧ bit (u.rd 0xA494) 0 = true
      ∧ (∀ k : Nat, k ≠ 0xA494 → u.rd k = a.rd k) ∧ { u with tod := a.tod, regs := a.regs, tickSet := a.tickSet } = a) ∧
    (x.linkUp = false → 500000 * x.foMs ≤ a.since x.downAt → a.fences.contains (0x405 + q.val) = false → bit (a.rd 0xA404) 1 = true →
      x.moved = false → (a.port (1 - q.val)).moved = false → a.portFenced (1 - q.val) = false →
      ∃ u : State, exec (.failover dt q) s = .next u.settle ∧ u.port q.val = { x with moved := true } ∧ (u.port (1 - q.val)).serving = true
        ∧ (u.port (1 - q.val)).sent = [.announce (a.portIp4 q.val) ((a.portIp6 q.val).headD 0#128) (a.portMac (1 - q.val))]
        ∧ bit (u.rd (prcA q.val 8)) 1 = true ∧ bit (u.rd (prcA (1 - q.val) 8)) 1 = true
        ∧ u.reports = a.reports ++ [⟨0x405 + q.val, 1, a.htick⟩, ⟨0x405 + (1 - q.val), 1, a.htick⟩] ∧ u.pan = a.pan ∧ u.chutes = a.chutes) ∧
    (∀ p : Path, a.committed = true →
      (∀ r : Fin 2, (a.port r.val).moved = true → (a.port r.val).linkUp = true → a.portFenced r.val = false → (a.port (1 - r.val)).moved = false →
        ∃ u : State, exec (.failback dt p) s = .next u.settle ∧ u.replies = Tbl.put a.replies (Path.idx p) ⟨0, 0#32⟩ ∧ (u.port r.val).moved = false ∧ (u.port (1 - r.val)).serving = false
          ∧ (u.port r.val).linkUp = true ∧ { u with net := a.net, replies := a.replies } = a) ∧
      exec (.clrSessions dt p) s = .next (State.settle { a with net := { a.net with sess := [], subs := [], evs := [] }, replies := Tbl.put a.replies (Path.idx p) ⟨0, 0#32⟩ }))

/-- R425 to R435. The accesses of the messages that write are those of the operation `writes`, one after the other in body order, on the path of the
receiving port; statements O9 to O12 say what one access does. The state after them starts no run of the calibration sequencer. -/
def Obligations.MessageOperations : Prop :=
  ∀ (s a : State) (dt : Elapse) (q : Fin 2), s.advance dt = a → a.calm →
    (∀ (op : Nat) (r : NetReq), a.net.reqs.find? (fun r => r.port == q.val && r.op == op) = some r →
      let a1 : State := { a with net := { a.net with reqs := a.net.reqs.erase r } }
      let b := r.body
      let n := fld b 0 2
      let answered := fun (u v : State) (st : Nat) (body : List Byte) =>
        (r.noReply = true → u = v.setSess r.sess ((v.sess r.sess).mark r.seq false true)) ∧
        (r.noReply = false → u = { v with net := { v.net with rsps := v.net.rsps ++ [⟨r.port, r.sess, if r.claimed then some r.tag else none, r.seq, decide (body.length ≤ 2016),
          v.message r.op v.nodeId r.tag (1 + 256 * st) r.seq (v.sess r.sess).sid r.key body⟩] } })
      let written := fun (c : Instr) (es : List Ecc) (ws : List (Nat × Word)) =>
        let x := a1.writes (portPath q.val) es ws
        x.s.calm → (∀ d : Nat, d < 2 → x.s.domUsable d = a.domUsable d) →
          ∃ u : State, exec c s = .next u.settle ∧ answered u x.s x.status (leBytes 2 x.n ++ leBytes 2 (match x.bad with | some e => e.2 | none => 0xFFFF))
      let valued := fun (c : Instr) (as : List Nat) =>
        (∀ k ∈ as, ∃ w : RegRow, regRow k = some w ∧ w.part = .single ∧ inPantry k = false) → a.committed = true →
          ∃ u : State, exec c s = .next u.settle ∧ answered u a1 0 (leBytes 2 as.length ++ leBytes 2 0xFFFF
            ++ as.flatMap (fun k => match regRow k with | some w => leBytes 4 (a1.view (portPath q.val) k (a1.keyOf (portPath q.val) k w)).toNat | none => []))
      let bad := fun c : Instr => ∃ u : State, exec c s = .next u.settle ∧ answered u a1 0x08 []
      (op = 0x01 → (b ≠ [] → bad (.ping dt q)) ∧
        (b = [] → ∃ u : State, exec (.ping dt q) s = .next u.settle ∧ answered u a1 0 (leBytes 8 a.htick.toNat ++ leBytes 2 a.nodeId ++ leBytes 2 0))) ∧
      (op = 0x02 → ∀ es : List Ecc,
        (b.length ≠ 4 + 4 * n ∨ n = 0 ∨ 256 < n ∨ fld b 2 2 ≠ 0 → bad (.regRead dt q es)) ∧
        (b.length = 4 + 4 * n → n ≠ 0 → n ≤ 256 → fld b 2 2 = 0 → valued (.regRead dt q es) ((bodyWords (b.drop 4) n).map BitVec.toNat))) ∧
      (op = 0x03 → ∀ es : List Ecc,
        (b.length ≠ 4 + 8 * n ∨ n = 0 ∨ 256 < n ∨ fld b 2 2 ≠ 0 → bad (.regWrite dt q es)) ∧
        (b.length = 4 + 8 * n → n ≠ 0 → n ≤ 256 → fld b 2 2 = 0 → written (.regWrite dt q es) es (bodyPairs (b.drop 4) n))) ∧
      (op = 0x04 → ∀ es : List Ecc,
        (b.length ≠ 8 ∨ fld b 4 2 = 0 ∨ 1024 < fld b 4 2 ∨ fld b 6 2 ≠ 0 → bad (.blkRead dt q es)) ∧
        (b.length = 8 → fld b 4 2 ≠ 0 → fld b 4 2 ≤ 1024 → fld b 6 2 = 0 → valued (.blkRead dt q es) (ascend (fld b 0 4) (fld b 4 2)))) ∧
      (op = 0x05 → ∀ es : List Ecc,
        (b.length ≠ 8 + 4 * fld b 4 2 ∨ fld b 4 2 = 0 ∨ 1024 < fld b 4 2 ∨ fld b 6 2 ≠ 0 → bad (.blkWrite dt q es)) ∧
        (b.length = 8 + 4 * fld b 4 2 → fld b 4 2 ≠ 0 → fld b 4 2 ≤ 1024 → fld b 6 2 = 0 →
          written (.blkWrite dt q es) es (List.zip (ascend (fld b 0 4) (fld b 4 2)) (bodyWords (b.drop 8) (fld b 4 2))))) ∧
      (a.committed = true →
        (op = 0x10 → b.length = 8 + fld b 4 2 → fld b 0 4 % 8 = 0 → fld b 4 2 % 8 = 0 → 8 ≤ fld b 4 2 → fld b 4 2 ≤ 4096 → fld b 0 4 + fld b 4 2 ≤ 0x80000 → fld b 6 1 ≤ 1 → fld b 7 1 ≤ 7 →
          written (.ovlLoad dt q) [] (windowWrites a.stageBank (fld b 0 4) (bodyWords (b.drop 8) (fld b 4 2 / 4)) ++ applyWrite (fld b 6 1 == 1) (fld b 7 1))) ∧
        (op = 0x11 → b.length = 52 + 16 * fld b 2 2 → fld b 0 1 ≤ 31 → fld b 1 1 ≤ 1 → fld b 2 2 ≤ 508 → fld b 4 4 + fld b 2 2 ≤ 32768 →
          written (.sweepLoad dt q) [] (List.zip (ascend (ctxA (fld b 0 1) 0) 11) (bodyWords (b.drop 8) 11)
            ++ windowWrites a.stepBank (16 * fld b 4 4) (bodyWords (b.drop 52) (4 * fld b 2 2)) ++ (if fld b 1 1 = 1 then [(ctxA (fld b 0 1) 0x2C, 1#32)] else []))) ∧
        (op = 0x20 → b.length = 40 → fld b 0 1 ≤ 31 → fld b 1 1 ≤ 1 → fld b 1 1 = 0 ∨ (fld b 2 2 ≠ 0 ∧ 8 ≤ fld b 4 2 ∧ fld b 4 2 ≤ 496) →
          ∃ u v, exec (.streamSub dt q) s = .next u.settle ∧ answered u v 0 [] ∧ { v with net := { v.net with subs := a1.net.subs } } = a1
            ∧ v.strm (fld b 0 1) = (if fld b 1 1 = 1 then { on := true, sess := r.sess, port := q.val, key := r.key, flushUs := fld b 2 2, maxWords := fld b 4 2, dest := fld b 6 2, mask := fld b 8 32 } else {})
            ∧ (∀ i : Nat, i ≠ fld b 0 1 → v.strm i = a.strm i)) ∧
        (op = 0x30 → b.length = 36 → fld b 0 1 ≤ 7 → fld b 1 1 ≤ 3 → fld b 1 1 % 2 = 0 ∨ fld b 2 2 ≠ 0 →
          ∃ u v, exec (.eventSub dt q) s = .next u.settle ∧ answered u v 0 [] ∧ { v with net := { v.net with evs := a1.net.evs } } = a1
            ∧ v.evSub (fld b 0 1) = (if fld b 1 1 % 2 = 1 then { on := true, sess := r.sess, port := q.val, key := r.key, autoClr := fld b 1 1 / 2 == 1, holdUs := fld b 2 2, mask := fld b 4 32 } else {})
            ∧ (∀ i : Nat, i ≠ fld b 0 1 → v.evSub i = a.evSub i)) ∧
        (op = 0x32 → b.length = 4 → fld b 2 2 = 0 →
          ∃ u : State, exec (.eventFire dt q) s = .next u.settle
            ∧ answered u { a1 with launched := a.launched ++ ((List.range 16).filter (fun k => fld b 0 2 / 2 ^ k % 2 == 1)).map (fun k => ⟨0xD00 + k, a.htick⟩) } 0 []) ∧
        (op = 0x40 → b.length = 8 → fld b 0 1 ≤ 15 → fld b 1 1 = 0 →
          let t : BitVec 48 := BitVec.ofNat 48 (fld b 2 6)
          a.tPassed t = false →
          ∃ u v, exec (.mcStart dt q) s = .next u.settle ∧ answered u v 0 [] ∧
            (∀ c : Nat, c < 32 → a.rf (ctxA c 0) 12 4 = fld b 0 1 → a.rf (ctxA c 0) 4 2 = 2 →
              ((a.ctx c).st = .armed → v.ctx c = { a.ctx c with t := some t }) ∧
              ((a.ctx c).st ≠ .armed → v.ctx c = a.ctx c ∧ bit (v.rd (ctxA c 0x34)) 3 = true ∧ (⟨0x420, 4, a.htick⟩ : Report) ∈ v.reports)) ∧
            (∀ c : Nat, c < 32 → a.rf (ctxA c 0) 12 4 ≠ fld b 0 1 ∨ a.rf (ctxA c 0) 4 2 ≠ 2 → v.ctx c = a.ctx c) ∧
            { v with ctxs := a.ctxs, regs := a.regs, tickSet := a.tickSet, reports := a.reports } = a1)) ∧
      (a.committed = false → op = 0x32 → ∃ u : State, exec (.eventFire dt q) s = .next u.settle ∧ answered u a1 0x02 [])) ∧
    (∀ r : NetRsp, a.net.rsps.find? (fun r => r.port == q.val) = some r → r.sess < 16 →
      let x := a.sess r.sess
      ∃ u : State, exec (.responseHandover dt q) s = .next u.settle ∧ (u.port q.val).sent = [.message x.src x.udp r.bytes] ∧ u.net.rsps = a.net.rsps.erase r ∧ u.net.reqs = a.net.reqs
        ∧ u.netTags = (match r.tag with | some t => a.netTags.erase t | none => a.netTags)
        ∧ u.rf (prcA q.val 0x10) 0 32 = (a.rf (prcA q.val 0x10) 0 32 + 1) % 2 ^ 32 ∧ (∀ k : Nat, k ≠ prcA q.val 0x10 → u.rd k = a.rd k)
        ∧ (∀ j : Nat, j ≠ r.sess → u.sess j = a.sess j)
        ∧ (bit x.doing ((x.h + 2 ^ 32 - r.seq) % 2 ^ 32) = false → u.sess r.sess = x)
        ∧ (bit x.doing ((x.h + 2 ^ 32 - r.seq) % 2 ^ 32) = true →
            bit (u.sess r.sess).done ((x.h + 2 ^ 32 - r.seq) % 2 ^ 32) = true ∧ bit (u.sess r.sess).doing ((x.h + 2 ^ 32 - r.seq) % 2 ^ 32) = false
            ∧ (r.keep = true → (u.sess r.sess).cache.head? = some (r.seq, r.bytes) ∧ (u.sess r.sess).cache.length ≤ 16) ∧ (r.keep = false → (u.sess r.sess).cache = x.cache))
        ∧ { u with net := a.net, netTags := a.netTags, regs := a.regs, tickInc := a.tickInc } = a)

/-- R430, R432. One subscription covers the Chute, and there is room for the item (R431). The sequence numbers of messages that the controller
begins are open (free word of log 2). -/
def Obligations.StreamsAndNotifications : Prop :=
  ∀ (s a : State) (dt : Elapse), s.advance dt = a → a.calm →
    (∀ (c : Fin 256) (p m i : Nat),
      let x := a.chuTick c.val
      let b := a.chuBank c.val
      let at_ := fun j : Nat => a.chuBase c.val + (x.r + BitVec.ofNat 17 j).toNat % a.chuDepth c.val
      let ws := (List.range m).map (fun j => a.panWord b (at_ j))
      let y := a.strm i
      let g := Tbl.get {} y.grams c.val
      a.smap c.val = some (p, m) → a.portOn p = true → (List.range 32).filter (fun i => (a.strm i).covers c.val) = [i] → m ≤ x.level →
      x.flush = false → x.ovf = none → a.chuDepth c.val ≠ 0 → a.owner b = 5 → (a.bank b).withdrawn = false → a.borrow = none → (∀ j : Nat, j < m → a.poisoned b (at_ j) = false) →
      (4 ≤ m → ws.getLast? = some allOnes →
        ∃ u : State, exec (.streamItemCopy dt c .clean) s = .next u.settle ∧ (u.chute c.val).r = x.r + BitVec.ofNat 17 m ∧ (u.chute c.val).w = x.w ∧ u.net.subs = a.net.subs ∧ u.pan = a.pan) ∧
      ((4 ≤ m → ws.getLast? ≠ some allOnes) → g.words.length + m ≤ y.maxWords → a.txWords p + m ≤ 32768 →
        ∃ u : State, exec (.streamItemCopy dt c .clean) s = .next u.settle ∧ (u.chute c.val).r = x.r + BitVec.ofNat 17 m ∧ (u.chute c.val).w = x.w
          ∧ Tbl.get {} (u.strm i).grams c.val = { g with words := g.words ++ ws, items := g.items + 1, m := m, first := if g.words = [] then a.htick else g.first }
          ∧ (∀ k : Nat, k ≠ c.val → Tbl.get {} (u.strm i).grams k = Tbl.get {} y.grams k) ∧ (u.strm i).drops = y.drops ∧ (∀ k : Nat, k ≠ i → u.strm k = a.strm k)
          ∧ (∀ k : Nat, k ≠ c.val → u.chute k = a.chute k) ∧ (u.port p).sent = [] ∧ { u with net := a.net, chutes := a.chutes } = a)) ∧
    (∀ (j : Fin 32) (c : Fin 256) (p m : Nat),
      let x := a.strm j.val
      let g := Tbl.get {} x.grams c.val
      let y := a.sess x.sess
      a.smap c.val = some (p, m) → x.on = true → g.words ≠ [] → a.portOn p = true → x.maxWords ≤ g.words.length ∨ 500 * x.flushUs ≤ a.since g.first →
      ∃ (u : State) (q : Nat), exec (.streamDataSend dt j c) s = .next u.settle
        ∧ (u.port p).sent = [.message y.src (if x.dest = 0 then y.udp else x.dest) (a.message 0x21 a.nodeId 0 0 q y.sid x.key
            (leBytes 1 c.val ++ leBytes 1 g.m ++ leBytes 2 g.items ++ leBytes 4 g.num ++ leBytes 2 (min g.dropped 65535) ++ leBytes 2 0 ++ leBytes 4 a.htick.toNat
              ++ g.words.flatMap (fun w => leBytes 8 w.toNat)))]
        ∧ Tbl.get {} (u.strm j.val).grams c.val = { num := (g.num + 1) % 2 ^ 32 } ∧ (∀ k : Nat, k ≠ c.val → Tbl.get {} (u.strm j.val).grams k = Tbl.get {} x.grams k)
        ∧ (∀ k : Nat, k ≠ j.val → u.strm k = a.strm k) ∧ u.rf (prcA p 0x10) 0 32 = (a.rf (prcA p 0x10) 0 32 + 1) % 2 ^ 32
        ∧ (∀ k : Nat, k ≠ prcA p 0x10 → u.rd k = a.rd k) ∧ { u with net := a.net, regs := a.regs, tickInc := a.tickInc, freeCtr := a.freeCtr } = a) ∧
    (∀ i : Fin 8,
      let x := a.evSub i.val
      let p := a.subPort x.port
      let v := Nat.land a.watchBits x.mask
      let y := a.sess x.sess
      let others := fun u : State => ∀ k : Nat, k ≠ i.val → u.evSub k = a.evSub k
      (x.on = true → v ≠ 0 → a.portOn p = true → p < 2 → (∀ t : DWord, x.lastAt = some t → 500 * x.holdUs ≤ a.since t) →
        ∃ (u : State) (q : Nat), exec (.eventNotify dt i) s = .next u.settle
          ∧ (let b := a.message 0x31 a.nodeId 0 0 q y.sid x.key (leBytes 8 a.htick.toNat ++ leBytes 32 v)
             (u.port p).sent = [.message y.src y.udp b] ∧ u.evSub i.val = { x with lastAt := some a.htick, body := b, sends := 1, sentAt := a.htick })
          ∧ others u
          ∧ (x.autoClr = false → ∀ k : Nat, k ≠ prcA p 0x10 → u.rd k = a.rd k)
          ∧ (x.autoClr = true → (∀ j : Nat, j < 8 → Tbl.get 0#32 a.tickSet (0x5010 + 4 * j) = 0#32) →
              (∀ j : Nat, j < 8 → u.rd (0x5010 + 4 * j) = a.rd (0x5010 + 4 * j) &&& ~~~(BitVec.ofNat 32 (x.mask / 2 ^ (32 * j)))) ∧
              (∀ k : Nat, k ≠ prcA p 0x10 → (∀ j : Nat, j < 8 → k ≠ 0x5010 + 4 * j) → u.rd k = a.rd k))
          ∧ { u with net := a.net, regs := a.regs, tickInc := a.tickInc, freeCtr := a.freeCtr } = a) ∧
      (x.on = true → x.body ≠ [] → 500000 ≤ a.since x.sentAt →
        (x.sends < 8 → ∃ u : State, exec (.notifyResend dt i) s = .next u.settle ∧ (u.port p).sent = [.message y.src y.udp x.body]
          ∧ u.evSub i.val = { x with sends := x.sends + 1, sentAt := a.htick } ∧ others u ∧ (∀ k : Nat, k ≠ prcA p 0x10 → u.rd k = a.rd k)
          ∧ { u with net := a.net, regs := a.regs, tickInc := a.tickInc } = a) ∧
        (8 ≤ x.sends → ∃ u : State, exec (.notifyResend dt i) s = .next u.settle ∧ bit (u.rd (prcA p 8)) 6 = true ∧ u.reports = a.reports ++ [⟨0x405 + p, 6, a.htick⟩]
          ∧ u.evSub i.val = { x with body := [], sends := 0 } ∧ others u ∧ (∀ k : Nat, k ≠ prcA p 8 → u.rd k = a.rd k)
          ∧ { u with net := a.net, regs := a.regs, tickSet := a.tickSet, reports := a.reports } = a)) ∧
      (∃ u : State, exec (.eventNotifyAck dt i) s = .next u.settle ∧ u.evSub i.val = { x with body := [], sends := 0 } ∧ others u ∧ { u with net := a.net } = a))

/-- R440 to R442. Frames are given by their bytes up to their CRC; multi-byte fields are big-endian. The registers read are single ones outside the window;
the accesses of a write are those of the operation `writes` on the Side Door's path (statements O9 to O12). -/
def Obligations.SideDoorFrames : Prop :=
  ∀ (s a : State) (dt : Elapse), s.advance dt = a → a.calm →
    let framed := fun u : State => u.rf 0xD004 0 16 = (a.rf 0xD004 0 16 + 1) % 65536
    let err := fun (u : State) (i : Nat) => bit (u.rd 0xD000) i = true ∧ u.rf 0xD004 16 16 = min (a.rf 0xD004 16 16 + 1) 65535
      ∧ u.reports = (if i < 2 then a.reports ++ [⟨0x407, i, a.htick⟩] else a.reports) ∧ (∀ k : Nat, k ≠ 0xD000 → k ≠ 0xD004 → u.rd k = a.rd k)
      ∧ { u with regs := a.regs, tickSet := a.tickSet, tickInc := a.tickInc, reports := a.reports, sdOut := a.sdOut } = a
    (a.sdFenced = false →
      (∀ (b : List Byte) (es : List Ecc) (late : Bool), b.length = 7 → sdOp b = 1 →
        let as := ascend (beNat ((b.take 5).drop 1)) (sdWords b)
        (crc16 (b.take 5) = beNat (b.drop 5) → a.committed = true → (∀ k ∈ as, k ≠ 0xD004 ∧ ∃ w : RegRow, regRow k = some w ∧ w.part = .single ∧ inPantry k = false) →
          ∃ (u v : State), exec (.sideDoorRead dt b es late) s = .next u.settle ∧ framed u ∧ u.sdLast = 0
            ∧ u.sdOut = (if late then sdAnswer 0xFF (List.replicate (4 * sdWords b) 0xFF#8)
                else sdAnswer 0 (as.flatMap (fun k => match regRow k with | some w => beBytes 4 (v.view .sideDoor k (v.keyOf .sideDoor k w)).toNat | none => [])))
            ∧ (∀ k : Nat, k ≠ 0xD004 → v.rd k = a.rd k) ∧ { v with regs := a.regs, tickInc := a.tickInc } = a ∧ { u with sdOut := v.sdOut, sdLast := v.sdLast } = v) ∧
        (crc16 (b.take 5) ≠ beNat (b.drop 5) → ∃ u : State, exec (.sideDoorRead dt b es late) s = .next u.settle ∧ framed u ∧ err u 0 ∧ u.sdOut = [0x09#8])) ∧
      (∀ (b : List Byte) (es : List Ecc) (late : Bool), sdOp b = 2 → b.length = 7 + 4 * sdWords b →
        let n := b.length - 2
        let ws := List.zip (ascend (beNat (((b.take n).drop 1).take 4)) (sdWords b)) ((entries 4 (sdWords b) ((b.take n).drop 5)).map (fun w => BitVec.ofNat 32 (beNat w)))
        (crc16 (b.take n) = beNat (b.drop n) →
          let x := (a.incWrap 0xD004 0 16).writes .sideDoor es ws
          x.s.calm → (∀ d : Nat, d < 2 → x.s.domUsable d = a.domUsable d) →
            exec (.sideDoorWrite dt b es late) s = .next (State.settle { x.s with sdLast := x.status, sdOut := leBytes 1 (if late then 0xFF else x.status) })) ∧
        (crc16 (b.take n) ≠ beNat (b.drop n) → ∃ u : State, exec (.sideDoorWrite dt b es late) s = .next u.settle ∧ framed u ∧ err u 0 ∧ u.sdOut = [0x09#8])) ∧
      (∀ b : List Byte, b.length = 3 → fld b 0 1 = 0xC0 → crc16 (b.take 1) = beNat (b.drop 1) →
        ∃ u : State, exec (.sideDoorStatus dt b) s = .next u.settle ∧ framed u ∧ u.sdOut = leBytes 1 a.sdLast ∧ (∀ k : Nat, k ≠ 0xD004 → u.rd k = a.rd k)
          ∧ { u with regs := a.regs, tickInc := a.tickInc, sdOut := a.sdOut } = a) ∧
      (∀ b : List Byte, 3 ≤ b.length → fld b 0 1 < 64 →
        (crc16 (b.take (b.length - 2)) = beNat (b.drop (b.length - 2)) → ∃ u : State, exec (.sideDoorBadCmd dt b) s = .next u.settle ∧ framed u ∧ err u 2 ∧ u.sdOut = [0x07#8]) ∧
        (crc16 (b.take (b.length - 2)) ≠ beNat (b.drop (b.length - 2)) → ∃ u : State, exec (.sideDoorBadCmd dt b) s = .next u.settle ∧ framed u ∧ err u 0 ∧ u.sdOut = [0x09#8])) ∧
      (∃ u : State, exec (.frameErr dt) s = .next u.settle ∧ err u 1 ∧ u.rf 0xD004 0 16 = a.rf 0xD004 0 16 ∧ u.sdOut = [])) ∧
    exec (.sideDoorFence dt) s = .next (State.settle { a with fences := a.fences.filter (fun u => u != 0x407), fencedUnits := 0x407 :: a.fencedUnits.filter (fun u => u != 0x407) }) ∧
    (a.sdFenced = true → ∀ (b : List Byte) (es : List Ecc) (late : Bool), exec (.sideDoorRead dt b es late) s = .next a.settle)

/-- R443 to R445, R447. Fuse places are those of R338 with the byte order of log 16. Where the verification fails, which bits are burned is open. -/
def Obligations.KeeperMailbox : Prop :=
  ∀ (s a : State) (dt : Elapse), s.advance dt = a → a.calm →
    (∀ p : Path, a.committed = true →
      let args := (List.range 4).map (fun i => a.rd (0xD108 + 4 * i))
      (a.kpr.cmd = none → a.kpr.running = true → a.kprFenced = false → a.kpr.activating = false →
        exec (.kprDoorRing dt p) s = .next (State.settle { a with kpr := { a.kpr with cmd := some ⟨a.rf 0xD104 0 8, args, p, a.htick, none⟩ }, replies := Tbl.put a.replies (Path.idx p) ⟨0, 0#32⟩ })) ∧
      (a.kpr.cmd.isSome = true ∨ a.kpr.running = false ∨ a.kprFenced = true ∨ a.kpr.activating = true →
        ∃ u : State, exec (.kprDoorRing dt p) s = .next u.settle ∧ u.replies = Tbl.put a.replies (Path.idx p) ⟨6, 0#32⟩ ∧ bit (u.rd 0xD100) 0 = true ∧ u.kpr = a.kpr
          ∧ (∀ k : Nat, k ≠ 0xD100 → u.rd k = a.rd k) ∧ { u with regs := a.regs, tickSet := a.tickSet, replies := a.replies } = a)) ∧
    (∀ c : KprCmd, a.kpr.cmd = some c → a.kpr.running = true → c.result = none →
      let g := fun i : Nat => (c.args.map BitVec.toNat).getD i 0
      let ends := fun (u : State) (code : Nat) (res : List Word) => u.kpr = { a.kpr with cmd := some { c with result := some (code, res) } }
      let plain := fun (i : Instr) (code : Nat) (res : List Word) =>
        exec i s = .next (State.settle { a with kpr := { a.kpr with cmd := some { c with result := some (code, res) } } })
      let service := a.allService = true ∧ g 1 = 0x4E525542
      let burns := fun (i : Bool → Instr) (m : Nat) =>
        exec (i true) s = .next (State.settle { a with fuses := a.fuses ||| BitVec.ofNat 2048 m, kpr := { a.kpr with cmd := some { c with result := some (0, []) } } }) ∧
        ∃ u : State, exec (i false) s = .next u.settle ∧ ends u 6 [] ∧ (∃ x : BitVec 2048, u.fuses = a.fuses ||| x ∧ x &&& BitVec.ofNat 2048 m = x)
          ∧ { u with fuses := a.fuses, freeCtr := a.freeCtr, kpr := a.kpr } = a
      (c.op = 1 → ∃ (u : State) (va vb : Word), exec (.info dt) s = .next u.settle ∧ ends u 0 [va, vb, BitVec.ofNat 32 (a.kpr.image + 2 * b2n a.kpr.ready)]
        ∧ (∀ d : List Byte, a.cel.unitData 2 0 = some d → va = BitVec.ofNat 32 (fld d 12 4)) ∧ (∀ d : List Byte, a.cel.unitData 2 1 = some d → vb = BitVec.ofNat 32 (fld d 12 4))
        ∧ { u with kpr := a.kpr, freeCtr := a.freeCtr } = a) ∧
      (c.op = 2 →
        (63 < g 0 ∨ a.owner (g 0) ≠ 6 ∨ g 1 = 0 ∨ 0x80000 < g 1 → plain (.imgLoad dt) 2 []) ∧
        (g 0 ≤ 63 → a.owner (g 0) = 6 → g 1 ≠ 0 → g 1 ≤ 0x80000 →
          (a.kprImage (a.panBytes (g 0) 0 (g 1)) = none → plain (.imgLoad dt) 4 []) ∧
          (∀ v : Nat, a.kprImage (a.panBytes (g 0) 0 (g 1)) = some v → a.cel.mount = 2 → a.cel.fenced = false → a.cel.cur.isSome = true → a.cel.queue.any (fun r => r.who == 3) = false →
            ∃ u : State, exec (.imgLoad dt) s = .next u.settle ∧ u.kpr = a.kpr ∧ { u with cel := a.cel } = a
              ∧ u.cel.queue = a.cel.queue ++ [{ id := a.cel.nextId, kind := .unitStore, who := 3, region := 2, item := 1 - a.kpr.image, data := a.panBytes (g 0) 0 (g 1) }]))) ∧
      (c.op = 3 → ∀ ok : Bool,
        (¬ service → plain (.fuseKey dt ok) 3 []) ∧
        (service → 3 < g 0 ∨ 63 < g 2 ∨ a.owner (g 2) ≠ 6 ∨ 0x80000 < g 3 + 48 ∨ bits a.fuses (128 + 384 * g 0) 384 ≠ 0 → plain (.fuseKey dt ok) 2 []) ∧
        (service → g 0 ≤ 3 → g 2 ≤ 63 → a.owner (g 2) = 6 → g 3 + 48 ≤ 0x80000 → bits a.fuses (128 + 384 * g 0) 384 = 0 →
          burns (fun ok => .fuseKey dt ok) (leNat (a.panBytes (g 2) (g 3) 48) * 2 ^ (128 + 384 * g 0)))) ∧
      (c.op = 4 → ∀ ok : Bool,
        (¬ service → plain (.fuseRevoke dt ok) 3 []) ∧ (service → 3 < g 0 → plain (.fuseRevoke dt ok) 2 []) ∧
        (service → g 0 ≤ 3 → burns (fun ok => .fuseRevoke dt ok) (2 ^ (1 + g 0)))) ∧
      (c.op = 5 → ∀ ok : Bool,
        (¬ service → plain (.fuseMinver dt ok) 3 []) ∧ (service → g 0 = 0 ∨ 64 < g 0 ∨ g 0 < a.minVer → plain (.fuseMinver dt ok) 2 []) ∧
        (service → g 0 ≠ 0 → g 0 ≤ 64 → a.minVer ≤ g 0 → burns (fun ok => .fuseMinver dt ok) ((2 ^ g 0 - 1) * 2 ^ 64))) ∧
      (c.op = 6 → ∀ ok : Bool,
        (¬ service → plain (.fuseSecure dt ok) 3 []) ∧ (service → a.cfg.sigKey = none → plain (.fuseSecure dt ok) 3 []) ∧
        (∀ k : Nat, service → a.cfg.sigKey = some k → (a.keyRevoked k = true ∨ bits a.fuses (128 + 384 * k) 384 = 0 → plain (.fuseSecure dt ok) 3 []) ∧
          (a.keyRevoked k = false → bits a.fuses (128 + 384 * k) 384 ≠ 0 → burns (fun ok => .fuseSecure dt ok) 1))) ∧
      (c.op = 7 →
        let ws := (a.histRun (g 1) (g 2)).flatMap (fun e => (entries 8 4 e).map (fun w => BitVec.ofNat 64 (leNat w)))
        (63 < g 0 ∨ a.owner (g 0) ≠ 6 ∨ 16384 < g 2 → plain (.histRead dt) 2 []) ∧
        (g 0 ≤ 63 → a.owner (g 0) = 6 → g 2 ≤ 16384 → a.cel.mount ≠ 2 → plain (.histRead dt) 5 []) ∧
        (g 0 ≤ 63 → a.owner (g 0) = 6 → g 2 ≤ 16384 → a.cel.mount = 2 → (a.bank (g 0)).withdrawn = false → a.borrow = none →
          ∃ u : State, exec (.histRead dt) s = .next u.settle ∧ ends u 0 [BitVec.ofNat 32 (a.histRun (g 1) (g 2)).length]
            ∧ (∀ i : Nat, i < ws.length → u.panWord (g 0) i = ws.getD i 0#64)
            ∧ (∀ x : Nat, x < g 0 * 0x80000 ∨ g 0 * 0x80000 + 8 * ws.length ≤ x → Mem.get u.pan x = Mem.get a.pan x)
            ∧ { u with pan := a.pan, poison := a.poison, kpr := a.kpr } = a)) ∧
      (kprBound c.op < a.since c.start →
        ∃ u : State, exec (.mailboxTimeout dt) s = .next u.settle ∧ u.kpr = { a.kpr with cmd := none } ∧ u.rf 0xD11C 8 8 = 7 ∧ bit (u.rd 0xD100) 3 = true
          ∧ (∀ i : Nat, i < 4 → u.rd (0xD120 + 4 * i) = 0#32) ∧ (∀ k : Nat, k ∉ [0xD100, 0xD11C, 0xD120, 0xD124, 0xD128, 0xD12C] → u.rd k = a.rd k))) ∧
    (∀ (c : KprCmd) (code : Nat) (res : List Word), a.kpr.cmd = some c → c.result = some (code, res) → code < 256 →
      ∃ u : State, exec (.mailboxCommandEnd dt) s = .next u.settle ∧ u.kpr = { a.kpr with cmd := none } ∧ u.rf 0xD11C 8 8 = code ∧ bit (u.rd 0xD100) 3 = true
        ∧ (∀ i : Nat, i < 4 → u.rd (0xD120 + 4 * i) = res.getD i 0#32) ∧ (∀ k : Nat, k ∉ [0xD100, 0xD11C, 0xD120, 0xD124, 0xD128, 0xD12C] → u.rd k = a.rd k)
        ∧ { u with kpr := a.kpr, regs := a.regs, tickSet := a.tickSet } = a) ∧
    (a.kpr.running = true →
      (∃ u : State, exec (.keeperWdog dt) s = .next u.settle ∧ bit (u.rd 0xD100) 2 = true ∧ u.reports = a.reports ++ [⟨0x421, 2, a.htick⟩] ∧ (∀ k : Nat, k ≠ 0xD100 → u.rd k = a.rd k)
        ∧ { u with regs := a.regs, tickSet := a.tickSet, reports := a.reports } = a) ∧
      (∃ u : State, exec (.keeperFault dt) s = .next u.settle ∧ bit (u.rd 0xD100) 1 = true ∧ u.reports = a.reports ++ [⟨0x421, 1, a.htick⟩] ∧ (∀ k : Nat, k ≠ 0xD100 → u.rd k = a.rd k)
        ∧ { u with regs := a.regs, tickSet := a.tickSet, reports := a.reports } = a)) ∧
    exec (.keeperFence dt) s = .next (State.settle { a with fences := a.fences.filter (fun u => u != 0x421), fencedUnits := 0x421 :: a.fencedUnits.filter (fun u => u != 0x421), kpr := { a.kpr with running := false, ready := false, activating := false } })

/-- R449 to R466, one operation at a time (log 20); where a program is read back (verify), without a corrected bit. The requests that run to their end are stated alone in the queue, at
their last operation; the others with another operation under way, so that they wait. -/
def Obligations.CellarOperations : Prop :=
  ∀ (s a : State) (dt : Elapse), s.advance dt = a → a.calm →
    let c := a.cel
    let blocks := fun (u : State) (l : List Nat) => ∀ m : Nat, m ∉ l → u.nblk m = a.nblk m
    let entered := fun u : State => u.cel.hist.length = c.hist.length + 1 ∧ u.rd 0xB030 = a.rd 0xB030 + 1#32
    let idle := fun u : State => u.cel.queue = [] ∧ u.cel.cur = none
    let pass : NandOut := ⟨true, 0⟩
    (c.mount = 0 → a.unitFenced 0x408 = false → a.stage = 0 →
      (∀ p : NandPart, p.targets.val = 0 ∨ nandPartOk p = false →
        ∃ u : State, exec (.cellarMount dt p) s = .next u.settle ∧ u.cel.mount = 3 ∧ bit (u.rd 0xB008) 5 = true ∧ u.reports = a.reports ++ [⟨0x408, 5, a.htick⟩]
          ∧ u.rf 0x4000 0 2 = 3 ∧ u.stage = 2 ∧ u.cel.nand = c.nand) ∧
      (∀ p : NandPart, p.targets.val ≠ 0 → nandPartOk p = true → p.factoryBad = [] → c.nand = [] → c.queue = [] → c.cur = none → c.fenced = false → c.hist.length < 256 →
        ({ c with lgPage := Nat.log2 p.pageBytes, lgPpb := Nat.log2 p.pagesPerBlock } : Cel).need ≤ p.targets.val * min p.blocks 2048 →
        ∃ u : State, exec (.cellarMount dt p) s = .next u.settle ∧ u.cel.mount = 2 ∧ u.cel.boot = 1 ∧ u.cel.lgPage = Nat.log2 p.pageBytes ∧ u.cel.lgPpb = Nat.log2 p.pagesPerBlock
          ∧ u.stage = 1 ∧ u.rf 0x4000 0 2 = 1 ∧ u.cfg.bootA = some none ∧ u.cfg.bootB = some none ∧ idle u ∧ u.cel.hist.length = c.hist.length + 1)) ∧
    (∀ (k : CelCur) (r : CelReq), c.cur = some k → c.queue.find? (fun q => q.id == k.id) = some r → c.fenced = false →
      (∀ (b : Nat) (pg : NPage), k.op = .prog b pg →
        (∃ u : State, exec (.nandOperationDone dt pass) s = .next u.settle ∧ (u.nblk b).pages = (a.nblk b).pages ++ [pg] ∧ (u.nblk b).erases = (a.nblk b).erases ∧ blocks u [b]) ∧
        (c.hist.length < 256 → ∃ u : State, exec (.nandOperationDone dt ⟨false, 0⟩) s = .next u.settle ∧ u.nblk b = { a.nblk b with bad := 2 } ∧ blocks u [b]
          ∧ bit (u.rd 0xB008) 1 = true ∧ (⟨0x408, 1, a.htick⟩ : Report) ∈ u.reports)) ∧
      (∀ b : Nat, k.op = .erase b →
        (∃ u : State, exec (.nandOperationDone dt pass) s = .next u.settle ∧ (u.nblk b).pages = [] ∧ (u.nblk b).erases = min ((a.nblk b).erases + 1) (2 ^ 32 - 1) ∧ (u.nblk b).reads = 0
          ∧ (u.nblk b).bad = (a.nblk b).bad ∧ blocks u [b]) ∧
        (k.op.limit ≤ a.since k.start → ∃ u : State, exec (.nandOpTimeout dt) s = .next u.settle ∧ u.nblk b = { a.nblk b with bad := 2 } ∧ blocks u [b]
          ∧ bit (u.rd 0xB008) 2 = true ∧ (⟨0x408, 2, a.htick⟩ : Report) ∈ u.reports)) ∧
      (c.queue = [r] → c.mount = 2 → c.hist.length < 256 →
        (∀ (b : Nat) (pg : NPage) (j : CfgJob), r.kind = .unitStore → k.op = .prog b pg → r.confirmed = false → ceilDiv r.data.length c.pageB ≤ r.page → r.who = 1 → r.region < 256 →
          a.cfg.job = some j → j.op = 5 → a.cfg.apply = none → a.cfg.commit = none → a.cfg.wait = none →
          (∀ m ∈ (a.programmed b pg).cel.unitBlocks r.region r.item, ((a.programmed b pg).nblk m).gen = r.gen) →
          ∃ u : State, exec (.unitStore dt [pass]) s = .next u.settle ∧ (u.nblk b).pages = (a.nblk b).pages ++ [pg] ∧ blocks u [b] ∧ idle u ∧ entered u
            ∧ u.cfg = { a.cfg with job := none } ∧ u.rd 0x400C = BitVec.ofNat 32 (256 * 5 + 65536 * 65535) ∧ u.reports = a.reports) ∧
        (∀ (b p : Nat) (d : List Byte) (bs : List Nat) (n crc : Nat), r.kind = .unitRead → k.op = .read b p → r.who = 2 → r.item = 0 → c.unitGen r.region r.item r.gen = some (bs, n, crc) →
          ceilDiv n c.pageB ≤ r.page + 1 → c.unitData r.region r.item = some d → (a.nblk b).reads + 1 < a.rf 0xB024 0 24 →
          ∃ u : State, exec (.unitRead dt [pass]) s = .next u.settle ∧ u.cfg = { a.cfg with bootA := some (some d) } ∧ u.nblk b = { a.nblk b with reads := (a.nblk b).reads + 1 } ∧ blocks u [b] ∧ idle u) ∧
        (∀ (b : Nat) (pg : NPage), r.kind = .cal → k.op = .prog b pg → r.follow = [] → r.who = 0 → 64 ≤ (a.programmed b pg).cel.journalLeft →
          ∃ u : State, exec (.journalAppend dt [pass]) s = .next u.settle ∧ (u.nblk b).pages = (a.nblk b).pages ++ [pg] ∧ blocks u [b] ∧ idle u ∧ entered u ∧ u.reports = a.reports) ∧
        (∀ b : Nat, k.op = .erase b → r.confirmed = true → r.erase = [b] → r.who = 0 →
          (r.kind = .compact →
            ∃ u : State, exec (.journalCompaction dt [pass]) s = .next u.settle ∧ (u.nblk b).pages = [] ∧ (u.nblk b).erases = min ((a.nblk b).erases + 1) (2 ^ 32 - 1) ∧ blocks u [b] ∧ idle u
              ∧ u.cel.hist = c.hist ∧ u.regs = a.regs) ∧
          (r.kind = .refresh → r.item = 0 →
            ∃ u : State, exec (.blockRefresh dt [pass]) s = .next u.settle ∧ (u.nblk b).pages = [] ∧ (u.nblk b).erases = min ((a.nblk b).erases + 1) (2 ^ 32 - 1) ∧ blocks u [b] ∧ idle u ∧ entered u
              ∧ bit (u.rd 0xB008) 3 = true ∧ u.rf 0xB028 0 16 = min (a.rf 0xB028 0 16 + 1) 65535 ∧ u.reports = a.reports)))) ∧
    (c.mount = 2 → c.fenced = false → c.queue = [] → c.cur = none →
      (∀ b : Nat, c.openBlk 5 = some b → c.histLost = 0 → c.pageB / 32 ≤ c.hist.length → 0 < c.pageB / 32 →
        ∃ u : State, exec (.historyPageWrite dt []) s = .next u.settle ∧ blocks u [b] ∧ idle u ∧ u.cel.hist = c.hist.drop (c.pageB / 32) ∧ u.cel.histAt = BitVec.ofNat 64 (leNat (((c.hist.drop (c.pageB / 32)).headD []).take 8)) ∧ u.cel.histSecs = a.rf 0xB040 0 8 ∧ (∀ k : Nat, k ≠ 0xB02C → u.rd k = a.rd k)
          ∧ (u.nblk b).pages = (a.nblk b).pages ++ [⟨5, 2, 0, 0, 0, (a.rd 0xB030).toNat, (a.nblk b).erases, (c.hist.take (c.pageB / 32)).flatMap (fun e => e), false⟩]) ∧
      (∀ (b p : Nat) (wrap : Bool), bit (a.rd 0xB000) 4 = true → a.rf 0xB020 8 8 ≠ 0 → 500000 * a.rf 0xB020 8 8 ≤ a.since c.scanAt → a.scanNext = some (b, p, wrap) → b < 8192 →
        (a.nblk b).reads + 1 < a.rf 0xB024 0 24 →
        ∃ u : State, exec (.retentionScanRead dt [pass]) s = .next u.settle ∧ u.rf 0xB03C 0 13 = b ∧ u.cel.scanPage = p + 1 ∧ u.cel.scanAt = a.htick
          ∧ u.nblk b = { a.nblk b with reads := (a.nblk b).reads + 1 } ∧ blocks u [b] ∧ idle u
          ∧ u.rf 0xB03C 16 16 = (if wrap then (a.rf 0xB03C 16 16 + 1) % 65536 else a.rf 0xB03C 16 16)) ∧
      (∀ b f : Nat, b ∈ c.written → c.takeWorn = some f → bit (a.rd 0xB000) 5 = true → (c.get b).ofUnit 0 0 = false → (a.nblk b).pages.length ≤ 512 →
        (∀ m ∈ c.written, (c.get m).ofUnit 0 0 = false → m ≠ b → (c.get b).erases < (c.get m).erases) →
        (∃ m ∈ c.written, (c.get m).ofUnit 0 0 = false ∧ a.rf 0xB020 16 16 < (c.get m).erases - (c.get b).erases) →
        ∃ u : State, exec (.wearMigration dt []) s = .next u.settle ∧ (u.nblk b).pages = [] ∧ (u.nblk b).erases = min ((a.nblk b).erases + 1) (2 ^ 32 - 1) ∧ blocks u [b, f] ∧ idle u
          ∧ (u.nblk f).pages = (a.nblk b).pages.map (fun p => { p with copy := (p.copy + 1) % 65536, ec := (a.nblk f).erases }) ∧ (∀ k : Nat, k ≠ 0xB02C → u.rd k = a.rd k))) ∧
    (c.mount = 2 → c.fenced = false → c.cur.isSome = true →
      let asked := fun (u : State) (r : CelReq) => u.cel.queue = c.queue ++ [{ r with id := c.nextId }] ∧ u.cel.cur = c.cur ∧ u.cel.nand = c.nand
      let page := (c.hist.take (c.pageB / 32)).flatMap (fun e => e) ++ List.replicate (32 * (c.pageB / 32 - min (c.pageB / 32) c.hist.length)) 0xFF#8
      let full := (c.openBlk 5).isNone && decide (c.histBlks ≤ (c.chain 5).length)
      let write : CelReq := { id := 0, kind := .history, data := page, gen := (a.rd 0xB030).toNat }
      (c.hist ≠ [] → c.histLost = 0 → full = false → c.queue.any (fun r => r.kind == .history) = false →
        (c.histSecs ≠ 0 → 500000000 * c.histSecs ≤ a.since c.histAt →
          ∃ u : State, exec (.histFlushTimer dt) s = .next u.settle ∧ asked u write ∧ u.cel.hist = c.hist.drop (c.pageB / 32) ∧ u.cel.histAt = BitVec.ofNat 64 (leNat (((c.hist.drop (c.pageB / 32)).headD []).take 8)) ∧ u.cel.histSecs = a.rf 0xB040 0 8 ∧ { u with cel := a.cel } = a) ∧
        (∀ p : Path, a.committed = true →
          ∃ u : State, exec (.celFlushHistory dt p) s = .next u.settle ∧ asked u write ∧ u.cel.hist = c.hist.drop (c.pageB / 32) ∧ { u with cel := a.cel, replies := a.replies } = a)) ∧
      (∀ (p : Path) (b : BitVec 13), a.committed = true → c.queue.any (fun r => r.kind == .refresh && r.lblk == b.toNat) = false →
        ∃ u : State, exec (.celRefreshBlock dt p b) s = .next u.settle ∧ asked u { id := 0, kind := .refresh, lblk := b.toNat } ∧ u.replies = Tbl.put a.replies (Path.idx p) ⟨0, 0#32⟩
          ∧ { u with cel := a.cel, replies := a.replies } = a)) ∧
    (∀ p : Path, a.committed = true →
      (∃ u : State, exec (.celRetentionPass dt p) s = .next u.settle ∧ u.rf 0xB03C 0 13 = 0 ∧ u.rf 0xB03C 13 19 = a.rf 0xB03C 13 19 ∧ u.cel = { c with scanPage := 0 }
        ∧ u.replies = Tbl.put a.replies (Path.idx p) ⟨0, 0#32⟩ ∧ (∀ k : Nat, k ≠ 0xB03C → u.rd k = a.rd k) ∧ { u with regs := a.regs, cel := a.cel, replies := a.replies } = a) ∧
      (∀ b : BitVec 13,
        (a.allService = false → exec (.celMarkBad dt p b) s = .next (State.settle { a with replies := Tbl.put a.replies (Path.idx p) ⟨2, 0#32⟩ })) ∧
        (a.allService = true → c.allBlks.contains b.toNat = true → (a.nblk b.toNat).bad = 0 → c.hist.length < 256 →
          ∃ u : State, exec (.celMarkBad dt p b) s = .next u.settle ∧ u.nblk b.toNat = { a.nblk b.toNat with bad := 2 } ∧ blocks u [b.toNat] ∧ entered u
            ∧ u.replies = Tbl.put a.replies (Path.idx p) ⟨0, 0#32⟩ ∧ (∀ k : Nat, k ≠ 0xB030 → u.rd k = a.rd k)))) ∧
    (c.queue = [] →
      exec (.cellarFence dt) s = .next (State.settle { a with fences := a.fences.filter (fun u => u != 0x408), fencedUnits := 0x408 :: a.fencedUnits.filter (fun u => u != 0x408), cel := { c with fenced := true } })) ∧
    (∀ r : CelReq, c.queue = [r] → c.cur = none → r.who = 0 → r.kind.store = false →
      ∃ u : State, exec (.cellarFence dt) s = .next u.settle ∧ u.cel.fenced = true ∧ u.cel.queue = [] ∧ u.regs = a.regs ∧ u.cel.nand = c.nand)

/-- R468 to R475, R479 to R481, R515. What a device reset takes from a table (sources, tiles) is stated entry by entry. The reset values are those of State.reset: where the spec gives
none they are the model's (logs 4 to 7). The accesses come by the Keeper's path or the Side Door, which R477 opens before the commit. -/
def Obligations.PowerResetAndBoot : Prop :=
  ∀ (s a : State) (dt : Elapse), s.advance dt = a →
    let quiet := a.cal.step = .idle ∧ (a.lk a.cal.ch).calRsp = none ∧ a.cel.results = []
    let clears := fun (u : State) => (∀ k : Nat, isCh k = false → k ≠ 0x24 → u.rd k = regReset k) ∧ (∀ n : Nat, (u.ch n).st = .quenched)
      ∧ u.pending = a.pending ∧ u.fuses = a.fuses ∧ u.otp = a.otp ∧ u.kpr = { boot := a.kpr.boot } ∧ (a.cel.cur = none → u.cel = { nand := a.cel.nand })
      ∧ u.pwr.hrefLost = a.pwr.hrefLost ∧ u.launched = [] ∧ u.reports = []
    let reset := fun (u : State) (cause : Nat) => clears u ∧ u.pwr.held = 2 ∧ u.pwr.heldAt = a.htick ∧ u.htick = a.htick
      ∧ u.rf 0x24 0 8 = cause ∧ u.rf 0x24 8 8 = (a.rf 0x24 8 8 + 1) % 256
      ∧ (∀ n : Nat, n < 128 → ∀ o : Nat, o < 0x1000 → u.rd (chA n o) = if o ∈ [0x038, 0x040, 0x044] then a.rd (chA n o) else regReset (chA n o))
      ∧ (∀ t : Nat, (a.tile t).role = .fenced → u.tile t = { role := .fenced })
      ∧ (∀ k : Nat, srcResetRelease k = true → u.src k = {}) ∧ (∀ k : Nat, srcResetRelease k = false → (a.src k).grave = true ∨ (a.src k).fenced = true →
        u.src k = { grave := (a.src k).grave, fenced := (a.src k).fenced })
      ∧ (∀ k : Nat, u.unitFenced k = (a.unitFenced k && !srcResetRelease k)) ∧ u.pan = a.pan ∧ u.poison = a.poison
    let released := fun (u : State) (sel : BitVec 2) => u.pwr.held = 0 ∧ u.rf 0x10 0 2 = sel.toNat ∧ bit (u.rd 0x10) 2 = decide (sel = 3#2)
      ∧ (sel = 1#2 ∨ sel = 2#2 → u.stage = 2) ∧ u.pwr.relAt = u.htick
    let safe := fun (u : State) => ∀ w : Nat, w < 8 → u.md w = { a.md w with safe := some true }
    let warned := fun (u : State) (k i src : Nat) => bit (u.rd k) i = true ∧ (∀ j : Nat, j ≠ k → u.rd j = a.rd j) ∧ u.reports = a.reports ++ [⟨src, i, a.htick⟩]
    let out := fun (k : Nat) (v : Bool) => putBit a.supplyOut k v
    (∀ sel : BitVec 2,
      (bit a.supplyOut 0 = false → bit a.supplyOut 6 = false → a.pwr.hrefLost = false →
        ∃ u : State, exec (.powerOnResetRelease dt sel) s = .next u.settle ∧ released u sel ∧ u.htick = 0#64 ∧ (∀ n : Nat, (u.ch n).st = .quenched) ∧ u.tiles = [] ∧ u.srcs = []
          ∧ (∀ k : Nat, isCh k = true → u.rd k = regReset k) ∧ u.rd 0x24 = regReset 0x24 ∧ (∀ w : Nat, u.wingMode w = 0) ∧ u.fuses = a.fuses ∧ u.otp = a.otp ∧ (a.cel.cur = none → u.cel = { nand := a.cel.nand })) ∧
      (bit a.supplyOut 0 = true ∨ bit a.supplyOut 6 = true ∨ a.pwr.hrefLost = true → a.pwr.held ≠ 0 → exec (.powerOnResetRelease dt sel) s = .next a.settle) ∧
      (a.pwr.held = 2 → a.since a.pwr.heldAt < 500 → exec (.deviceResetRelease dt sel) s = .next a.settle) ∧
      (a.pwr.held = 2 → 500 ≤ a.since a.pwr.heldAt → quiet →
        ∃ u : State, exec (.deviceResetRelease dt sel) s = .next u.settle ∧ released u sel ∧ u.htick = a.htick ∧ u.ctl = a.ctl ∧ u.tiles = a.tiles ∧ u.srcs = a.srcs ∧ u.fencedUnits = a.fencedUnits ∧ u.pan = a.pan ∧ u.banks = a.banks
          ∧ u.cel = a.cel ∧ u.rd 0x24 = a.rd 0x24 ∧ (∀ k : Nat, isCh k = true → u.rd k = a.rd k))) ∧
    (a.pwr.held ≠ 1 →
      (∃ u : State, exec (.resetN dt) s = .next u.settle ∧ reset u 1) ∧
      (∃ u : State, exec (.supplyFault dt 0 false) s = .next u.settle ∧ reset u 4 ∧ u.supplyOut = out 0 true) ∧
      (∃ u : State, exec (.supplyFault dt 6 false) s = .next u.settle ∧ reset u 3 ∧ u.supplyOut = out 6 true)) ∧
    (a.pwr.held = 1 → exec (.resetN dt) s = .next a.settle ∧ (∀ k : Fin 7, exec (.supplyFault dt k false) s = .next (State.settle { a with supplyOut := out k.val true }))) ∧
    (∃ u : State, exec (.supplyFault dt 0 true) s = .next u.settle ∧ clears u ∧ u.pwr.held = 1 ∧ u.tiles = [] ∧ u.srcs = [] ∧ u.supplyOut = out 0 true ∧ (∀ k : Nat, u.rd k = regReset k)) ∧
    (a.pwr.held ≠ 0 → ∀ pll : Bool, exec (.hrefLost dt pll) s = .next (State.settle { a with pwr := { a.pwr with hrefLost := a.pwr.hrefLost || !pll } })) ∧
    (a.calm →
      (∀ (k : Fin 7) (low : Bool), k ∈ [1, 2, 3, 4] →
        ∃ u : State, exec (.supplyFault dt k low) s = .next u.settle ∧ warned u 0x54 k.val 0x423 ∧ safe u
          ∧ { u with supplyOut := a.supplyOut, regs := a.regs, tickSet := a.tickSet, reports := a.reports, pwr := a.pwr } = a ∧ u.pwr = { a.pwr with modes := u.pwr.modes } ∧ u.supplyOut = out k.val true) ∧
      (∀ low : Bool, a.cel.cur = none →
        ∃ u : State, exec (.supplyFault dt 5 low) s = .next u.settle ∧ warned u 0x54 5 0x423 ∧ { u with supplyOut := a.supplyOut, regs := a.regs, tickSet := a.tickSet, reports := a.reports } = a ∧ u.supplyOut = out 5 true) ∧
      (∀ (low : Bool) (k : CelCur) (r : CelReq) (b : Nat), a.cel.cur = some k → a.cel.queue.find? (fun q => q.id == k.id) = some r → k.op = .erase b → a.cel.fenced = false → a.cel.hist.length < 256 →
        ∃ u : State, exec (.supplyFault dt 5 low) s = .next u.settle ∧ bit (u.rd 0x54) 5 = true ∧ (⟨0x423, 5, a.htick⟩ : Report) ∈ u.reports ∧ u.nblk b = { a.nblk b with bad := 2 }) ∧
      (∀ k : Fin 7, k ≠ 3 → exec (.supplyReturn dt k) s = .next (State.settle { a with supplyOut := out k.val false })) ∧
      (bit a.supplyOut 3 = true →
        ∃ u : State, exec (.supplyReturn dt 3) s = .next u.settle ∧ { u with supplyOut := a.supplyOut, mon := a.mon } = a ∧ u.supplyOut = out 3 false
          ∧ (∀ n c : Nat, n < 128 → c < 4 → (u.mo n).cmp c = if a.monEn n c then { ((a.mo n).cmp c).restart a.htick with noDesc := ((a.mo n).cmp c).noDesc } else (a.mo n).cmp c)) ∧
      (∀ pll : Bool,
        ∃ u : State, exec (.hrefLost dt pll) s = .next u.settle ∧ safe u ∧ bit (u.rd 0x58) (b2n pll) = true ∧ (⟨0x424, b2n pll, a.htick⟩ : Report) ∈ u.reports ∧ (∀ p : Nat, p < 2 → (u.port p).linkUp = false)
          ∧ u.pwr.hrefLost = (a.pwr.hrefLost || !pll) ∧ u.htick = a.htick ∧ u.ctl = a.ctl
          ∧ ((∀ p : Nat, p < 2 → (a.port p).linkUp = false) → warned u 0x58 (b2n pll) 0x424 ∧ u.net = a.net)) ∧
      exec (.hrefReturn dt) s = .next (State.settle { a with pwr := { a.pwr with hrefLost := false } }) ∧
      (∀ cells : BitVec 9,
        (∃ u : State, exec (.jtagUpdateIr dt true cells) s = .next u.settle ∧ safe u ∧ u.pwr.extest = true ∧ u.pwr.cells = cells ∧ { u with pwr := a.pwr } = a
          ∧ (u.settle.pins.errN = bit cells 8) ∧ (∀ w : Nat, w < 8 → Tbl.get false u.settle.pins.wtrip w = bit cells w)) ∧
        exec (.jtagUpdateIr dt false cells) s = .next (State.settle { a with pwr := { a.pwr with extest := false, cells := 0#9 } })) ∧
      (∀ (p : Path) (v : Word), Path.idx p < 2 →
        let replied := fun (u : State) (st : Nat) => u.replies = Tbl.put a.replies (Path.idx p) ⟨st, 0#32⟩
        (bits v 0 16 = 0xD5E7 → bit v 16 = true → ∃ u : State, exec (.glbRstWrite dt p v) s = .next u.settle ∧ reset u 2 ∧ u.replies = Tbl.put [] (Path.idx p) ⟨0, 0#32⟩) ∧
        (bits v 0 16 ≠ 0xD5E7 → ∃ u : State, exec (.glbRstWrite dt p v) s = .next u.settle ∧ replied u 2 ∧ { u with replies := a.replies } = a) ∧
        (a.stage ≠ 2 → ∃ u : State, exec (.bootGo dt p) s = .next u.settle ∧ replied u 2 ∧ { u with replies := a.replies } = a) ∧
        (a.cfg.hostImg = none → ∃ u : State, exec (.bootStore dt p) s = .next u.settle ∧ replied u 2 ∧ { u with replies := a.replies } = a) ∧
        (a.stage = 2 → a.cfgFenced = false →
          let b := Mem.bytes a.pan 0 (a.rf 0x14 0 21)
          let x := a.setStage 3
          (∀ m : Img, x.fndCheck b = .ok m →
            ∃ u : State, exec (.bootGo dt p) s = .next u.settle ∧ replied u 0 ∧ u.stage = 3 ∧ u.rf 0x4000 0 2 = 1 ∧ u.cfg = { a.cfg with commit := some (b, 2) }
              ∧ (∀ k : Nat, k ≠ 0x10 → k ≠ 0x4000 → u.rd k = a.rd k) ∧ { u with regs := a.regs, cfg := a.cfg, replies := a.replies } = a) ∧
          (∀ e : ImgErr, x.fndCheck b = .error e → e.code ≠ 0x14 →
            ∃ u : State, exec (.bootGo dt p) s = .next u.settle ∧ replied u 0 ∧ u.stage = 2 ∧ u.rf 0x4000 0 2 = 3 ∧ u.cfg = { a.cfg with commit := none }
              ∧ u.rd 0x400C = BitVec.ofNat 32 (e.code + 65536 * (e.idx % 65536)) ∧ u.rd 0x4010 = BitVec.ofNat 32 e.ofs ∧ u.launched = a.launched ++ [⟨0xB21, a.htick⟩]
              ∧ (∀ k : Nat, k ∉ [0x10, 0x4000, 0x4004, 0x400C, 0x4010, 0x4028] → u.rd k = a.rd k))) ∧
        (∀ (b : List Byte) (m : Img), a.cfg.hostImg = some b → a.committed = true → a.cfgBusy = false → a.cfgFenced = false → a.cel.mount = 2 → a.cel.fenced = false → a.cel.cur.isSome = true →
          ({ a with cfg := { a.cfg with hostImg := none } } : State).fndStoreCheck b = .ok m →
          ∃ (u : State) (j : CfgJob) (r : CelReq), exec (.bootStore dt p) s = .next u.settle ∧ replied u 0 ∧ j.op = 5 ∧ r.kind = .unitStore ∧ r.region = 1 ∧ r.item = a.freeSlot ∧ r.data = b.take (fld b 8 4)
            ∧ u.cfg = { a.cfg with hostImg := none, job := some j } ∧ u.cel.queue = a.cel.queue ++ [r] ∧ u.cel.nand = a.cel.nand ∧ u.regs = a.regs)) ∧
      (a.cel.mount = 2 → a.kpr.running = false → a.kprFenced = false →
        exec (.keeperStart dt) s = .next (State.settle { a with kpr := { a.kpr with running := true, ready := false, startAt := a.htick, image := a.kpr.boot } })) ∧
      (a.cel.mount ≠ 2 ∨ a.kpr.running = true ∨ a.kprFenced = true → exec (.keeperStart dt) s = .next a.settle))

/-- R483 to R492 and R476. A chain from SAFE keeps its request running after the entry into STANDBY (R484). That a refused SAFE overlay leaves no MODE_ERR, and that the wake time goes by the level
at which the wing went to sleep, are the model's choices (log 45). -/
def Obligations.ModesSafeAndSleep : Prop :=
  ∀ (s a : State) (dt : Elapse), s.advance dt = a → a.calm →
    let refused := fun (u : State) (w code : Nat) => bit (u.rd 0x3C) w = true ∧ u.rf 0x3C 8 8 = code ∧ u.rf 0x3C 16 3 = w ∧ (∀ k : Nat, k ≠ 0x3C → u.rd k = a.rd k)
    let others := fun (u : State) (w : Nat) => ∀ v : Nat, v ≠ w → u.md v = a.md v
    let moded := fun (u : State) => { u with regs := a.regs, tickSet := a.tickSet, replies := a.replies, pwr := a.pwr } = a ∧ u.pwr = { a.pwr with modes := u.pwr.modes }
    let replied := fun (u : State) (p : Path) (st : Nat) => u.replies = Tbl.put a.replies (Path.idx p) ⟨st, 0#32⟩
    (∀ (p : Path) (v : Word), Path.idx p < 2 →
      let m := bits v 0 3
      (5 < m → ∃ u : State, exec (.glbModeReq dt p v) s = .next u.settle ∧ replied u p 3 ∧ { u with replies := a.replies } = a) ∧
      (m = 0 → a.committed = true →
        ∃ u : State, exec (.glbModeReq dt p v) s = .next u.settle ∧ replied u p 0 ∧ moded u ∧ u.regs = a.regs
          ∧ (∀ w : Nat, w < 8 → u.md w = if bit v (8 + w) then { a.md w with safe := some (bit v 3 || (a.md w).safe == some true) } else a.md w)) ∧
      (∀ w : Nat, w < 8 → (∀ x : Nat, x < 8 → bit v (8 + x) = decide (x = w)) → 1 ≤ m → m ≤ 5 →
        ∃ u : State, exec (.glbModeReq dt p v) s = .next u.settle ∧ replied u p 0 ∧ moded u ∧ others u w ∧
          (a.committed = false → refused u w 2 ∧ u.md w = a.md w) ∧
          (a.committed = true → (a.md w).run = none → m = a.wingMode w → u.regs = a.regs ∧ u.md w = a.md w) ∧
          (a.committed = true → (a.md w).run = none → m ≠ a.wingMode w → modeLegal (a.wingMode w) m = true → u.regs = a.regs ∧ u.md w = { a.md w with run := some m }) ∧
          (a.committed = true → (a.md w).run = none → m ≠ a.wingMode w → modeLegal (a.wingMode w) m = false → refused u w 1 ∧ u.md w = a.md w) ∧
          (a.committed = true → (a.md w).run.isSome = true → u.md w = { a.md w with wait := some m }
            ∧ ((a.md w).wait = none → u.regs = a.regs) ∧ ((a.md w).wait.isSome = true → refused u w 5)))) ∧
    (∀ w : Fin 8, let m := a.rf 0x44 (3 * w.val) 3
      (m ≠ 0 → a.wingMode w.val = 0 → a.committed = true → (a.md w.val).run = none →
        ∃ u : State, exec (.tiWake dt w) s = .next u.settle ∧ u.md w.val = { a.md w.val with run := some m } ∧ others u w.val ∧ u.regs = a.regs ∧ u.ctl = a.ctl) ∧
      (m = 0 ∨ a.wingMode w.val ≠ 0 → ∃ u : State, exec (.tiWake dt w) s = .next u.settle ∧ u.pwr = a.pwr ∧ u.regs = a.regs ∧ u.ctl = a.ctl)) ∧
    (∀ (ws : BitVec 8) (now : Bool),
      ∃ u : State, exec (.hrtSafeRequest dt ws now) s = .next u.settle ∧ u.safeReqs = a.safeReqs.erase ⟨ws, now⟩ ∧ moded { u with safeReqs := a.safeReqs } ∧ u.regs = a.regs
        ∧ (∀ w : Nat, w < 8 → u.md w = if bit ws w then { a.md w with safe := some (now || (a.md w).safe == some true) } else a.md w)) ∧
    (∀ w : Fin 8, (a.md w.val).run = none → exec (.modeEntry dt w) s = .next a.settle) ∧
    (∀ (w : Fin 8) (m : Nat), (a.md w.val).run = some m → 1 ≤ m → m ≤ 5 → (a.md w.val).wait = none →
      let x := a.md w.val
      let t := a.modeNextCode w.val m
      let ended := { x with run := none, overlay := false }
      (a.sleeping w.val = true → x.waking = none → exec (.modeEntry dt w) s = .next (State.settle (a.setMd w.val { x with waking := some a.htick }))) ∧
      (a.sleeping w.val = true → x.waking.isSome = true → exec (.modeEntry dt w) s = .next a.settle) ∧
      (a.sleeping w.val = false → x.overlay = true → exec (.modeEntry dt w) s = .next a.settle) ∧
      (a.sleeping w.val = false → x.overlay = false → a.ovlSlot w.val t = none → a.wingMode w.val ∉ [3, 5] → (t = 4 → bit (a.rd 0x3000) 3 = false) →
        ∃ u : State, exec (.modeEntry dt w) s = .next u.settle ∧ u.wingMode w.val = t ∧ (∀ v : Nat, v < 8 → v ≠ w.val → u.wingMode v = a.wingMode v) ∧ (∀ k : Nat, k ≠ 0x34 → u.rd k = a.rd k)
          ∧ others u w.val ∧ u.md w.val = (if t = m then ended else { x with overlay := false })
          ∧ (t = 1 ∨ (t = 4 ∧ a.wingMode w.val ≠ 4) → ∀ n : Nat, wingOf n = w.val → n < 128 → nextSt 0x14 (a.ch n).st ≠ none → (a.ch n).edge = none →
              u.ch n = { a.ch n with edge := some ⟨0x14, a.htick⟩ })
          ∧ (∀ n : Nat, n < 128 → wingOf n ≠ w.val → u.ch n = a.ch n) ∧ (t = 2 ∨ t = 3 ∨ t = 5 → u.ctl = a.ctl) ∧ u.launched = a.launched ∧ u.reports = a.reports) ∧
      (∀ k : Nat, a.sleeping w.val = false → x.overlay = false → a.ovlSlot w.val t = some k →
        (a.cfgFenced = true → ∃ u : State, exec (.modeEntry dt w) s = .next u.settle ∧ refused u w.val 4 ∧ u.md w.val = ended ∧ others u w.val ∧ u.ctl = a.ctl) ∧
        (a.cfgFenced = false → Tbl.get none a.cfg.cache k = none →
          ∃ u : State, exec (.modeEntry dt w) s = .next u.settle ∧ bit (u.rd 0x3C) w.val = true ∧ u.rf 0x3C 8 8 = 3 ∧ u.rf 0x400C 0 8 = 0x16 ∧ u.rf 0x400C 8 8 = 0
            ∧ u.md w.val = ended ∧ others u w.val ∧ u.wingMode w.val = a.wingMode w.val ∧ u.ctl = a.ctl) ∧
        (∀ b : List Byte, a.cfgFenced = false → Tbl.get none a.cfg.cache k = some b → a.cfgBusy = true → a.cfg.wait = none →
          ∃ u : State, exec (.modeEntry dt w) s = .next u.settle ∧ u.md w.val = { x with overlay := true } ∧ others u w.val ∧ u.cfg = { a.cfg with wait := some { wing := w.val, image := b, entry := some t } }
            ∧ { u with cfg := a.cfg, pwr := a.pwr } = a) ∧
        (∀ (b : List Byte) (i : Img), a.cfgFenced = false → Tbl.get none a.cfg.cache k = some b → a.cfgBusy = false → a.cfg.wait = none →
          let y := a.setMd w.val { x with overlay := true }
          let z : State := { y with cfg := { y.cfg with hostImg := none } }
          z.ovlCheck b = .ok i → i.wing = w.val → i.mode = t → z.ovlMeaning i 0 = 0 →
          ∃ (u : State) (q : Apply), exec (.modeEntry dt w) s = .next u.settle ∧ u.cfg.apply = some q ∧ q.req = { wing := w.val, image := b, entry := some t } ∧ q.start = a.htick
            ∧ u.md w.val = { x with overlay := true } ∧ u.wingMode w.val = a.wingMode w.val))) ∧
    (∀ w : Fin 8, (a.md w.val).safe = none → exec (.safeEntry dt w) s = .next a.settle) ∧
    (∀ (w : Fin 8) (now : Bool), (a.md w.val).safe = some now → a.cfg.apply = none → a.cfg.wait = none →
      let x := a.md w.val
      let cancel := x.wait.isSome || x.run.isSome
      (a.wingMode w.val = 0 →
        ∃ u : State, exec (.safeEntry dt w) s = .next u.settle ∧ u.md w.val = { slept := x.slept } ∧ others u w.val ∧ moded u ∧ (cancel = true → refused u w.val 5) ∧ (cancel = false → u.regs = a.regs)) ∧
      (a.wingMode w.val ∈ [1, 2, 4] → a.ovlSlot w.val 0 = none →
        ∃ u : State, exec (.safeEntry dt w) s = .next u.settle ∧ u.md w.val = { slept := x.slept } ∧ others u w.val ∧ u.wingMode w.val = 0 ∧ (∀ v : Nat, v < 8 → v ≠ w.val → u.wingMode v = a.wingMode v)
          ∧ (cancel = true → bit (u.rd 0x3C) w.val = true ∧ u.rf 0x3C 8 8 = 5) ∧ (cancel = false → u.rd 0x3C = a.rd 0x3C) ∧ (∀ n : Nat, n < 128 → wingOf n ≠ w.val → u.ch n = a.ch n)
          ∧ (∀ n : Nat, n < 128 → wingOf n = w.val →
              (now = false → nextSt 0x14 (a.ch n).st ≠ none → (a.ch n).edge = none → u.ch n = { a.ch n with edge := some ⟨0x14, a.htick⟩ }) ∧
              (now = true → Tbl.get none a.snaps n = none → ∀ q : ChState, nextSt 0x15 (a.ch n).st = some q → (u.ch n).st = q ∧ (u.ch n).cause = 0x15 ∧ (u.ch n).transTs = a.htick)))) ∧
    (∀ w : Fin 8,
      (a.wingMode w.val = 0 → a.sleepLevel w.val ≠ 0 → a.allDown w.val = true → a.cfg.apply = none → a.sleeping w.val = false → (∀ n : Nat, wingOf n = w.val → (a.lk n).busy = false) →
        ∃ u : State, exec (.sleepEntry dt w) s = .next u.settle ∧ u.sleeping w.val = true ∧ u.rd 0x38 = setBit (a.rd 0x38) w.val ∧ (∀ k : Nat, k ≠ 0x38 → u.rd k = a.rd k) ∧ u.md w.val = { a.md w.val with slept := a.sleepLevel w.val } ∧ others u w.val
          ∧ (∀ n : Nat, n < 128 → u.mo n = if wingOf n = w.val then { a.mo n with micro := true } else a.mo n) ∧ { u with regs := a.regs, mon := a.mon, pwr := a.pwr } = a) ∧
      (a.wingMode w.val = 0 → a.sleepLevel w.val ≠ 0 → a.allDown w.val = true → a.cfg.apply = none → a.sleeping w.val = false →
        ∃ u : State, exec (.sleepEntry dt w) s = .next u.settle ∧ u.sleeping w.val = true ∧ (∀ n : Nat, n < 128 → wingOf n = w.val → (u.lk n).busy = false ∧ (u.mo n).micro = true)) ∧
      (a.wingMode w.val ≠ 0 ∨ a.sleepLevel w.val = 0 ∨ a.allDown w.val = false ∨ a.sleeping w.val = true → exec (.sleepEntry dt w) s = .next a.settle) ∧
      (∀ t : DWord, (a.md w.val).waking = some t → a.sleeping w.val = true →
        ((if (a.md w.val).slept = 2 then 1000000 else 10000) ≤ a.since t →
          ∃ u : State, exec (.wingWake dt w) s = .next u.settle ∧ u.sleeping w.val = false ∧ u.md w.val = { a.md w.val with waking := none } ∧ others u w.val
            ∧ (∀ n : Nat, n < 128 → (wingOf n = w.val → (u.mo n).micro = false
                ∧ ∀ c : Nat, c < 2 → a.monEn n c = true → (u.mo n).cmp c = { ((a.mo n).cmp c).restart a.htick with noDesc := ((a.mo n).cmp c).noDesc }) ∧ (wingOf n ≠ w.val → u.mo n = a.mo n))
            ∧ u.ctl = a.ctl ∧ ((a.md w.val).slept ≠ 2 → u.tiles = a.tiles)) ∧
        (a.since t < (if (a.md w.val).slept = 2 then 1000000 else 10000) → exec (.wingWake dt w) s = .next a.settle)) ∧
      ((a.md w.val).waking = none → exec (.wingWake dt w) s = .next a.settle)) ∧
    (a.stage ≠ 4 → exec (.bootStandbyEntry dt) s = .next a.settle) ∧
    (a.stage = 4 → (∀ w : Nat, w < 8 → a.wingMode w = 0 ∧ (a.md w).run = some 1 ∧ (a.md w).wait = none ∧ a.ovlSlot w 1 = none ∧ a.sleeping w = false) →
      ∃ u : State, exec (.bootStandbyEntry dt) s = .next u.settle ∧ (∀ w : Nat, w < 8 → u.wingMode w = 1 ∧ u.md w = { a.md w with run := none, overlay := false }) ∧ u.stage = 5
        ∧ u.rf 0x1C 16 16 = min 65535 (a.since a.pwr.relAt / 500000) ∧ (∀ k : Nat, k ∉ [0x10, 0x1C, 0x34] → u.rd k = a.rd k)
        ∧ (∀ n : Nat, n < 128 → nextSt 0x14 (a.ch n).st = none → u.ch n = a.ch n)) ∧
    (a.stage = 4 → (∀ w : Nat, w < 8 → a.wingMode w = 0 ∧ (a.md w).run = some 1 ∧ a.ovlSlot w 1 ≠ none) → exec (.bootStandbyEntry dt) s = .next a.settle)
end

