-- ==== Sys2Proof/Laws/State.lean ====
section
/-!
SUPPORT. What each update of the state changes, field by field: true by unfolding the update, so that no later proof
unfolds one.
-/

namespace Sys2Proof.Machine

variable (s : State)

/-! ### wr -/

@[simp] theorem State.wr_pending (k : Nat) (v : Word) : (s.wr k v).pending = s.pending := rfl
@[simp] theorem State.wr_htick (k : Nat) (v : Word) : (s.wr k v).htick = s.htick := rfl
@[simp] theorem State.wr_freeCtr (k : Nat) (v : Word) : (s.wr k v).freeCtr = s.freeCtr := rfl
@[simp] theorem State.wr_regs (k : Nat) (v : Word) : (s.wr k v).regs = Tbl.put s.regs k v := rfl
@[simp] theorem State.wr_active (k : Nat) (v : Word) : (s.wr k v).active = s.active := rfl
@[simp] theorem State.wr_tickSet (k : Nat) (v : Word) : (s.wr k v).tickSet = s.tickSet := rfl
@[simp] theorem State.wr_tickOld (k : Nat) (v : Word) : (s.wr k v).tickOld = s.tickOld := rfl
@[simp] theorem State.wr_tickSwp (k : Nat) (v : Word) : (s.wr k v).tickSwp = s.tickSwp := rfl
@[simp] theorem State.wr_tickInc (k : Nat) (v : Word) : (s.wr k v).tickInc = s.tickInc := rfl
@[simp] theorem State.wr_holds (k : Nat) (v : Word) : (s.wr k v).holds = s.holds := rfl
@[simp] theorem State.wr_replies (k : Nat) (v : Word) : (s.wr k v).replies = s.replies := rfl
@[simp] theorem State.wr_launched (k : Nat) (v : Word) : (s.wr k v).launched = s.launched := rfl
@[simp] theorem State.wr_reports (k : Nat) (v : Word) : (s.wr k v).reports = s.reports := rfl
@[simp] theorem State.wr_pins (k : Nat) (v : Word) : (s.wr k v).pins = s.pins := rfl
@[simp] theorem State.wr_ctl (k : Nat) (v : Word) : (s.wr k v).ctl = s.ctl := rfl
@[simp] theorem State.wr_gpg (k : Nat) (v : Word) : (s.wr k v).gpg = s.gpg := rfl
@[simp] theorem State.wr_snaps (k : Nat) (v : Word) : (s.wr k v).snaps = s.snaps := rfl
@[simp] theorem State.wr_supplyOut (k : Nat) (v : Word) : (s.wr k v).supplyOut = s.supplyOut := rfl
@[simp] theorem State.wr_loop (k : Nat) (v : Word) : (s.wr k v).loop = s.loop := rfl
@[simp] theorem State.wr_tiles (k : Nat) (v : Word) : (s.wr k v).tiles = s.tiles := rfl
@[simp] theorem State.wr_trk (k : Nat) (v : Word) : (s.wr k v).trk = s.trk := rfl
@[simp] theorem State.wr_meas (k : Nat) (v : Word) : (s.wr k v).meas = s.meas := rfl
@[simp] theorem State.wr_rng (k : Nat) (v : Word) : (s.wr k v).rng = s.rng := rfl
@[simp] theorem State.wr_mon (k : Nat) (v : Word) : (s.wr k v).mon = s.mon := rfl
@[simp] theorem State.wr_link (k : Nat) (v : Word) : (s.wr k v).link = s.link := rfl
@[simp] theorem State.wr_chcal (k : Nat) (v : Word) : (s.wr k v).chcal = s.chcal := rfl
@[simp] theorem State.wr_mach (k : Nat) (v : Word) : (s.wr k v).mach = s.mach := rfl
@[simp] theorem State.wr_tod (k : Nat) (v : Word) : (s.wr k v).tod = s.tod := rfl
@[simp] theorem State.wr_mains (k : Nat) (v : Word) : (s.wr k v).mains = s.mains := rfl
@[simp] theorem State.wr_alarms (k : Nat) (v : Word) : (s.wr k v).alarms = s.alarms := rfl
@[simp] theorem State.wr_almOld (k : Nat) (v : Word) : (s.wr k v).almOld = s.almOld := rfl
@[simp] theorem State.wr_pan (k : Nat) (v : Word) : (s.wr k v).pan = s.pan := rfl
@[simp] theorem State.wr_poison (k : Nat) (v : Word) : (s.wr k v).poison = s.poison := rfl
@[simp] theorem State.wr_banks (k : Nat) (v : Word) : (s.wr k v).banks = s.banks := rfl
@[simp] theorem State.wr_borrow (k : Nat) (v : Word) : (s.wr k v).borrow = s.borrow := rfl
@[simp] theorem State.wr_chutes (k : Nat) (v : Word) : (s.wr k v).chutes = s.chutes := rfl
@[simp] theorem State.wr_srcs (k : Nat) (v : Word) : (s.wr k v).srcs = s.srcs := rfl
@[simp] theorem State.wr_pendReps (k : Nat) (v : Word) : (s.wr k v).pendReps = s.pendReps := rfl
@[simp] theorem State.wr_hrtQueue (k : Nat) (v : Word) : (s.wr k v).hrtQueue = s.hrtQueue := rfl
@[simp] theorem State.wr_fences (k : Nat) (v : Word) : (s.wr k v).fences = s.fences := rfl
@[simp] theorem State.wr_fencedUnits (k : Nat) (v : Word) : (s.wr k v).fencedUnits = s.fencedUnits := rfl
@[simp] theorem State.wr_safeReqs (k : Nat) (v : Word) : (s.wr k v).safeReqs = s.safeReqs := rfl
@[simp] theorem State.wr_found (k : Nat) (v : Word) : (s.wr k v).found = s.found := rfl
@[simp] theorem State.wr_cfg (k : Nat) (v : Word) : (s.wr k v).cfg = s.cfg := rfl
@[simp] theorem State.wr_fuses (k : Nat) (v : Word) : (s.wr k v).fuses = s.fuses := rfl
@[simp] theorem State.wr_panOps (k : Nat) (v : Word) : (s.wr k v).panOps = s.panOps := rfl
@[simp] theorem State.wr_hwy (k : Nat) (v : Word) : (s.wr k v).hwy = s.hwy := rfl
@[simp] theorem State.wr_hwyTi (k : Nat) (v : Word) : (s.wr k v).hwyTi = s.hwyTi := rfl
@[simp] theorem State.wr_engs (k : Nat) (v : Word) : (s.wr k v).engs = s.engs := rfl
@[simp] theorem State.wr_stdLoads (k : Nat) (v : Word) : (s.wr k v).stdLoads = s.stdLoads := rfl
@[simp] theorem State.wr_net (k : Nat) (v : Word) : (s.wr k v).net = s.net := rfl
@[simp] theorem State.wr_kpr (k : Nat) (v : Word) : (s.wr k v).kpr = s.kpr := rfl
@[simp] theorem State.wr_sdLast (k : Nat) (v : Word) : (s.wr k v).sdLast = s.sdLast := rfl
@[simp] theorem State.wr_sdOut (k : Nat) (v : Word) : (s.wr k v).sdOut = s.sdOut := rfl
@[simp] theorem State.wr_pwr (k : Nat) (v : Word) : (s.wr k v).pwr = s.pwr := rfl
@[simp] theorem State.wr_cal (k : Nat) (v : Word) : (s.wr k v).cal = s.cal := rfl
@[simp] theorem State.wr_otp (k : Nat) (v : Word) : (s.wr k v).otp = s.otp := rfl
@[simp] theorem State.wr_cel (k : Nat) (v : Word) : (s.wr k v).cel = s.cel := rfl
@[simp] theorem State.wr_ctxs (k : Nat) (v : Word) : (s.wr k v).ctxs = s.ctxs := rfl
@[simp] theorem State.wr_netTags (k : Nat) (v : Word) : (s.wr k v).netTags = s.netTags := rfl

/-! ### wf -/

@[simp] theorem State.wf_pending (k lo w v : Nat) : (s.wf k lo w v).pending = s.pending := rfl
@[simp] theorem State.wf_htick (k lo w v : Nat) : (s.wf k lo w v).htick = s.htick := rfl
@[simp] theorem State.wf_freeCtr (k lo w v : Nat) : (s.wf k lo w v).freeCtr = s.freeCtr := rfl
@[simp] theorem State.wf_regs (k lo w v : Nat) : (s.wf k lo w v).regs = Tbl.put s.regs k (setBits (s.rd k) lo w v) := rfl
@[simp] theorem State.wf_active (k lo w v : Nat) : (s.wf k lo w v).active = s.active := rfl
@[simp] theorem State.wf_tickSet (k lo w v : Nat) : (s.wf k lo w v).tickSet = s.tickSet := rfl
@[simp] theorem State.wf_tickOld (k lo w v : Nat) : (s.wf k lo w v).tickOld = s.tickOld := rfl
@[simp] theorem State.wf_tickSwp (k lo w v : Nat) : (s.wf k lo w v).tickSwp = s.tickSwp := rfl
@[simp] theorem State.wf_tickInc (k lo w v : Nat) : (s.wf k lo w v).tickInc = s.tickInc := rfl
@[simp] theorem State.wf_holds (k lo w v : Nat) : (s.wf k lo w v).holds = s.holds := rfl
@[simp] theorem State.wf_replies (k lo w v : Nat) : (s.wf k lo w v).replies = s.replies := rfl
@[simp] theorem State.wf_launched (k lo w v : Nat) : (s.wf k lo w v).launched = s.launched := rfl
@[simp] theorem State.wf_reports (k lo w v : Nat) : (s.wf k lo w v).reports = s.reports := rfl
@[simp] theorem State.wf_pins (k lo w v : Nat) : (s.wf k lo w v).pins = s.pins := rfl
@[simp] theorem State.wf_ctl (k lo w v : Nat) : (s.wf k lo w v).ctl = s.ctl := rfl
@[simp] theorem State.wf_gpg (k lo w v : Nat) : (s.wf k lo w v).gpg = s.gpg := rfl
@[simp] theorem State.wf_snaps (k lo w v : Nat) : (s.wf k lo w v).snaps = s.snaps := rfl
@[simp] theorem State.wf_supplyOut (k lo w v : Nat) : (s.wf k lo w v).supplyOut = s.supplyOut := rfl
@[simp] theorem State.wf_loop (k lo w v : Nat) : (s.wf k lo w v).loop = s.loop := rfl
@[simp] theorem State.wf_tiles (k lo w v : Nat) : (s.wf k lo w v).tiles = s.tiles := rfl
@[simp] theorem State.wf_trk (k lo w v : Nat) : (s.wf k lo w v).trk = s.trk := rfl
@[simp] theorem State.wf_meas (k lo w v : Nat) : (s.wf k lo w v).meas = s.meas := rfl
@[simp] theorem State.wf_rng (k lo w v : Nat) : (s.wf k lo w v).rng = s.rng := rfl
@[simp] theorem State.wf_mon (k lo w v : Nat) : (s.wf k lo w v).mon = s.mon := rfl
@[simp] theorem State.wf_link (k lo w v : Nat) : (s.wf k lo w v).link = s.link := rfl
@[simp] theorem State.wf_chcal (k lo w v : Nat) : (s.wf k lo w v).chcal = s.chcal := rfl
@[simp] theorem State.wf_mach (k lo w v : Nat) : (s.wf k lo w v).mach = s.mach := rfl
@[simp] theorem State.wf_tod (k lo w v : Nat) : (s.wf k lo w v).tod = s.tod := rfl
@[simp] theorem State.wf_mains (k lo w v : Nat) : (s.wf k lo w v).mains = s.mains := rfl
@[simp] theorem State.wf_alarms (k lo w v : Nat) : (s.wf k lo w v).alarms = s.alarms := rfl
@[simp] theorem State.wf_almOld (k lo w v : Nat) : (s.wf k lo w v).almOld = s.almOld := rfl
@[simp] theorem State.wf_pan (k lo w v : Nat) : (s.wf k lo w v).pan = s.pan := rfl
@[simp] theorem State.wf_poison (k lo w v : Nat) : (s.wf k lo w v).poison = s.poison := rfl
@[simp] theorem State.wf_banks (k lo w v : Nat) : (s.wf k lo w v).banks = s.banks := rfl
@[simp] theorem State.wf_borrow (k lo w v : Nat) : (s.wf k lo w v).borrow = s.borrow := rfl
@[simp] theorem State.wf_chutes (k lo w v : Nat) : (s.wf k lo w v).chutes = s.chutes := rfl
@[simp] theorem State.wf_srcs (k lo w v : Nat) : (s.wf k lo w v).srcs = s.srcs := rfl
@[simp] theorem State.wf_pendReps (k lo w v : Nat) : (s.wf k lo w v).pendReps = s.pendReps := rfl
@[simp] theorem State.wf_hrtQueue (k lo w v : Nat) : (s.wf k lo w v).hrtQueue = s.hrtQueue := rfl
@[simp] theorem State.wf_fences (k lo w v : Nat) : (s.wf k lo w v).fences = s.fences := rfl
@[simp] theorem State.wf_fencedUnits (k lo w v : Nat) : (s.wf k lo w v).fencedUnits = s.fencedUnits := rfl
@[simp] theorem State.wf_safeReqs (k lo w v : Nat) : (s.wf k lo w v).safeReqs = s.safeReqs := rfl
@[simp] theorem State.wf_found (k lo w v : Nat) : (s.wf k lo w v).found = s.found := rfl
@[simp] theorem State.wf_cfg (k lo w v : Nat) : (s.wf k lo w v).cfg = s.cfg := rfl
@[simp] theorem State.wf_fuses (k lo w v : Nat) : (s.wf k lo w v).fuses = s.fuses := rfl
@[simp] theorem State.wf_panOps (k lo w v : Nat) : (s.wf k lo w v).panOps = s.panOps := rfl
@[simp] theorem State.wf_hwy (k lo w v : Nat) : (s.wf k lo w v).hwy = s.hwy := rfl
@[simp] theorem State.wf_hwyTi (k lo w v : Nat) : (s.wf k lo w v).hwyTi = s.hwyTi := rfl
@[simp] theorem State.wf_engs (k lo w v : Nat) : (s.wf k lo w v).engs = s.engs := rfl
@[simp] theorem State.wf_stdLoads (k lo w v : Nat) : (s.wf k lo w v).stdLoads = s.stdLoads := rfl
@[simp] theorem State.wf_net (k lo w v : Nat) : (s.wf k lo w v).net = s.net := rfl
@[simp] theorem State.wf_kpr (k lo w v : Nat) : (s.wf k lo w v).kpr = s.kpr := rfl
@[simp] theorem State.wf_sdLast (k lo w v : Nat) : (s.wf k lo w v).sdLast = s.sdLast := rfl
@[simp] theorem State.wf_sdOut (k lo w v : Nat) : (s.wf k lo w v).sdOut = s.sdOut := rfl
@[simp] theorem State.wf_pwr (k lo w v : Nat) : (s.wf k lo w v).pwr = s.pwr := rfl
@[simp] theorem State.wf_cal (k lo w v : Nat) : (s.wf k lo w v).cal = s.cal := rfl
@[simp] theorem State.wf_otp (k lo w v : Nat) : (s.wf k lo w v).otp = s.otp := rfl
@[simp] theorem State.wf_cel (k lo w v : Nat) : (s.wf k lo w v).cel = s.cel := rfl
@[simp] theorem State.wf_ctxs (k lo w v : Nat) : (s.wf k lo w v).ctxs = s.ctxs := rfl
@[simp] theorem State.wf_netTags (k lo w v : Nat) : (s.wf k lo w v).netTags = s.netTags := rfl

/-! ### wb -/

@[simp] theorem State.wb_pending (k i : Nat) (b : Bool) : (s.wb k i b).pending = s.pending := rfl
@[simp] theorem State.wb_htick (k i : Nat) (b : Bool) : (s.wb k i b).htick = s.htick := rfl
@[simp] theorem State.wb_freeCtr (k i : Nat) (b : Bool) : (s.wb k i b).freeCtr = s.freeCtr := rfl
@[simp] theorem State.wb_regs (k i : Nat) (b : Bool) : (s.wb k i b).regs = Tbl.put s.regs k (putBit (s.rd k) i b) := rfl
@[simp] theorem State.wb_active (k i : Nat) (b : Bool) : (s.wb k i b).active = s.active := rfl
@[simp] theorem State.wb_tickSet (k i : Nat) (b : Bool) : (s.wb k i b).tickSet = s.tickSet := rfl
@[simp] theorem State.wb_tickOld (k i : Nat) (b : Bool) : (s.wb k i b).tickOld = s.tickOld := rfl
@[simp] theorem State.wb_tickSwp (k i : Nat) (b : Bool) : (s.wb k i b).tickSwp = s.tickSwp := rfl
@[simp] theorem State.wb_tickInc (k i : Nat) (b : Bool) : (s.wb k i b).tickInc = s.tickInc := rfl
@[simp] theorem State.wb_holds (k i : Nat) (b : Bool) : (s.wb k i b).holds = s.holds := rfl
@[simp] theorem State.wb_replies (k i : Nat) (b : Bool) : (s.wb k i b).replies = s.replies := rfl
@[simp] theorem State.wb_launched (k i : Nat) (b : Bool) : (s.wb k i b).launched = s.launched := rfl
@[simp] theorem State.wb_reports (k i : Nat) (b : Bool) : (s.wb k i b).reports = s.reports := rfl
@[simp] theorem State.wb_pins (k i : Nat) (b : Bool) : (s.wb k i b).pins = s.pins := rfl
@[simp] theorem State.wb_ctl (k i : Nat) (b : Bool) : (s.wb k i b).ctl = s.ctl := rfl
@[simp] theorem State.wb_gpg (k i : Nat) (b : Bool) : (s.wb k i b).gpg = s.gpg := rfl
@[simp] theorem State.wb_snaps (k i : Nat) (b : Bool) : (s.wb k i b).snaps = s.snaps := rfl
@[simp] theorem State.wb_supplyOut (k i : Nat) (b : Bool) : (s.wb k i b).supplyOut = s.supplyOut := rfl
@[simp] theorem State.wb_loop (k i : Nat) (b : Bool) : (s.wb k i b).loop = s.loop := rfl
@[simp] theorem State.wb_tiles (k i : Nat) (b : Bool) : (s.wb k i b).tiles = s.tiles := rfl
@[simp] theorem State.wb_trk (k i : Nat) (b : Bool) : (s.wb k i b).trk = s.trk := rfl
@[simp] theorem State.wb_meas (k i : Nat) (b : Bool) : (s.wb k i b).meas = s.meas := rfl
@[simp] theorem State.wb_rng (k i : Nat) (b : Bool) : (s.wb k i b).rng = s.rng := rfl
@[simp] theorem State.wb_mon (k i : Nat) (b : Bool) : (s.wb k i b).mon = s.mon := rfl
@[simp] theorem State.wb_link (k i : Nat) (b : Bool) : (s.wb k i b).link = s.link := rfl
@[simp] theorem State.wb_chcal (k i : Nat) (b : Bool) : (s.wb k i b).chcal = s.chcal := rfl
@[simp] theorem State.wb_mach (k i : Nat) (b : Bool) : (s.wb k i b).mach = s.mach := rfl
@[simp] theorem State.wb_tod (k i : Nat) (b : Bool) : (s.wb k i b).tod = s.tod := rfl
@[simp] theorem State.wb_mains (k i : Nat) (b : Bool) : (s.wb k i b).mains = s.mains := rfl
@[simp] theorem State.wb_alarms (k i : Nat) (b : Bool) : (s.wb k i b).alarms = s.alarms := rfl
@[simp] theorem State.wb_almOld (k i : Nat) (b : Bool) : (s.wb k i b).almOld = s.almOld := rfl
@[simp] theorem State.wb_pan (k i : Nat) (b : Bool) : (s.wb k i b).pan = s.pan := rfl
@[simp] theorem State.wb_poison (k i : Nat) (b : Bool) : (s.wb k i b).poison = s.poison := rfl
@[simp] theorem State.wb_banks (k i : Nat) (b : Bool) : (s.wb k i b).banks = s.banks := rfl
@[simp] theorem State.wb_borrow (k i : Nat) (b : Bool) : (s.wb k i b).borrow = s.borrow := rfl
@[simp] theorem State.wb_chutes (k i : Nat) (b : Bool) : (s.wb k i b).chutes = s.chutes := rfl
@[simp] theorem State.wb_srcs (k i : Nat) (b : Bool) : (s.wb k i b).srcs = s.srcs := rfl
@[simp] theorem State.wb_pendReps (k i : Nat) (b : Bool) : (s.wb k i b).pendReps = s.pendReps := rfl
@[simp] theorem State.wb_hrtQueue (k i : Nat) (b : Bool) : (s.wb k i b).hrtQueue = s.hrtQueue := rfl
@[simp] theorem State.wb_fences (k i : Nat) (b : Bool) : (s.wb k i b).fences = s.fences := rfl
@[simp] theorem State.wb_fencedUnits (k i : Nat) (b : Bool) : (s.wb k i b).fencedUnits = s.fencedUnits := rfl
@[simp] theorem State.wb_safeReqs (k i : Nat) (b : Bool) : (s.wb k i b).safeReqs = s.safeReqs := rfl
@[simp] theorem State.wb_found (k i : Nat) (b : Bool) : (s.wb k i b).found = s.found := rfl
@[simp] theorem State.wb_cfg (k i : Nat) (b : Bool) : (s.wb k i b).cfg = s.cfg := rfl
@[simp] theorem State.wb_fuses (k i : Nat) (b : Bool) : (s.wb k i b).fuses = s.fuses := rfl
@[simp] theorem State.wb_panOps (k i : Nat) (b : Bool) : (s.wb k i b).panOps = s.panOps := rfl
@[simp] theorem State.wb_hwy (k i : Nat) (b : Bool) : (s.wb k i b).hwy = s.hwy := rfl
@[simp] theorem State.wb_hwyTi (k i : Nat) (b : Bool) : (s.wb k i b).hwyTi = s.hwyTi := rfl
@[simp] theorem State.wb_engs (k i : Nat) (b : Bool) : (s.wb k i b).engs = s.engs := rfl
@[simp] theorem State.wb_stdLoads (k i : Nat) (b : Bool) : (s.wb k i b).stdLoads = s.stdLoads := rfl
@[simp] theorem State.wb_net (k i : Nat) (b : Bool) : (s.wb k i b).net = s.net := rfl
@[simp] theorem State.wb_kpr (k i : Nat) (b : Bool) : (s.wb k i b).kpr = s.kpr := rfl
@[simp] theorem State.wb_sdLast (k i : Nat) (b : Bool) : (s.wb k i b).sdLast = s.sdLast := rfl
@[simp] theorem State.wb_sdOut (k i : Nat) (b : Bool) : (s.wb k i b).sdOut = s.sdOut := rfl
@[simp] theorem State.wb_pwr (k i : Nat) (b : Bool) : (s.wb k i b).pwr = s.pwr := rfl
@[simp] theorem State.wb_cal (k i : Nat) (b : Bool) : (s.wb k i b).cal = s.cal := rfl
@[simp] theorem State.wb_otp (k i : Nat) (b : Bool) : (s.wb k i b).otp = s.otp := rfl
@[simp] theorem State.wb_cel (k i : Nat) (b : Bool) : (s.wb k i b).cel = s.cel := rfl
@[simp] theorem State.wb_ctxs (k i : Nat) (b : Bool) : (s.wb k i b).ctxs = s.ctxs := rfl
@[simp] theorem State.wb_netTags (k i : Nat) (b : Bool) : (s.wb k i b).netTags = s.netTags := rfl

/-! ### wr64 -/

@[simp] theorem State.wr64_pending (k : Nat) (v : DWord) : (s.wr64 k v).pending = s.pending := rfl
@[simp] theorem State.wr64_htick (k : Nat) (v : DWord) : (s.wr64 k v).htick = s.htick := rfl
@[simp] theorem State.wr64_freeCtr (k : Nat) (v : DWord) : (s.wr64 k v).freeCtr = s.freeCtr := rfl
@[simp] theorem State.wr64_active (k : Nat) (v : DWord) : (s.wr64 k v).active = s.active := rfl
@[simp] theorem State.wr64_tickSet (k : Nat) (v : DWord) : (s.wr64 k v).tickSet = s.tickSet := rfl
@[simp] theorem State.wr64_tickOld (k : Nat) (v : DWord) : (s.wr64 k v).tickOld = s.tickOld := rfl
@[simp] theorem State.wr64_tickSwp (k : Nat) (v : DWord) : (s.wr64 k v).tickSwp = s.tickSwp := rfl
@[simp] theorem State.wr64_tickInc (k : Nat) (v : DWord) : (s.wr64 k v).tickInc = s.tickInc := rfl
@[simp] theorem State.wr64_holds (k : Nat) (v : DWord) : (s.wr64 k v).holds = s.holds := rfl
@[simp] theorem State.wr64_replies (k : Nat) (v : DWord) : (s.wr64 k v).replies = s.replies := rfl
@[simp] theorem State.wr64_launched (k : Nat) (v : DWord) : (s.wr64 k v).launched = s.launched := rfl
@[simp] theorem State.wr64_reports (k : Nat) (v : DWord) : (s.wr64 k v).reports = s.reports := rfl
@[simp] theorem State.wr64_pins (k : Nat) (v : DWord) : (s.wr64 k v).pins = s.pins := rfl
@[simp] theorem State.wr64_ctl (k : Nat) (v : DWord) : (s.wr64 k v).ctl = s.ctl := rfl
@[simp] theorem State.wr64_gpg (k : Nat) (v : DWord) : (s.wr64 k v).gpg = s.gpg := rfl
@[simp] theorem State.wr64_snaps (k : Nat) (v : DWord) : (s.wr64 k v).snaps = s.snaps := rfl
@[simp] theorem State.wr64_supplyOut (k : Nat) (v : DWord) : (s.wr64 k v).supplyOut = s.supplyOut := rfl
@[simp] theorem State.wr64_loop (k : Nat) (v : DWord) : (s.wr64 k v).loop = s.loop := rfl
@[simp] theorem State.wr64_tiles (k : Nat) (v : DWord) : (s.wr64 k v).tiles = s.tiles := rfl
@[simp] theorem State.wr64_trk (k : Nat) (v : DWord) : (s.wr64 k v).trk = s.trk := rfl
@[simp] theorem State.wr64_meas (k : Nat) (v : DWord) : (s.wr64 k v).meas = s.meas := rfl
@[simp] theorem State.wr64_rng (k : Nat) (v : DWord) : (s.wr64 k v).rng = s.rng := rfl
@[simp] theorem State.wr64_mon (k : Nat) (v : DWord) : (s.wr64 k v).mon = s.mon := rfl
@[simp] theorem State.wr64_link (k : Nat) (v : DWord) : (s.wr64 k v).link = s.link := rfl
@[simp] theorem State.wr64_chcal (k : Nat) (v : DWord) : (s.wr64 k v).chcal = s.chcal := rfl
@[simp] theorem State.wr64_mach (k : Nat) (v : DWord) : (s.wr64 k v).mach = s.mach := rfl
@[simp] theorem State.wr64_tod (k : Nat) (v : DWord) : (s.wr64 k v).tod = s.tod := rfl
@[simp] theorem State.wr64_mains (k : Nat) (v : DWord) : (s.wr64 k v).mains = s.mains := rfl
@[simp] theorem State.wr64_alarms (k : Nat) (v : DWord) : (s.wr64 k v).alarms = s.alarms := rfl
@[simp] theorem State.wr64_almOld (k : Nat) (v : DWord) : (s.wr64 k v).almOld = s.almOld := rfl
@[simp] theorem State.wr64_pan (k : Nat) (v : DWord) : (s.wr64 k v).pan = s.pan := rfl
@[simp] theorem State.wr64_poison (k : Nat) (v : DWord) : (s.wr64 k v).poison = s.poison := rfl
@[simp] theorem State.wr64_banks (k : Nat) (v : DWord) : (s.wr64 k v).banks = s.banks := rfl
@[simp] theorem State.wr64_borrow (k : Nat) (v : DWord) : (s.wr64 k v).borrow = s.borrow := rfl
@[simp] theorem State.wr64_chutes (k : Nat) (v : DWord) : (s.wr64 k v).chutes = s.chutes := rfl
@[simp] theorem State.wr64_srcs (k : Nat) (v : DWord) : (s.wr64 k v).srcs = s.srcs := rfl
@[simp] theorem State.wr64_pendReps (k : Nat) (v : DWord) : (s.wr64 k v).pendReps = s.pendReps := rfl
@[simp] theorem State.wr64_hrtQueue (k : Nat) (v : DWord) : (s.wr64 k v).hrtQueue = s.hrtQueue := rfl
@[simp] theorem State.wr64_fences (k : Nat) (v : DWord) : (s.wr64 k v).fences = s.fences := rfl
@[simp] theorem State.wr64_fencedUnits (k : Nat) (v : DWord) : (s.wr64 k v).fencedUnits = s.fencedUnits := rfl
@[simp] theorem State.wr64_safeReqs (k : Nat) (v : DWord) : (s.wr64 k v).safeReqs = s.safeReqs := rfl
@[simp] theorem State.wr64_found (k : Nat) (v : DWord) : (s.wr64 k v).found = s.found := rfl
@[simp] theorem State.wr64_cfg (k : Nat) (v : DWord) : (s.wr64 k v).cfg = s.cfg := rfl
@[simp] theorem State.wr64_fuses (k : Nat) (v : DWord) : (s.wr64 k v).fuses = s.fuses := rfl
@[simp] theorem State.wr64_panOps (k : Nat) (v : DWord) : (s.wr64 k v).panOps = s.panOps := rfl
@[simp] theorem State.wr64_hwy (k : Nat) (v : DWord) : (s.wr64 k v).hwy = s.hwy := rfl
@[simp] theorem State.wr64_hwyTi (k : Nat) (v : DWord) : (s.wr64 k v).hwyTi = s.hwyTi := rfl
@[simp] theorem State.wr64_engs (k : Nat) (v : DWord) : (s.wr64 k v).engs = s.engs := rfl
@[simp] theorem State.wr64_stdLoads (k : Nat) (v : DWord) : (s.wr64 k v).stdLoads = s.stdLoads := rfl
@[simp] theorem State.wr64_net (k : Nat) (v : DWord) : (s.wr64 k v).net = s.net := rfl
@[simp] theorem State.wr64_kpr (k : Nat) (v : DWord) : (s.wr64 k v).kpr = s.kpr := rfl
@[simp] theorem State.wr64_sdLast (k : Nat) (v : DWord) : (s.wr64 k v).sdLast = s.sdLast := rfl
@[simp] theorem State.wr64_sdOut (k : Nat) (v : DWord) : (s.wr64 k v).sdOut = s.sdOut := rfl
@[simp] theorem State.wr64_pwr (k : Nat) (v : DWord) : (s.wr64 k v).pwr = s.pwr := rfl
@[simp] theorem State.wr64_cal (k : Nat) (v : DWord) : (s.wr64 k v).cal = s.cal := rfl
@[simp] theorem State.wr64_otp (k : Nat) (v : DWord) : (s.wr64 k v).otp = s.otp := rfl
@[simp] theorem State.wr64_cel (k : Nat) (v : DWord) : (s.wr64 k v).cel = s.cel := rfl
@[simp] theorem State.wr64_ctxs (k : Nat) (v : DWord) : (s.wr64 k v).ctxs = s.ctxs := rfl
@[simp] theorem State.wr64_netTags (k : Nat) (v : DWord) : (s.wr64 k v).netTags = s.netTags := rfl

/-! ### setAct -/

@[simp] theorem State.setAct_pending (k : Nat) (v : Word) : (s.setAct k v).pending = s.pending := rfl
@[simp] theorem State.setAct_htick (k : Nat) (v : Word) : (s.setAct k v).htick = s.htick := rfl
@[simp] theorem State.setAct_freeCtr (k : Nat) (v : Word) : (s.setAct k v).freeCtr = s.freeCtr := rfl
@[simp] theorem State.setAct_regs (k : Nat) (v : Word) : (s.setAct k v).regs = s.regs := rfl
@[simp] theorem State.setAct_active (k : Nat) (v : Word) : (s.setAct k v).active = Tbl.put s.active k v := rfl
@[simp] theorem State.setAct_tickSet (k : Nat) (v : Word) : (s.setAct k v).tickSet = s.tickSet := rfl
@[simp] theorem State.setAct_tickOld (k : Nat) (v : Word) : (s.setAct k v).tickOld = s.tickOld := rfl
@[simp] theorem State.setAct_tickSwp (k : Nat) (v : Word) : (s.setAct k v).tickSwp = s.tickSwp := rfl
@[simp] theorem State.setAct_tickInc (k : Nat) (v : Word) : (s.setAct k v).tickInc = s.tickInc := rfl
@[simp] theorem State.setAct_holds (k : Nat) (v : Word) : (s.setAct k v).holds = s.holds := rfl
@[simp] theorem State.setAct_replies (k : Nat) (v : Word) : (s.setAct k v).replies = s.replies := rfl
@[simp] theorem State.setAct_launched (k : Nat) (v : Word) : (s.setAct k v).launched = s.launched := rfl
@[simp] theorem State.setAct_reports (k : Nat) (v : Word) : (s.setAct k v).reports = s.reports := rfl
@[simp] theorem State.setAct_pins (k : Nat) (v : Word) : (s.setAct k v).pins = s.pins := rfl
@[simp] theorem State.setAct_ctl (k : Nat) (v : Word) : (s.setAct k v).ctl = s.ctl := rfl
@[simp] theorem State.setAct_gpg (k : Nat) (v : Word) : (s.setAct k v).gpg = s.gpg := rfl
@[simp] theorem State.setAct_snaps (k : Nat) (v : Word) : (s.setAct k v).snaps = s.snaps := rfl
@[simp] theorem State.setAct_supplyOut (k : Nat) (v : Word) : (s.setAct k v).supplyOut = s.supplyOut := rfl
@[simp] theorem State.setAct_loop (k : Nat) (v : Word) : (s.setAct k v).loop = s.loop := rfl
@[simp] theorem State.setAct_tiles (k : Nat) (v : Word) : (s.setAct k v).tiles = s.tiles := rfl
@[simp] theorem State.setAct_trk (k : Nat) (v : Word) : (s.setAct k v).trk = s.trk := rfl
@[simp] theorem State.setAct_meas (k : Nat) (v : Word) : (s.setAct k v).meas = s.meas := rfl
@[simp] theorem State.setAct_rng (k : Nat) (v : Word) : (s.setAct k v).rng = s.rng := rfl
@[simp] theorem State.setAct_mon (k : Nat) (v : Word) : (s.setAct k v).mon = s.mon := rfl
@[simp] theorem State.setAct_link (k : Nat) (v : Word) : (s.setAct k v).link = s.link := rfl
@[simp] theorem State.setAct_chcal (k : Nat) (v : Word) : (s.setAct k v).chcal = s.chcal := rfl
@[simp] theorem State.setAct_mach (k : Nat) (v : Word) : (s.setAct k v).mach = s.mach := rfl
@[simp] theorem State.setAct_tod (k : Nat) (v : Word) : (s.setAct k v).tod = s.tod := rfl
@[simp] theorem State.setAct_mains (k : Nat) (v : Word) : (s.setAct k v).mains = s.mains := rfl
@[simp] theorem State.setAct_alarms (k : Nat) (v : Word) : (s.setAct k v).alarms = s.alarms := rfl
@[simp] theorem State.setAct_almOld (k : Nat) (v : Word) : (s.setAct k v).almOld = s.almOld := rfl
@[simp] theorem State.setAct_pan (k : Nat) (v : Word) : (s.setAct k v).pan = s.pan := rfl
@[simp] theorem State.setAct_poison (k : Nat) (v : Word) : (s.setAct k v).poison = s.poison := rfl
@[simp] theorem State.setAct_banks (k : Nat) (v : Word) : (s.setAct k v).banks = s.banks := rfl
@[simp] theorem State.setAct_borrow (k : Nat) (v : Word) : (s.setAct k v).borrow = s.borrow := rfl
@[simp] theorem State.setAct_chutes (k : Nat) (v : Word) : (s.setAct k v).chutes = s.chutes := rfl
@[simp] theorem State.setAct_srcs (k : Nat) (v : Word) : (s.setAct k v).srcs = s.srcs := rfl
@[simp] theorem State.setAct_pendReps (k : Nat) (v : Word) : (s.setAct k v).pendReps = s.pendReps := rfl
@[simp] theorem State.setAct_hrtQueue (k : Nat) (v : Word) : (s.setAct k v).hrtQueue = s.hrtQueue := rfl
@[simp] theorem State.setAct_fences (k : Nat) (v : Word) : (s.setAct k v).fences = s.fences := rfl
@[simp] theorem State.setAct_fencedUnits (k : Nat) (v : Word) : (s.setAct k v).fencedUnits = s.fencedUnits := rfl
@[simp] theorem State.setAct_safeReqs (k : Nat) (v : Word) : (s.setAct k v).safeReqs = s.safeReqs := rfl
@[simp] theorem State.setAct_found (k : Nat) (v : Word) : (s.setAct k v).found = s.found := rfl
@[simp] theorem State.setAct_cfg (k : Nat) (v : Word) : (s.setAct k v).cfg = s.cfg := rfl
@[simp] theorem State.setAct_fuses (k : Nat) (v : Word) : (s.setAct k v).fuses = s.fuses := rfl
@[simp] theorem State.setAct_panOps (k : Nat) (v : Word) : (s.setAct k v).panOps = s.panOps := rfl
@[simp] theorem State.setAct_hwy (k : Nat) (v : Word) : (s.setAct k v).hwy = s.hwy := rfl
@[simp] theorem State.setAct_hwyTi (k : Nat) (v : Word) : (s.setAct k v).hwyTi = s.hwyTi := rfl
@[simp] theorem State.setAct_engs (k : Nat) (v : Word) : (s.setAct k v).engs = s.engs := rfl
@[simp] theorem State.setAct_stdLoads (k : Nat) (v : Word) : (s.setAct k v).stdLoads = s.stdLoads := rfl
@[simp] theorem State.setAct_net (k : Nat) (v : Word) : (s.setAct k v).net = s.net := rfl
@[simp] theorem State.setAct_kpr (k : Nat) (v : Word) : (s.setAct k v).kpr = s.kpr := rfl
@[simp] theorem State.setAct_sdLast (k : Nat) (v : Word) : (s.setAct k v).sdLast = s.sdLast := rfl
@[simp] theorem State.setAct_sdOut (k : Nat) (v : Word) : (s.setAct k v).sdOut = s.sdOut := rfl
@[simp] theorem State.setAct_pwr (k : Nat) (v : Word) : (s.setAct k v).pwr = s.pwr := rfl
@[simp] theorem State.setAct_cal (k : Nat) (v : Word) : (s.setAct k v).cal = s.cal := rfl
@[simp] theorem State.setAct_otp (k : Nat) (v : Word) : (s.setAct k v).otp = s.otp := rfl
@[simp] theorem State.setAct_cel (k : Nat) (v : Word) : (s.setAct k v).cel = s.cel := rfl
@[simp] theorem State.setAct_ctxs (k : Nat) (v : Word) : (s.setAct k v).ctxs = s.ctxs := rfl
@[simp] theorem State.setAct_netTags (k : Nat) (v : Word) : (s.setAct k v).netTags = s.netTags := rfl

/-! ### noteInc -/

@[simp] theorem State.noteInc_pending (k lo w n : Nat) (b : Bool) : (s.noteInc k lo w n b).pending = s.pending := rfl
@[simp] theorem State.noteInc_htick (k lo w n : Nat) (b : Bool) : (s.noteInc k lo w n b).htick = s.htick := rfl
@[simp] theorem State.noteInc_freeCtr (k lo w n : Nat) (b : Bool) : (s.noteInc k lo w n b).freeCtr = s.freeCtr := rfl
@[simp] theorem State.noteInc_regs (k lo w n : Nat) (b : Bool) : (s.noteInc k lo w n b).regs = s.regs := rfl
@[simp] theorem State.noteInc_active (k lo w n : Nat) (b : Bool) : (s.noteInc k lo w n b).active = s.active := rfl
@[simp] theorem State.noteInc_tickSet (k lo w n : Nat) (b : Bool) : (s.noteInc k lo w n b).tickSet = s.tickSet := rfl
@[simp] theorem State.noteInc_tickOld (k lo w n : Nat) (b : Bool) : (s.noteInc k lo w n b).tickOld = s.tickOld := rfl
@[simp] theorem State.noteInc_tickSwp (k lo w n : Nat) (b : Bool) : (s.noteInc k lo w n b).tickSwp = s.tickSwp := rfl
@[simp] theorem State.noteInc_tickInc (k lo w n : Nat) (b : Bool) : (s.noteInc k lo w n b).tickInc = ⟨k, lo, w, n, b⟩ :: s.tickInc := rfl
@[simp] theorem State.noteInc_holds (k lo w n : Nat) (b : Bool) : (s.noteInc k lo w n b).holds = s.holds := rfl
@[simp] theorem State.noteInc_replies (k lo w n : Nat) (b : Bool) : (s.noteInc k lo w n b).replies = s.replies := rfl
@[simp] theorem State.noteInc_launched (k lo w n : Nat) (b : Bool) : (s.noteInc k lo w n b).launched = s.launched := rfl
@[simp] theorem State.noteInc_reports (k lo w n : Nat) (b : Bool) : (s.noteInc k lo w n b).reports = s.reports := rfl
@[simp] theorem State.noteInc_pins (k lo w n : Nat) (b : Bool) : (s.noteInc k lo w n b).pins = s.pins := rfl
@[simp] theorem State.noteInc_ctl (k lo w n : Nat) (b : Bool) : (s.noteInc k lo w n b).ctl = s.ctl := rfl
@[simp] theorem State.noteInc_gpg (k lo w n : Nat) (b : Bool) : (s.noteInc k lo w n b).gpg = s.gpg := rfl
@[simp] theorem State.noteInc_snaps (k lo w n : Nat) (b : Bool) : (s.noteInc k lo w n b).snaps = s.snaps := rfl
@[simp] theorem State.noteInc_supplyOut (k lo w n : Nat) (b : Bool) : (s.noteInc k lo w n b).supplyOut = s.supplyOut := rfl
@[simp] theorem State.noteInc_loop (k lo w n : Nat) (b : Bool) : (s.noteInc k lo w n b).loop = s.loop := rfl
@[simp] theorem State.noteInc_tiles (k lo w n : Nat) (b : Bool) : (s.noteInc k lo w n b).tiles = s.tiles := rfl
@[simp] theorem State.noteInc_trk (k lo w n : Nat) (b : Bool) : (s.noteInc k lo w n b).trk = s.trk := rfl
@[simp] theorem State.noteInc_meas (k lo w n : Nat) (b : Bool) : (s.noteInc k lo w n b).meas = s.meas := rfl
@[simp] theorem State.noteInc_rng (k lo w n : Nat) (b : Bool) : (s.noteInc k lo w n b).rng = s.rng := rfl
@[simp] theorem State.noteInc_mon (k lo w n : Nat) (b : Bool) : (s.noteInc k lo w n b).mon = s.mon := rfl
@[simp] theorem State.noteInc_link (k lo w n : Nat) (b : Bool) : (s.noteInc k lo w n b).link = s.link := rfl
@[simp] theorem State.noteInc_chcal (k lo w n : Nat) (b : Bool) : (s.noteInc k lo w n b).chcal = s.chcal := rfl
@[simp] theorem State.noteInc_mach (k lo w n : Nat) (b : Bool) : (s.noteInc k lo w n b).mach = s.mach := rfl
@[simp] theorem State.noteInc_tod (k lo w n : Nat) (b : Bool) : (s.noteInc k lo w n b).tod = s.tod := rfl
@[simp] theorem State.noteInc_mains (k lo w n : Nat) (b : Bool) : (s.noteInc k lo w n b).mains = s.mains := rfl
@[simp] theorem State.noteInc_alarms (k lo w n : Nat) (b : Bool) : (s.noteInc k lo w n b).alarms = s.alarms := rfl
@[simp] theorem State.noteInc_almOld (k lo w n : Nat) (b : Bool) : (s.noteInc k lo w n b).almOld = s.almOld := rfl
@[simp] theorem State.noteInc_pan (k lo w n : Nat) (b : Bool) : (s.noteInc k lo w n b).pan = s.pan := rfl
@[simp] theorem State.noteInc_poison (k lo w n : Nat) (b : Bool) : (s.noteInc k lo w n b).poison = s.poison := rfl
@[simp] theorem State.noteInc_banks (k lo w n : Nat) (b : Bool) : (s.noteInc k lo w n b).banks = s.banks := rfl
@[simp] theorem State.noteInc_borrow (k lo w n : Nat) (b : Bool) : (s.noteInc k lo w n b).borrow = s.borrow := rfl
@[simp] theorem State.noteInc_chutes (k lo w n : Nat) (b : Bool) : (s.noteInc k lo w n b).chutes = s.chutes := rfl
@[simp] theorem State.noteInc_srcs (k lo w n : Nat) (b : Bool) : (s.noteInc k lo w n b).srcs = s.srcs := rfl
@[simp] theorem State.noteInc_pendReps (k lo w n : Nat) (b : Bool) : (s.noteInc k lo w n b).pendReps = s.pendReps := rfl
@[simp] theorem State.noteInc_hrtQueue (k lo w n : Nat) (b : Bool) : (s.noteInc k lo w n b).hrtQueue = s.hrtQueue := rfl
@[simp] theorem State.noteInc_fences (k lo w n : Nat) (b : Bool) : (s.noteInc k lo w n b).fences = s.fences := rfl
@[simp] theorem State.noteInc_fencedUnits (k lo w n : Nat) (b : Bool) : (s.noteInc k lo w n b).fencedUnits = s.fencedUnits := rfl
@[simp] theorem State.noteInc_safeReqs (k lo w n : Nat) (b : Bool) : (s.noteInc k lo w n b).safeReqs = s.safeReqs := rfl
@[simp] theorem State.noteInc_found (k lo w n : Nat) (b : Bool) : (s.noteInc k lo w n b).found = s.found := rfl
@[simp] theorem State.noteInc_cfg (k lo w n : Nat) (b : Bool) : (s.noteInc k lo w n b).cfg = s.cfg := rfl
@[simp] theorem State.noteInc_fuses (k lo w n : Nat) (b : Bool) : (s.noteInc k lo w n b).fuses = s.fuses := rfl
@[simp] theorem State.noteInc_panOps (k lo w n : Nat) (b : Bool) : (s.noteInc k lo w n b).panOps = s.panOps := rfl
@[simp] theorem State.noteInc_hwy (k lo w n : Nat) (b : Bool) : (s.noteInc k lo w n b).hwy = s.hwy := rfl
@[simp] theorem State.noteInc_hwyTi (k lo w n : Nat) (b : Bool) : (s.noteInc k lo w n b).hwyTi = s.hwyTi := rfl
@[simp] theorem State.noteInc_engs (k lo w n : Nat) (b : Bool) : (s.noteInc k lo w n b).engs = s.engs := rfl
@[simp] theorem State.noteInc_stdLoads (k lo w n : Nat) (b : Bool) : (s.noteInc k lo w n b).stdLoads = s.stdLoads := rfl
@[simp] theorem State.noteInc_net (k lo w n : Nat) (b : Bool) : (s.noteInc k lo w n b).net = s.net := rfl
@[simp] theorem State.noteInc_kpr (k lo w n : Nat) (b : Bool) : (s.noteInc k lo w n b).kpr = s.kpr := rfl
@[simp] theorem State.noteInc_sdLast (k lo w n : Nat) (b : Bool) : (s.noteInc k lo w n b).sdLast = s.sdLast := rfl
@[simp] theorem State.noteInc_sdOut (k lo w n : Nat) (b : Bool) : (s.noteInc k lo w n b).sdOut = s.sdOut := rfl
@[simp] theorem State.noteInc_pwr (k lo w n : Nat) (b : Bool) : (s.noteInc k lo w n b).pwr = s.pwr := rfl
@[simp] theorem State.noteInc_cal (k lo w n : Nat) (b : Bool) : (s.noteInc k lo w n b).cal = s.cal := rfl
@[simp] theorem State.noteInc_otp (k lo w n : Nat) (b : Bool) : (s.noteInc k lo w n b).otp = s.otp := rfl
@[simp] theorem State.noteInc_cel (k lo w n : Nat) (b : Bool) : (s.noteInc k lo w n b).cel = s.cel := rfl
@[simp] theorem State.noteInc_ctxs (k lo w n : Nat) (b : Bool) : (s.noteInc k lo w n b).ctxs = s.ctxs := rfl
@[simp] theorem State.noteInc_netTags (k lo w n : Nat) (b : Bool) : (s.noteInc k lo w n b).netTags = s.netTags := rfl

/-! ### flag -/

@[simp] theorem State.flag_pending (k i : Nat) : (s.flag k i).pending = s.pending := rfl
@[simp] theorem State.flag_htick (k i : Nat) : (s.flag k i).htick = s.htick := rfl
@[simp] theorem State.flag_freeCtr (k i : Nat) : (s.flag k i).freeCtr = s.freeCtr := rfl
@[simp] theorem State.flag_regs (k i : Nat) : (s.flag k i).regs = Tbl.put s.regs k (putBit (s.rd k) i true) := rfl
@[simp] theorem State.flag_active (k i : Nat) : (s.flag k i).active = s.active := rfl
@[simp] theorem State.flag_tickSet (k i : Nat) : (s.flag k i).tickSet = Tbl.put s.tickSet k (setBit (Tbl.get 0#32 s.tickSet k) i) := rfl
@[simp] theorem State.flag_tickOld (k i : Nat) : (s.flag k i).tickOld = s.tickOld := rfl
@[simp] theorem State.flag_tickSwp (k i : Nat) : (s.flag k i).tickSwp = s.tickSwp := rfl
@[simp] theorem State.flag_tickInc (k i : Nat) : (s.flag k i).tickInc = s.tickInc := rfl
@[simp] theorem State.flag_holds (k i : Nat) : (s.flag k i).holds = s.holds := rfl
@[simp] theorem State.flag_replies (k i : Nat) : (s.flag k i).replies = s.replies := rfl
@[simp] theorem State.flag_launched (k i : Nat) : (s.flag k i).launched = s.launched := rfl
@[simp] theorem State.flag_reports (k i : Nat) : (s.flag k i).reports = s.reports := rfl
@[simp] theorem State.flag_pins (k i : Nat) : (s.flag k i).pins = s.pins := rfl
@[simp] theorem State.flag_ctl (k i : Nat) : (s.flag k i).ctl = s.ctl := rfl
@[simp] theorem State.flag_gpg (k i : Nat) : (s.flag k i).gpg = s.gpg := rfl
@[simp] theorem State.flag_snaps (k i : Nat) : (s.flag k i).snaps = s.snaps := rfl
@[simp] theorem State.flag_supplyOut (k i : Nat) : (s.flag k i).supplyOut = s.supplyOut := rfl
@[simp] theorem State.flag_loop (k i : Nat) : (s.flag k i).loop = s.loop := rfl
@[simp] theorem State.flag_tiles (k i : Nat) : (s.flag k i).tiles = s.tiles := rfl
@[simp] theorem State.flag_trk (k i : Nat) : (s.flag k i).trk = s.trk := rfl
@[simp] theorem State.flag_meas (k i : Nat) : (s.flag k i).meas = s.meas := rfl
@[simp] theorem State.flag_rng (k i : Nat) : (s.flag k i).rng = s.rng := rfl
@[simp] theorem State.flag_mon (k i : Nat) : (s.flag k i).mon = s.mon := rfl
@[simp] theorem State.flag_link (k i : Nat) : (s.flag k i).link = s.link := rfl
@[simp] theorem State.flag_chcal (k i : Nat) : (s.flag k i).chcal = s.chcal := rfl
@[simp] theorem State.flag_mach (k i : Nat) : (s.flag k i).mach = s.mach := rfl
@[simp] theorem State.flag_tod (k i : Nat) : (s.flag k i).tod = s.tod := rfl
@[simp] theorem State.flag_mains (k i : Nat) : (s.flag k i).mains = s.mains := rfl
@[simp] theorem State.flag_alarms (k i : Nat) : (s.flag k i).alarms = s.alarms := rfl
@[simp] theorem State.flag_almOld (k i : Nat) : (s.flag k i).almOld = s.almOld := rfl
@[simp] theorem State.flag_pan (k i : Nat) : (s.flag k i).pan = s.pan := rfl
@[simp] theorem State.flag_poison (k i : Nat) : (s.flag k i).poison = s.poison := rfl
@[simp] theorem State.flag_banks (k i : Nat) : (s.flag k i).banks = s.banks := rfl
@[simp] theorem State.flag_borrow (k i : Nat) : (s.flag k i).borrow = s.borrow := rfl
@[simp] theorem State.flag_chutes (k i : Nat) : (s.flag k i).chutes = s.chutes := rfl
@[simp] theorem State.flag_srcs (k i : Nat) : (s.flag k i).srcs = s.srcs := rfl
@[simp] theorem State.flag_pendReps (k i : Nat) : (s.flag k i).pendReps = s.pendReps := rfl
@[simp] theorem State.flag_hrtQueue (k i : Nat) : (s.flag k i).hrtQueue = s.hrtQueue := rfl
@[simp] theorem State.flag_fences (k i : Nat) : (s.flag k i).fences = s.fences := rfl
@[simp] theorem State.flag_fencedUnits (k i : Nat) : (s.flag k i).fencedUnits = s.fencedUnits := rfl
@[simp] theorem State.flag_safeReqs (k i : Nat) : (s.flag k i).safeReqs = s.safeReqs := rfl
@[simp] theorem State.flag_found (k i : Nat) : (s.flag k i).found = s.found := rfl
@[simp] theorem State.flag_cfg (k i : Nat) : (s.flag k i).cfg = s.cfg := rfl
@[simp] theorem State.flag_fuses (k i : Nat) : (s.flag k i).fuses = s.fuses := rfl
@[simp] theorem State.flag_panOps (k i : Nat) : (s.flag k i).panOps = s.panOps := rfl
@[simp] theorem State.flag_hwy (k i : Nat) : (s.flag k i).hwy = s.hwy := rfl
@[simp] theorem State.flag_hwyTi (k i : Nat) : (s.flag k i).hwyTi = s.hwyTi := rfl
@[simp] theorem State.flag_engs (k i : Nat) : (s.flag k i).engs = s.engs := rfl
@[simp] theorem State.flag_stdLoads (k i : Nat) : (s.flag k i).stdLoads = s.stdLoads := rfl
@[simp] theorem State.flag_net (k i : Nat) : (s.flag k i).net = s.net := rfl
@[simp] theorem State.flag_kpr (k i : Nat) : (s.flag k i).kpr = s.kpr := rfl
@[simp] theorem State.flag_sdLast (k i : Nat) : (s.flag k i).sdLast = s.sdLast := rfl
@[simp] theorem State.flag_sdOut (k i : Nat) : (s.flag k i).sdOut = s.sdOut := rfl
@[simp] theorem State.flag_pwr (k i : Nat) : (s.flag k i).pwr = s.pwr := rfl
@[simp] theorem State.flag_cal (k i : Nat) : (s.flag k i).cal = s.cal := rfl
@[simp] theorem State.flag_otp (k i : Nat) : (s.flag k i).otp = s.otp := rfl
@[simp] theorem State.flag_cel (k i : Nat) : (s.flag k i).cel = s.cel := rfl
@[simp] theorem State.flag_ctxs (k i : Nat) : (s.flag k i).ctxs = s.ctxs := rfl
@[simp] theorem State.flag_netTags (k i : Nat) : (s.flag k i).netTags = s.netTags := rfl

/-! ### incSat -/

@[simp] theorem State.incSat_pending (k lo w : Nat) : (s.incSat k lo w).pending = s.pending := rfl
@[simp] theorem State.incSat_htick (k lo w : Nat) : (s.incSat k lo w).htick = s.htick := rfl
@[simp] theorem State.incSat_freeCtr (k lo w : Nat) : (s.incSat k lo w).freeCtr = s.freeCtr := rfl
@[simp] theorem State.incSat_regs (k lo w : Nat) : (s.incSat k lo w).regs = Tbl.put s.regs k (setBits (s.rd k) lo w (min (s.rf k lo w + 1) (2 ^ w - 1))) := rfl
@[simp] theorem State.incSat_active (k lo w : Nat) : (s.incSat k lo w).active = s.active := rfl
@[simp] theorem State.incSat_tickSet (k lo w : Nat) : (s.incSat k lo w).tickSet = s.tickSet := rfl
@[simp] theorem State.incSat_tickOld (k lo w : Nat) : (s.incSat k lo w).tickOld = s.tickOld := rfl
@[simp] theorem State.incSat_tickSwp (k lo w : Nat) : (s.incSat k lo w).tickSwp = s.tickSwp := rfl
@[simp] theorem State.incSat_tickInc (k lo w : Nat) : (s.incSat k lo w).tickInc = ⟨k, lo, w, 1, false⟩ :: s.tickInc := rfl
@[simp] theorem State.incSat_holds (k lo w : Nat) : (s.incSat k lo w).holds = s.holds := rfl
@[simp] theorem State.incSat_replies (k lo w : Nat) : (s.incSat k lo w).replies = s.replies := rfl
@[simp] theorem State.incSat_launched (k lo w : Nat) : (s.incSat k lo w).launched = s.launched := rfl
@[simp] theorem State.incSat_reports (k lo w : Nat) : (s.incSat k lo w).reports = s.reports := rfl
@[simp] theorem State.incSat_pins (k lo w : Nat) : (s.incSat k lo w).pins = s.pins := rfl
@[simp] theorem State.incSat_ctl (k lo w : Nat) : (s.incSat k lo w).ctl = s.ctl := rfl
@[simp] theorem State.incSat_gpg (k lo w : Nat) : (s.incSat k lo w).gpg = s.gpg := rfl
@[simp] theorem State.incSat_snaps (k lo w : Nat) : (s.incSat k lo w).snaps = s.snaps := rfl
@[simp] theorem State.incSat_supplyOut (k lo w : Nat) : (s.incSat k lo w).supplyOut = s.supplyOut := rfl
@[simp] theorem State.incSat_loop (k lo w : Nat) : (s.incSat k lo w).loop = s.loop := rfl
@[simp] theorem State.incSat_tiles (k lo w : Nat) : (s.incSat k lo w).tiles = s.tiles := rfl
@[simp] theorem State.incSat_trk (k lo w : Nat) : (s.incSat k lo w).trk = s.trk := rfl
@[simp] theorem State.incSat_meas (k lo w : Nat) : (s.incSat k lo w).meas = s.meas := rfl
@[simp] theorem State.incSat_rng (k lo w : Nat) : (s.incSat k lo w).rng = s.rng := rfl
@[simp] theorem State.incSat_mon (k lo w : Nat) : (s.incSat k lo w).mon = s.mon := rfl
@[simp] theorem State.incSat_link (k lo w : Nat) : (s.incSat k lo w).link = s.link := rfl
@[simp] theorem State.incSat_chcal (k lo w : Nat) : (s.incSat k lo w).chcal = s.chcal := rfl
@[simp] theorem State.incSat_mach (k lo w : Nat) : (s.incSat k lo w).mach = s.mach := rfl
@[simp] theorem State.incSat_tod (k lo w : Nat) : (s.incSat k lo w).tod = s.tod := rfl
@[simp] theorem State.incSat_mains (k lo w : Nat) : (s.incSat k lo w).mains = s.mains := rfl
@[simp] theorem State.incSat_alarms (k lo w : Nat) : (s.incSat k lo w).alarms = s.alarms := rfl
@[simp] theorem State.incSat_almOld (k lo w : Nat) : (s.incSat k lo w).almOld = s.almOld := rfl
@[simp] theorem State.incSat_pan (k lo w : Nat) : (s.incSat k lo w).pan = s.pan := rfl
@[simp] theorem State.incSat_poison (k lo w : Nat) : (s.incSat k lo w).poison = s.poison := rfl
@[simp] theorem State.incSat_banks (k lo w : Nat) : (s.incSat k lo w).banks = s.banks := rfl
@[simp] theorem State.incSat_borrow (k lo w : Nat) : (s.incSat k lo w).borrow = s.borrow := rfl
@[simp] theorem State.incSat_chutes (k lo w : Nat) : (s.incSat k lo w).chutes = s.chutes := rfl
@[simp] theorem State.incSat_srcs (k lo w : Nat) : (s.incSat k lo w).srcs = s.srcs := rfl
@[simp] theorem State.incSat_pendReps (k lo w : Nat) : (s.incSat k lo w).pendReps = s.pendReps := rfl
@[simp] theorem State.incSat_hrtQueue (k lo w : Nat) : (s.incSat k lo w).hrtQueue = s.hrtQueue := rfl
@[simp] theorem State.incSat_fences (k lo w : Nat) : (s.incSat k lo w).fences = s.fences := rfl
@[simp] theorem State.incSat_fencedUnits (k lo w : Nat) : (s.incSat k lo w).fencedUnits = s.fencedUnits := rfl
@[simp] theorem State.incSat_safeReqs (k lo w : Nat) : (s.incSat k lo w).safeReqs = s.safeReqs := rfl
@[simp] theorem State.incSat_found (k lo w : Nat) : (s.incSat k lo w).found = s.found := rfl
@[simp] theorem State.incSat_cfg (k lo w : Nat) : (s.incSat k lo w).cfg = s.cfg := rfl
@[simp] theorem State.incSat_fuses (k lo w : Nat) : (s.incSat k lo w).fuses = s.fuses := rfl
@[simp] theorem State.incSat_panOps (k lo w : Nat) : (s.incSat k lo w).panOps = s.panOps := rfl
@[simp] theorem State.incSat_hwy (k lo w : Nat) : (s.incSat k lo w).hwy = s.hwy := rfl
@[simp] theorem State.incSat_hwyTi (k lo w : Nat) : (s.incSat k lo w).hwyTi = s.hwyTi := rfl
@[simp] theorem State.incSat_engs (k lo w : Nat) : (s.incSat k lo w).engs = s.engs := rfl
@[simp] theorem State.incSat_stdLoads (k lo w : Nat) : (s.incSat k lo w).stdLoads = s.stdLoads := rfl
@[simp] theorem State.incSat_net (k lo w : Nat) : (s.incSat k lo w).net = s.net := rfl
@[simp] theorem State.incSat_kpr (k lo w : Nat) : (s.incSat k lo w).kpr = s.kpr := rfl
@[simp] theorem State.incSat_sdLast (k lo w : Nat) : (s.incSat k lo w).sdLast = s.sdLast := rfl
@[simp] theorem State.incSat_sdOut (k lo w : Nat) : (s.incSat k lo w).sdOut = s.sdOut := rfl
@[simp] theorem State.incSat_pwr (k lo w : Nat) : (s.incSat k lo w).pwr = s.pwr := rfl
@[simp] theorem State.incSat_cal (k lo w : Nat) : (s.incSat k lo w).cal = s.cal := rfl
@[simp] theorem State.incSat_otp (k lo w : Nat) : (s.incSat k lo w).otp = s.otp := rfl
@[simp] theorem State.incSat_cel (k lo w : Nat) : (s.incSat k lo w).cel = s.cel := rfl
@[simp] theorem State.incSat_ctxs (k lo w : Nat) : (s.incSat k lo w).ctxs = s.ctxs := rfl
@[simp] theorem State.incSat_netTags (k lo w : Nat) : (s.incSat k lo w).netTags = s.netTags := rfl

/-! ### incWrap -/

@[simp] theorem State.incWrap_pending (k lo w : Nat) : (s.incWrap k lo w).pending = s.pending := rfl
@[simp] theorem State.incWrap_htick (k lo w : Nat) : (s.incWrap k lo w).htick = s.htick := rfl
@[simp] theorem State.incWrap_freeCtr (k lo w : Nat) : (s.incWrap k lo w).freeCtr = s.freeCtr := rfl
@[simp] theorem State.incWrap_regs (k lo w : Nat) : (s.incWrap k lo w).regs = Tbl.put s.regs k (setBits (s.rd k) lo w (s.rf k lo w + 1)) := rfl
@[simp] theorem State.incWrap_active (k lo w : Nat) : (s.incWrap k lo w).active = s.active := rfl
@[simp] theorem State.incWrap_tickSet (k lo w : Nat) : (s.incWrap k lo w).tickSet = s.tickSet := rfl
@[simp] theorem State.incWrap_tickOld (k lo w : Nat) : (s.incWrap k lo w).tickOld = s.tickOld := rfl
@[simp] theorem State.incWrap_tickSwp (k lo w : Nat) : (s.incWrap k lo w).tickSwp = s.tickSwp := rfl
@[simp] theorem State.incWrap_tickInc (k lo w : Nat) : (s.incWrap k lo w).tickInc = ⟨k, lo, w, 1, true⟩ :: s.tickInc := rfl
@[simp] theorem State.incWrap_holds (k lo w : Nat) : (s.incWrap k lo w).holds = s.holds := rfl
@[simp] theorem State.incWrap_replies (k lo w : Nat) : (s.incWrap k lo w).replies = s.replies := rfl
@[simp] theorem State.incWrap_launched (k lo w : Nat) : (s.incWrap k lo w).launched = s.launched := rfl
@[simp] theorem State.incWrap_reports (k lo w : Nat) : (s.incWrap k lo w).reports = s.reports := rfl
@[simp] theorem State.incWrap_pins (k lo w : Nat) : (s.incWrap k lo w).pins = s.pins := rfl
@[simp] theorem State.incWrap_ctl (k lo w : Nat) : (s.incWrap k lo w).ctl = s.ctl := rfl
@[simp] theorem State.incWrap_gpg (k lo w : Nat) : (s.incWrap k lo w).gpg = s.gpg := rfl
@[simp] theorem State.incWrap_snaps (k lo w : Nat) : (s.incWrap k lo w).snaps = s.snaps := rfl
@[simp] theorem State.incWrap_supplyOut (k lo w : Nat) : (s.incWrap k lo w).supplyOut = s.supplyOut := rfl
@[simp] theorem State.incWrap_loop (k lo w : Nat) : (s.incWrap k lo w).loop = s.loop := rfl
@[simp] theorem State.incWrap_tiles (k lo w : Nat) : (s.incWrap k lo w).tiles = s.tiles := rfl
@[simp] theorem State.incWrap_trk (k lo w : Nat) : (s.incWrap k lo w).trk = s.trk := rfl
@[simp] theorem State.incWrap_meas (k lo w : Nat) : (s.incWrap k lo w).meas = s.meas := rfl
@[simp] theorem State.incWrap_rng (k lo w : Nat) : (s.incWrap k lo w).rng = s.rng := rfl
@[simp] theorem State.incWrap_mon (k lo w : Nat) : (s.incWrap k lo w).mon = s.mon := rfl
@[simp] theorem State.incWrap_link (k lo w : Nat) : (s.incWrap k lo w).link = s.link := rfl
@[simp] theorem State.incWrap_chcal (k lo w : Nat) : (s.incWrap k lo w).chcal = s.chcal := rfl
@[simp] theorem State.incWrap_mach (k lo w : Nat) : (s.incWrap k lo w).mach = s.mach := rfl
@[simp] theorem State.incWrap_tod (k lo w : Nat) : (s.incWrap k lo w).tod = s.tod := rfl
@[simp] theorem State.incWrap_mains (k lo w : Nat) : (s.incWrap k lo w).mains = s.mains := rfl
@[simp] theorem State.incWrap_alarms (k lo w : Nat) : (s.incWrap k lo w).alarms = s.alarms := rfl
@[simp] theorem State.incWrap_almOld (k lo w : Nat) : (s.incWrap k lo w).almOld = s.almOld := rfl
@[simp] theorem State.incWrap_pan (k lo w : Nat) : (s.incWrap k lo w).pan = s.pan := rfl
@[simp] theorem State.incWrap_poison (k lo w : Nat) : (s.incWrap k lo w).poison = s.poison := rfl
@[simp] theorem State.incWrap_banks (k lo w : Nat) : (s.incWrap k lo w).banks = s.banks := rfl
@[simp] theorem State.incWrap_borrow (k lo w : Nat) : (s.incWrap k lo w).borrow = s.borrow := rfl
@[simp] theorem State.incWrap_chutes (k lo w : Nat) : (s.incWrap k lo w).chutes = s.chutes := rfl
@[simp] theorem State.incWrap_srcs (k lo w : Nat) : (s.incWrap k lo w).srcs = s.srcs := rfl
@[simp] theorem State.incWrap_pendReps (k lo w : Nat) : (s.incWrap k lo w).pendReps = s.pendReps := rfl
@[simp] theorem State.incWrap_hrtQueue (k lo w : Nat) : (s.incWrap k lo w).hrtQueue = s.hrtQueue := rfl
@[simp] theorem State.incWrap_fences (k lo w : Nat) : (s.incWrap k lo w).fences = s.fences := rfl
@[simp] theorem State.incWrap_fencedUnits (k lo w : Nat) : (s.incWrap k lo w).fencedUnits = s.fencedUnits := rfl
@[simp] theorem State.incWrap_safeReqs (k lo w : Nat) : (s.incWrap k lo w).safeReqs = s.safeReqs := rfl
@[simp] theorem State.incWrap_found (k lo w : Nat) : (s.incWrap k lo w).found = s.found := rfl
@[simp] theorem State.incWrap_cfg (k lo w : Nat) : (s.incWrap k lo w).cfg = s.cfg := rfl
@[simp] theorem State.incWrap_fuses (k lo w : Nat) : (s.incWrap k lo w).fuses = s.fuses := rfl
@[simp] theorem State.incWrap_panOps (k lo w : Nat) : (s.incWrap k lo w).panOps = s.panOps := rfl
@[simp] theorem State.incWrap_hwy (k lo w : Nat) : (s.incWrap k lo w).hwy = s.hwy := rfl
@[simp] theorem State.incWrap_hwyTi (k lo w : Nat) : (s.incWrap k lo w).hwyTi = s.hwyTi := rfl
@[simp] theorem State.incWrap_engs (k lo w : Nat) : (s.incWrap k lo w).engs = s.engs := rfl
@[simp] theorem State.incWrap_stdLoads (k lo w : Nat) : (s.incWrap k lo w).stdLoads = s.stdLoads := rfl
@[simp] theorem State.incWrap_net (k lo w : Nat) : (s.incWrap k lo w).net = s.net := rfl
@[simp] theorem State.incWrap_kpr (k lo w : Nat) : (s.incWrap k lo w).kpr = s.kpr := rfl
@[simp] theorem State.incWrap_sdLast (k lo w : Nat) : (s.incWrap k lo w).sdLast = s.sdLast := rfl
@[simp] theorem State.incWrap_sdOut (k lo w : Nat) : (s.incWrap k lo w).sdOut = s.sdOut := rfl
@[simp] theorem State.incWrap_pwr (k lo w : Nat) : (s.incWrap k lo w).pwr = s.pwr := rfl
@[simp] theorem State.incWrap_cal (k lo w : Nat) : (s.incWrap k lo w).cal = s.cal := rfl
@[simp] theorem State.incWrap_otp (k lo w : Nat) : (s.incWrap k lo w).otp = s.otp := rfl
@[simp] theorem State.incWrap_cel (k lo w : Nat) : (s.incWrap k lo w).cel = s.cel := rfl
@[simp] theorem State.incWrap_ctxs (k lo w : Nat) : (s.incWrap k lo w).ctxs = s.ctxs := rfl
@[simp] theorem State.incWrap_netTags (k lo w : Nat) : (s.incWrap k lo w).netTags = s.netTags := rfl

/-! ### launch -/

@[simp] theorem State.launch_pending (p : Nat) : (s.launch p).pending = s.pending := rfl
@[simp] theorem State.launch_htick (p : Nat) : (s.launch p).htick = s.htick := rfl
@[simp] theorem State.launch_freeCtr (p : Nat) : (s.launch p).freeCtr = s.freeCtr := rfl
@[simp] theorem State.launch_regs (p : Nat) : (s.launch p).regs = s.regs := rfl
@[simp] theorem State.launch_active (p : Nat) : (s.launch p).active = s.active := rfl
@[simp] theorem State.launch_tickSet (p : Nat) : (s.launch p).tickSet = s.tickSet := rfl
@[simp] theorem State.launch_tickOld (p : Nat) : (s.launch p).tickOld = s.tickOld := rfl
@[simp] theorem State.launch_tickSwp (p : Nat) : (s.launch p).tickSwp = s.tickSwp := rfl
@[simp] theorem State.launch_tickInc (p : Nat) : (s.launch p).tickInc = s.tickInc := rfl
@[simp] theorem State.launch_holds (p : Nat) : (s.launch p).holds = s.holds := rfl
@[simp] theorem State.launch_replies (p : Nat) : (s.launch p).replies = s.replies := rfl
@[simp] theorem State.launch_launched (p : Nat) : (s.launch p).launched = s.launched ++ [⟨p, s.htick⟩] := rfl
@[simp] theorem State.launch_reports (p : Nat) : (s.launch p).reports = s.reports := rfl
@[simp] theorem State.launch_pins (p : Nat) : (s.launch p).pins = s.pins := rfl
@[simp] theorem State.launch_ctl (p : Nat) : (s.launch p).ctl = s.ctl := rfl
@[simp] theorem State.launch_gpg (p : Nat) : (s.launch p).gpg = s.gpg := rfl
@[simp] theorem State.launch_snaps (p : Nat) : (s.launch p).snaps = s.snaps := rfl
@[simp] theorem State.launch_supplyOut (p : Nat) : (s.launch p).supplyOut = s.supplyOut := rfl
@[simp] theorem State.launch_loop (p : Nat) : (s.launch p).loop = s.loop := rfl
@[simp] theorem State.launch_tiles (p : Nat) : (s.launch p).tiles = s.tiles := rfl
@[simp] theorem State.launch_trk (p : Nat) : (s.launch p).trk = s.trk := rfl
@[simp] theorem State.launch_meas (p : Nat) : (s.launch p).meas = s.meas := rfl
@[simp] theorem State.launch_rng (p : Nat) : (s.launch p).rng = s.rng := rfl
@[simp] theorem State.launch_mon (p : Nat) : (s.launch p).mon = s.mon := rfl
@[simp] theorem State.launch_link (p : Nat) : (s.launch p).link = s.link := rfl
@[simp] theorem State.launch_chcal (p : Nat) : (s.launch p).chcal = s.chcal := rfl
@[simp] theorem State.launch_mach (p : Nat) : (s.launch p).mach = s.mach := rfl
@[simp] theorem State.launch_tod (p : Nat) : (s.launch p).tod = s.tod := rfl
@[simp] theorem State.launch_mains (p : Nat) : (s.launch p).mains = s.mains := rfl
@[simp] theorem State.launch_alarms (p : Nat) : (s.launch p).alarms = s.alarms := rfl
@[simp] theorem State.launch_almOld (p : Nat) : (s.launch p).almOld = s.almOld := rfl
@[simp] theorem State.launch_pan (p : Nat) : (s.launch p).pan = s.pan := rfl
@[simp] theorem State.launch_poison (p : Nat) : (s.launch p).poison = s.poison := rfl
@[simp] theorem State.launch_banks (p : Nat) : (s.launch p).banks = s.banks := rfl
@[simp] theorem State.launch_borrow (p : Nat) : (s.launch p).borrow = s.borrow := rfl
@[simp] theorem State.launch_chutes (p : Nat) : (s.launch p).chutes = s.chutes := rfl
@[simp] theorem State.launch_srcs (p : Nat) : (s.launch p).srcs = s.srcs := rfl
@[simp] theorem State.launch_pendReps (p : Nat) : (s.launch p).pendReps = s.pendReps := rfl
@[simp] theorem State.launch_hrtQueue (p : Nat) : (s.launch p).hrtQueue = s.hrtQueue := rfl
@[simp] theorem State.launch_fences (p : Nat) : (s.launch p).fences = s.fences := rfl
@[simp] theorem State.launch_fencedUnits (p : Nat) : (s.launch p).fencedUnits = s.fencedUnits := rfl
@[simp] theorem State.launch_safeReqs (p : Nat) : (s.launch p).safeReqs = s.safeReqs := rfl
@[simp] theorem State.launch_found (p : Nat) : (s.launch p).found = s.found := rfl
@[simp] theorem State.launch_cfg (p : Nat) : (s.launch p).cfg = s.cfg := rfl
@[simp] theorem State.launch_fuses (p : Nat) : (s.launch p).fuses = s.fuses := rfl
@[simp] theorem State.launch_panOps (p : Nat) : (s.launch p).panOps = s.panOps := rfl
@[simp] theorem State.launch_hwy (p : Nat) : (s.launch p).hwy = s.hwy := rfl
@[simp] theorem State.launch_hwyTi (p : Nat) : (s.launch p).hwyTi = s.hwyTi := rfl
@[simp] theorem State.launch_engs (p : Nat) : (s.launch p).engs = s.engs := rfl
@[simp] theorem State.launch_stdLoads (p : Nat) : (s.launch p).stdLoads = s.stdLoads := rfl
@[simp] theorem State.launch_net (p : Nat) : (s.launch p).net = s.net := rfl
@[simp] theorem State.launch_kpr (p : Nat) : (s.launch p).kpr = s.kpr := rfl
@[simp] theorem State.launch_sdLast (p : Nat) : (s.launch p).sdLast = s.sdLast := rfl
@[simp] theorem State.launch_sdOut (p : Nat) : (s.launch p).sdOut = s.sdOut := rfl
@[simp] theorem State.launch_pwr (p : Nat) : (s.launch p).pwr = s.pwr := rfl
@[simp] theorem State.launch_cal (p : Nat) : (s.launch p).cal = s.cal := rfl
@[simp] theorem State.launch_otp (p : Nat) : (s.launch p).otp = s.otp := rfl
@[simp] theorem State.launch_cel (p : Nat) : (s.launch p).cel = s.cel := rfl
@[simp] theorem State.launch_ctxs (p : Nat) : (s.launch p).ctxs = s.ctxs := rfl
@[simp] theorem State.launch_netTags (p : Nat) : (s.launch p).netTags = s.netTags := rfl

/-! ### report -/

@[simp] theorem State.report_pending (x c : Nat) : (s.report x c).pending = s.pending := rfl
@[simp] theorem State.report_htick (x c : Nat) : (s.report x c).htick = s.htick := rfl
@[simp] theorem State.report_freeCtr (x c : Nat) : (s.report x c).freeCtr = s.freeCtr := rfl
@[simp] theorem State.report_regs (x c : Nat) : (s.report x c).regs = s.regs := rfl
@[simp] theorem State.report_active (x c : Nat) : (s.report x c).active = s.active := rfl
@[simp] theorem State.report_tickSet (x c : Nat) : (s.report x c).tickSet = s.tickSet := rfl
@[simp] theorem State.report_tickOld (x c : Nat) : (s.report x c).tickOld = s.tickOld := rfl
@[simp] theorem State.report_tickSwp (x c : Nat) : (s.report x c).tickSwp = s.tickSwp := rfl
@[simp] theorem State.report_tickInc (x c : Nat) : (s.report x c).tickInc = s.tickInc := rfl
@[simp] theorem State.report_holds (x c : Nat) : (s.report x c).holds = s.holds := rfl
@[simp] theorem State.report_replies (x c : Nat) : (s.report x c).replies = s.replies := rfl
@[simp] theorem State.report_launched (x c : Nat) : (s.report x c).launched = s.launched := rfl
@[simp] theorem State.report_reports (x c : Nat) : (s.report x c).reports = s.reports ++ [⟨x, c, s.htick⟩] := rfl
@[simp] theorem State.report_pins (x c : Nat) : (s.report x c).pins = s.pins := rfl
@[simp] theorem State.report_ctl (x c : Nat) : (s.report x c).ctl = s.ctl := rfl
@[simp] theorem State.report_gpg (x c : Nat) : (s.report x c).gpg = s.gpg := rfl
@[simp] theorem State.report_snaps (x c : Nat) : (s.report x c).snaps = s.snaps := rfl
@[simp] theorem State.report_supplyOut (x c : Nat) : (s.report x c).supplyOut = s.supplyOut := rfl
@[simp] theorem State.report_loop (x c : Nat) : (s.report x c).loop = s.loop := rfl
@[simp] theorem State.report_tiles (x c : Nat) : (s.report x c).tiles = s.tiles := rfl
@[simp] theorem State.report_trk (x c : Nat) : (s.report x c).trk = s.trk := rfl
@[simp] theorem State.report_meas (x c : Nat) : (s.report x c).meas = s.meas := rfl
@[simp] theorem State.report_rng (x c : Nat) : (s.report x c).rng = s.rng := rfl
@[simp] theorem State.report_mon (x c : Nat) : (s.report x c).mon = s.mon := rfl
@[simp] theorem State.report_link (x c : Nat) : (s.report x c).link = s.link := rfl
@[simp] theorem State.report_chcal (x c : Nat) : (s.report x c).chcal = s.chcal := rfl
@[simp] theorem State.report_mach (x c : Nat) : (s.report x c).mach = s.mach := rfl
@[simp] theorem State.report_tod (x c : Nat) : (s.report x c).tod = s.tod := rfl
@[simp] theorem State.report_mains (x c : Nat) : (s.report x c).mains = s.mains := rfl
@[simp] theorem State.report_alarms (x c : Nat) : (s.report x c).alarms = s.alarms := rfl
@[simp] theorem State.report_almOld (x c : Nat) : (s.report x c).almOld = s.almOld := rfl
@[simp] theorem State.report_pan (x c : Nat) : (s.report x c).pan = s.pan := rfl
@[simp] theorem State.report_poison (x c : Nat) : (s.report x c).poison = s.poison := rfl
@[simp] theorem State.report_banks (x c : Nat) : (s.report x c).banks = s.banks := rfl
@[simp] theorem State.report_borrow (x c : Nat) : (s.report x c).borrow = s.borrow := rfl
@[simp] theorem State.report_chutes (x c : Nat) : (s.report x c).chutes = s.chutes := rfl
@[simp] theorem State.report_srcs (x c : Nat) : (s.report x c).srcs = s.srcs := rfl
@[simp] theorem State.report_pendReps (x c : Nat) : (s.report x c).pendReps = s.pendReps := rfl
@[simp] theorem State.report_hrtQueue (x c : Nat) : (s.report x c).hrtQueue = s.hrtQueue := rfl
@[simp] theorem State.report_fences (x c : Nat) : (s.report x c).fences = s.fences := rfl
@[simp] theorem State.report_fencedUnits (x c : Nat) : (s.report x c).fencedUnits = s.fencedUnits := rfl
@[simp] theorem State.report_safeReqs (x c : Nat) : (s.report x c).safeReqs = s.safeReqs := rfl
@[simp] theorem State.report_found (x c : Nat) : (s.report x c).found = s.found := rfl
@[simp] theorem State.report_cfg (x c : Nat) : (s.report x c).cfg = s.cfg := rfl
@[simp] theorem State.report_fuses (x c : Nat) : (s.report x c).fuses = s.fuses := rfl
@[simp] theorem State.report_panOps (x c : Nat) : (s.report x c).panOps = s.panOps := rfl
@[simp] theorem State.report_hwy (x c : Nat) : (s.report x c).hwy = s.hwy := rfl
@[simp] theorem State.report_hwyTi (x c : Nat) : (s.report x c).hwyTi = s.hwyTi := rfl
@[simp] theorem State.report_engs (x c : Nat) : (s.report x c).engs = s.engs := rfl
@[simp] theorem State.report_stdLoads (x c : Nat) : (s.report x c).stdLoads = s.stdLoads := rfl
@[simp] theorem State.report_net (x c : Nat) : (s.report x c).net = s.net := rfl
@[simp] theorem State.report_kpr (x c : Nat) : (s.report x c).kpr = s.kpr := rfl
@[simp] theorem State.report_sdLast (x c : Nat) : (s.report x c).sdLast = s.sdLast := rfl
@[simp] theorem State.report_sdOut (x c : Nat) : (s.report x c).sdOut = s.sdOut := rfl
@[simp] theorem State.report_pwr (x c : Nat) : (s.report x c).pwr = s.pwr := rfl
@[simp] theorem State.report_cal (x c : Nat) : (s.report x c).cal = s.cal := rfl
@[simp] theorem State.report_otp (x c : Nat) : (s.report x c).otp = s.otp := rfl
@[simp] theorem State.report_cel (x c : Nat) : (s.report x c).cel = s.cel := rfl
@[simp] theorem State.report_ctxs (x c : Nat) : (s.report x c).ctxs = s.ctxs := rfl
@[simp] theorem State.report_netTags (x c : Nat) : (s.report x c).netTags = s.netTags := rfl

/-! ### chFlag -/

@[simp] theorem State.chFlag_pending (n c : Nat) : (s.chFlag n c).pending = s.pending := rfl
@[simp] theorem State.chFlag_htick (n c : Nat) : (s.chFlag n c).htick = s.htick := rfl
@[simp] theorem State.chFlag_freeCtr (n c : Nat) : (s.chFlag n c).freeCtr = s.freeCtr := rfl
@[simp] theorem State.chFlag_active (n c : Nat) : (s.chFlag n c).active = s.active := rfl
@[simp] theorem State.chFlag_tickOld (n c : Nat) : (s.chFlag n c).tickOld = s.tickOld := rfl
@[simp] theorem State.chFlag_tickSwp (n c : Nat) : (s.chFlag n c).tickSwp = s.tickSwp := rfl
@[simp] theorem State.chFlag_tickInc (n c : Nat) : (s.chFlag n c).tickInc = s.tickInc := rfl
@[simp] theorem State.chFlag_holds (n c : Nat) : (s.chFlag n c).holds = s.holds := rfl
@[simp] theorem State.chFlag_replies (n c : Nat) : (s.chFlag n c).replies = s.replies := rfl
@[simp] theorem State.chFlag_launched (n c : Nat) : (s.chFlag n c).launched = s.launched := rfl
@[simp] theorem State.chFlag_reports (n c : Nat) : (s.chFlag n c).reports = s.reports := rfl
@[simp] theorem State.chFlag_pins (n c : Nat) : (s.chFlag n c).pins = s.pins := rfl
@[simp] theorem State.chFlag_ctl (n c : Nat) : (s.chFlag n c).ctl = s.ctl := rfl
@[simp] theorem State.chFlag_gpg (n c : Nat) : (s.chFlag n c).gpg = s.gpg := rfl
@[simp] theorem State.chFlag_snaps (n c : Nat) : (s.chFlag n c).snaps = s.snaps := rfl
@[simp] theorem State.chFlag_supplyOut (n c : Nat) : (s.chFlag n c).supplyOut = s.supplyOut := rfl
@[simp] theorem State.chFlag_loop (n c : Nat) : (s.chFlag n c).loop = s.loop := rfl
@[simp] theorem State.chFlag_tiles (n c : Nat) : (s.chFlag n c).tiles = s.tiles := rfl
@[simp] theorem State.chFlag_trk (n c : Nat) : (s.chFlag n c).trk = s.trk := rfl
@[simp] theorem State.chFlag_meas (n c : Nat) : (s.chFlag n c).meas = s.meas := rfl
@[simp] theorem State.chFlag_rng (n c : Nat) : (s.chFlag n c).rng = s.rng := rfl
@[simp] theorem State.chFlag_mon (n c : Nat) : (s.chFlag n c).mon = s.mon := rfl
@[simp] theorem State.chFlag_link (n c : Nat) : (s.chFlag n c).link = s.link := rfl
@[simp] theorem State.chFlag_chcal (n c : Nat) : (s.chFlag n c).chcal = s.chcal := rfl
@[simp] theorem State.chFlag_mach (n c : Nat) : (s.chFlag n c).mach = s.mach := rfl
@[simp] theorem State.chFlag_tod (n c : Nat) : (s.chFlag n c).tod = s.tod := rfl
@[simp] theorem State.chFlag_mains (n c : Nat) : (s.chFlag n c).mains = s.mains := rfl
@[simp] theorem State.chFlag_alarms (n c : Nat) : (s.chFlag n c).alarms = s.alarms := rfl
@[simp] theorem State.chFlag_almOld (n c : Nat) : (s.chFlag n c).almOld = s.almOld := rfl
@[simp] theorem State.chFlag_pan (n c : Nat) : (s.chFlag n c).pan = s.pan := rfl
@[simp] theorem State.chFlag_poison (n c : Nat) : (s.chFlag n c).poison = s.poison := rfl
@[simp] theorem State.chFlag_banks (n c : Nat) : (s.chFlag n c).banks = s.banks := rfl
@[simp] theorem State.chFlag_borrow (n c : Nat) : (s.chFlag n c).borrow = s.borrow := rfl
@[simp] theorem State.chFlag_chutes (n c : Nat) : (s.chFlag n c).chutes = s.chutes := rfl
@[simp] theorem State.chFlag_srcs (n c : Nat) : (s.chFlag n c).srcs = s.srcs := rfl
@[simp] theorem State.chFlag_pendReps (n c : Nat) : (s.chFlag n c).pendReps = s.pendReps := rfl
@[simp] theorem State.chFlag_hrtQueue (n c : Nat) : (s.chFlag n c).hrtQueue = s.hrtQueue := rfl
@[simp] theorem State.chFlag_fences (n c : Nat) : (s.chFlag n c).fences = s.fences := rfl
@[simp] theorem State.chFlag_fencedUnits (n c : Nat) : (s.chFlag n c).fencedUnits = s.fencedUnits := rfl
@[simp] theorem State.chFlag_safeReqs (n c : Nat) : (s.chFlag n c).safeReqs = s.safeReqs := rfl
@[simp] theorem State.chFlag_found (n c : Nat) : (s.chFlag n c).found = s.found := rfl
@[simp] theorem State.chFlag_cfg (n c : Nat) : (s.chFlag n c).cfg = s.cfg := rfl
@[simp] theorem State.chFlag_fuses (n c : Nat) : (s.chFlag n c).fuses = s.fuses := rfl
@[simp] theorem State.chFlag_panOps (n c : Nat) : (s.chFlag n c).panOps = s.panOps := rfl
@[simp] theorem State.chFlag_hwy (n c : Nat) : (s.chFlag n c).hwy = s.hwy := rfl
@[simp] theorem State.chFlag_hwyTi (n c : Nat) : (s.chFlag n c).hwyTi = s.hwyTi := rfl
@[simp] theorem State.chFlag_engs (n c : Nat) : (s.chFlag n c).engs = s.engs := rfl
@[simp] theorem State.chFlag_stdLoads (n c : Nat) : (s.chFlag n c).stdLoads = s.stdLoads := rfl
@[simp] theorem State.chFlag_net (n c : Nat) : (s.chFlag n c).net = s.net := rfl
@[simp] theorem State.chFlag_kpr (n c : Nat) : (s.chFlag n c).kpr = s.kpr := rfl
@[simp] theorem State.chFlag_sdLast (n c : Nat) : (s.chFlag n c).sdLast = s.sdLast := rfl
@[simp] theorem State.chFlag_sdOut (n c : Nat) : (s.chFlag n c).sdOut = s.sdOut := rfl
@[simp] theorem State.chFlag_pwr (n c : Nat) : (s.chFlag n c).pwr = s.pwr := rfl
@[simp] theorem State.chFlag_cal (n c : Nat) : (s.chFlag n c).cal = s.cal := rfl
@[simp] theorem State.chFlag_otp (n c : Nat) : (s.chFlag n c).otp = s.otp := rfl
@[simp] theorem State.chFlag_cel (n c : Nat) : (s.chFlag n c).cel = s.cel := rfl
@[simp] theorem State.chFlag_ctxs (n c : Nat) : (s.chFlag n c).ctxs = s.ctxs := rfl
@[simp] theorem State.chFlag_netTags (n c : Nat) : (s.chFlag n c).netTags = s.netTags := rfl

/-! ### chFault -/

@[simp] theorem State.chFault_pending (n c : Nat) : (s.chFault n c).pending = s.pending := rfl
@[simp] theorem State.chFault_htick (n c : Nat) : (s.chFault n c).htick = s.htick := rfl
@[simp] theorem State.chFault_freeCtr (n c : Nat) : (s.chFault n c).freeCtr = s.freeCtr := rfl
@[simp] theorem State.chFault_active (n c : Nat) : (s.chFault n c).active = s.active := rfl
@[simp] theorem State.chFault_tickOld (n c : Nat) : (s.chFault n c).tickOld = s.tickOld := rfl
@[simp] theorem State.chFault_tickSwp (n c : Nat) : (s.chFault n c).tickSwp = s.tickSwp := rfl
@[simp] theorem State.chFault_tickInc (n c : Nat) : (s.chFault n c).tickInc = s.tickInc := rfl
@[simp] theorem State.chFault_holds (n c : Nat) : (s.chFault n c).holds = s.holds := rfl
@[simp] theorem State.chFault_replies (n c : Nat) : (s.chFault n c).replies = s.replies := rfl
@[simp] theorem State.chFault_launched (n c : Nat) : (s.chFault n c).launched = s.launched := rfl
@[simp] theorem State.chFault_reports (n c : Nat) : (s.chFault n c).reports = s.reports ++ [⟨n, c, s.htick⟩] := rfl
@[simp] theorem State.chFault_pins (n c : Nat) : (s.chFault n c).pins = s.pins := rfl
@[simp] theorem State.chFault_ctl (n c : Nat) : (s.chFault n c).ctl = s.ctl := rfl
@[simp] theorem State.chFault_gpg (n c : Nat) : (s.chFault n c).gpg = s.gpg := rfl
@[simp] theorem State.chFault_snaps (n c : Nat) : (s.chFault n c).snaps = s.snaps := rfl
@[simp] theorem State.chFault_supplyOut (n c : Nat) : (s.chFault n c).supplyOut = s.supplyOut := rfl
@[simp] theorem State.chFault_loop (n c : Nat) : (s.chFault n c).loop = s.loop := rfl
@[simp] theorem State.chFault_tiles (n c : Nat) : (s.chFault n c).tiles = s.tiles := rfl
@[simp] theorem State.chFault_trk (n c : Nat) : (s.chFault n c).trk = s.trk := rfl
@[simp] theorem State.chFault_meas (n c : Nat) : (s.chFault n c).meas = s.meas := rfl
@[simp] theorem State.chFault_rng (n c : Nat) : (s.chFault n c).rng = s.rng := rfl
@[simp] theorem State.chFault_mon (n c : Nat) : (s.chFault n c).mon = s.mon := rfl
@[simp] theorem State.chFault_link (n c : Nat) : (s.chFault n c).link = s.link := rfl
@[simp] theorem State.chFault_chcal (n c : Nat) : (s.chFault n c).chcal = s.chcal := rfl
@[simp] theorem State.chFault_mach (n c : Nat) : (s.chFault n c).mach = s.mach := rfl
@[simp] theorem State.chFault_tod (n c : Nat) : (s.chFault n c).tod = s.tod := rfl
@[simp] theorem State.chFault_mains (n c : Nat) : (s.chFault n c).mains = s.mains := rfl
@[simp] theorem State.chFault_alarms (n c : Nat) : (s.chFault n c).alarms = s.alarms := rfl
@[simp] theorem State.chFault_almOld (n c : Nat) : (s.chFault n c).almOld = s.almOld := rfl
@[simp] theorem State.chFault_pan (n c : Nat) : (s.chFault n c).pan = s.pan := rfl
@[simp] theorem State.chFault_poison (n c : Nat) : (s.chFault n c).poison = s.poison := rfl
@[simp] theorem State.chFault_banks (n c : Nat) : (s.chFault n c).banks = s.banks := rfl
@[simp] theorem State.chFault_borrow (n c : Nat) : (s.chFault n c).borrow = s.borrow := rfl
@[simp] theorem State.chFault_chutes (n c : Nat) : (s.chFault n c).chutes = s.chutes := rfl
@[simp] theorem State.chFault_srcs (n c : Nat) : (s.chFault n c).srcs = s.srcs := rfl
@[simp] theorem State.chFault_pendReps (n c : Nat) : (s.chFault n c).pendReps = s.pendReps := rfl
@[simp] theorem State.chFault_hrtQueue (n c : Nat) : (s.chFault n c).hrtQueue = s.hrtQueue := rfl
@[simp] theorem State.chFault_fences (n c : Nat) : (s.chFault n c).fences = s.fences := rfl
@[simp] theorem State.chFault_fencedUnits (n c : Nat) : (s.chFault n c).fencedUnits = s.fencedUnits := rfl
@[simp] theorem State.chFault_safeReqs (n c : Nat) : (s.chFault n c).safeReqs = s.safeReqs := rfl
@[simp] theorem State.chFault_found (n c : Nat) : (s.chFault n c).found = s.found := rfl
@[simp] theorem State.chFault_cfg (n c : Nat) : (s.chFault n c).cfg = s.cfg := rfl
@[simp] theorem State.chFault_fuses (n c : Nat) : (s.chFault n c).fuses = s.fuses := rfl
@[simp] theorem State.chFault_panOps (n c : Nat) : (s.chFault n c).panOps = s.panOps := rfl
@[simp] theorem State.chFault_hwy (n c : Nat) : (s.chFault n c).hwy = s.hwy := rfl
@[simp] theorem State.chFault_hwyTi (n c : Nat) : (s.chFault n c).hwyTi = s.hwyTi := rfl
@[simp] theorem State.chFault_engs (n c : Nat) : (s.chFault n c).engs = s.engs := rfl
@[simp] theorem State.chFault_stdLoads (n c : Nat) : (s.chFault n c).stdLoads = s.stdLoads := rfl
@[simp] theorem State.chFault_net (n c : Nat) : (s.chFault n c).net = s.net := rfl
@[simp] theorem State.chFault_kpr (n c : Nat) : (s.chFault n c).kpr = s.kpr := rfl
@[simp] theorem State.chFault_sdLast (n c : Nat) : (s.chFault n c).sdLast = s.sdLast := rfl
@[simp] theorem State.chFault_sdOut (n c : Nat) : (s.chFault n c).sdOut = s.sdOut := rfl
@[simp] theorem State.chFault_pwr (n c : Nat) : (s.chFault n c).pwr = s.pwr := rfl
@[simp] theorem State.chFault_cal (n c : Nat) : (s.chFault n c).cal = s.cal := rfl
@[simp] theorem State.chFault_otp (n c : Nat) : (s.chFault n c).otp = s.otp := rfl
@[simp] theorem State.chFault_cel (n c : Nat) : (s.chFault n c).cel = s.cel := rfl
@[simp] theorem State.chFault_ctxs (n c : Nat) : (s.chFault n c).ctxs = s.ctxs := rfl
@[simp] theorem State.chFault_netTags (n c : Nat) : (s.chFault n c).netTags = s.netTags := rfl

/-! ### phsFlag -/

@[simp] theorem State.phsFlag_pending (b : Nat) : (s.phsFlag b).pending = s.pending := rfl
@[simp] theorem State.phsFlag_htick (b : Nat) : (s.phsFlag b).htick = s.htick := rfl
@[simp] theorem State.phsFlag_freeCtr (b : Nat) : (s.phsFlag b).freeCtr = s.freeCtr := rfl
@[simp] theorem State.phsFlag_active (b : Nat) : (s.phsFlag b).active = s.active := rfl
@[simp] theorem State.phsFlag_tickOld (b : Nat) : (s.phsFlag b).tickOld = s.tickOld := rfl
@[simp] theorem State.phsFlag_tickSwp (b : Nat) : (s.phsFlag b).tickSwp = s.tickSwp := rfl
@[simp] theorem State.phsFlag_tickInc (b : Nat) : (s.phsFlag b).tickInc = s.tickInc := rfl
@[simp] theorem State.phsFlag_holds (b : Nat) : (s.phsFlag b).holds = s.holds := rfl
@[simp] theorem State.phsFlag_replies (b : Nat) : (s.phsFlag b).replies = s.replies := rfl
@[simp] theorem State.phsFlag_launched (b : Nat) : (s.phsFlag b).launched = s.launched := rfl
@[simp] theorem State.phsFlag_reports (b : Nat) : (s.phsFlag b).reports = s.reports := rfl
@[simp] theorem State.phsFlag_pins (b : Nat) : (s.phsFlag b).pins = s.pins := rfl
@[simp] theorem State.phsFlag_ctl (b : Nat) : (s.phsFlag b).ctl = s.ctl := rfl
@[simp] theorem State.phsFlag_gpg (b : Nat) : (s.phsFlag b).gpg = s.gpg := rfl
@[simp] theorem State.phsFlag_snaps (b : Nat) : (s.phsFlag b).snaps = s.snaps := rfl
@[simp] theorem State.phsFlag_supplyOut (b : Nat) : (s.phsFlag b).supplyOut = s.supplyOut := rfl
@[simp] theorem State.phsFlag_loop (b : Nat) : (s.phsFlag b).loop = s.loop := rfl
@[simp] theorem State.phsFlag_tiles (b : Nat) : (s.phsFlag b).tiles = s.tiles := rfl
@[simp] theorem State.phsFlag_trk (b : Nat) : (s.phsFlag b).trk = s.trk := rfl
@[simp] theorem State.phsFlag_meas (b : Nat) : (s.phsFlag b).meas = s.meas := rfl
@[simp] theorem State.phsFlag_rng (b : Nat) : (s.phsFlag b).rng = s.rng := rfl
@[simp] theorem State.phsFlag_mon (b : Nat) : (s.phsFlag b).mon = s.mon := rfl
@[simp] theorem State.phsFlag_link (b : Nat) : (s.phsFlag b).link = s.link := rfl
@[simp] theorem State.phsFlag_chcal (b : Nat) : (s.phsFlag b).chcal = s.chcal := rfl
@[simp] theorem State.phsFlag_mach (b : Nat) : (s.phsFlag b).mach = s.mach := rfl
@[simp] theorem State.phsFlag_tod (b : Nat) : (s.phsFlag b).tod = s.tod := rfl
@[simp] theorem State.phsFlag_mains (b : Nat) : (s.phsFlag b).mains = s.mains := rfl
@[simp] theorem State.phsFlag_alarms (b : Nat) : (s.phsFlag b).alarms = s.alarms := rfl
@[simp] theorem State.phsFlag_almOld (b : Nat) : (s.phsFlag b).almOld = s.almOld := rfl
@[simp] theorem State.phsFlag_pan (b : Nat) : (s.phsFlag b).pan = s.pan := rfl
@[simp] theorem State.phsFlag_poison (b : Nat) : (s.phsFlag b).poison = s.poison := rfl
@[simp] theorem State.phsFlag_banks (b : Nat) : (s.phsFlag b).banks = s.banks := rfl
@[simp] theorem State.phsFlag_borrow (b : Nat) : (s.phsFlag b).borrow = s.borrow := rfl
@[simp] theorem State.phsFlag_chutes (b : Nat) : (s.phsFlag b).chutes = s.chutes := rfl
@[simp] theorem State.phsFlag_srcs (b : Nat) : (s.phsFlag b).srcs = s.srcs := rfl
@[simp] theorem State.phsFlag_pendReps (b : Nat) : (s.phsFlag b).pendReps = s.pendReps := rfl
@[simp] theorem State.phsFlag_hrtQueue (b : Nat) : (s.phsFlag b).hrtQueue = s.hrtQueue := rfl
@[simp] theorem State.phsFlag_fences (b : Nat) : (s.phsFlag b).fences = s.fences := rfl
@[simp] theorem State.phsFlag_fencedUnits (b : Nat) : (s.phsFlag b).fencedUnits = s.fencedUnits := rfl
@[simp] theorem State.phsFlag_safeReqs (b : Nat) : (s.phsFlag b).safeReqs = s.safeReqs := rfl
@[simp] theorem State.phsFlag_found (b : Nat) : (s.phsFlag b).found = s.found := rfl
@[simp] theorem State.phsFlag_cfg (b : Nat) : (s.phsFlag b).cfg = s.cfg := rfl
@[simp] theorem State.phsFlag_fuses (b : Nat) : (s.phsFlag b).fuses = s.fuses := rfl
@[simp] theorem State.phsFlag_panOps (b : Nat) : (s.phsFlag b).panOps = s.panOps := rfl
@[simp] theorem State.phsFlag_hwy (b : Nat) : (s.phsFlag b).hwy = s.hwy := rfl
@[simp] theorem State.phsFlag_hwyTi (b : Nat) : (s.phsFlag b).hwyTi = s.hwyTi := rfl
@[simp] theorem State.phsFlag_engs (b : Nat) : (s.phsFlag b).engs = s.engs := rfl
@[simp] theorem State.phsFlag_stdLoads (b : Nat) : (s.phsFlag b).stdLoads = s.stdLoads := rfl
@[simp] theorem State.phsFlag_net (b : Nat) : (s.phsFlag b).net = s.net := rfl
@[simp] theorem State.phsFlag_kpr (b : Nat) : (s.phsFlag b).kpr = s.kpr := rfl
@[simp] theorem State.phsFlag_sdLast (b : Nat) : (s.phsFlag b).sdLast = s.sdLast := rfl
@[simp] theorem State.phsFlag_sdOut (b : Nat) : (s.phsFlag b).sdOut = s.sdOut := rfl
@[simp] theorem State.phsFlag_pwr (b : Nat) : (s.phsFlag b).pwr = s.pwr := rfl
@[simp] theorem State.phsFlag_cal (b : Nat) : (s.phsFlag b).cal = s.cal := rfl
@[simp] theorem State.phsFlag_otp (b : Nat) : (s.phsFlag b).otp = s.otp := rfl
@[simp] theorem State.phsFlag_cel (b : Nat) : (s.phsFlag b).cel = s.cel := rfl
@[simp] theorem State.phsFlag_ctxs (b : Nat) : (s.phsFlag b).ctxs = s.ctxs := rfl
@[simp] theorem State.phsFlag_netTags (b : Nat) : (s.phsFlag b).netTags = s.netTags := rfl

/-! ### phsFault -/

@[simp] theorem State.phsFault_pending (b : Nat) : (s.phsFault b).pending = s.pending := rfl
@[simp] theorem State.phsFault_htick (b : Nat) : (s.phsFault b).htick = s.htick := rfl
@[simp] theorem State.phsFault_freeCtr (b : Nat) : (s.phsFault b).freeCtr = s.freeCtr := rfl
@[simp] theorem State.phsFault_active (b : Nat) : (s.phsFault b).active = s.active := rfl
@[simp] theorem State.phsFault_tickOld (b : Nat) : (s.phsFault b).tickOld = s.tickOld := rfl
@[simp] theorem State.phsFault_tickSwp (b : Nat) : (s.phsFault b).tickSwp = s.tickSwp := rfl
@[simp] theorem State.phsFault_tickInc (b : Nat) : (s.phsFault b).tickInc = s.tickInc := rfl
@[simp] theorem State.phsFault_holds (b : Nat) : (s.phsFault b).holds = s.holds := rfl
@[simp] theorem State.phsFault_replies (b : Nat) : (s.phsFault b).replies = s.replies := rfl
@[simp] theorem State.phsFault_launched (b : Nat) : (s.phsFault b).launched = s.launched := rfl
@[simp] theorem State.phsFault_reports (b : Nat) : (s.phsFault b).reports = s.reports ++ [⟨0x401, b, s.htick⟩] := rfl
@[simp] theorem State.phsFault_pins (b : Nat) : (s.phsFault b).pins = s.pins := rfl
@[simp] theorem State.phsFault_ctl (b : Nat) : (s.phsFault b).ctl = s.ctl := rfl
@[simp] theorem State.phsFault_gpg (b : Nat) : (s.phsFault b).gpg = s.gpg := rfl
@[simp] theorem State.phsFault_snaps (b : Nat) : (s.phsFault b).snaps = s.snaps := rfl
@[simp] theorem State.phsFault_supplyOut (b : Nat) : (s.phsFault b).supplyOut = s.supplyOut := rfl
@[simp] theorem State.phsFault_loop (b : Nat) : (s.phsFault b).loop = s.loop := rfl
@[simp] theorem State.phsFault_tiles (b : Nat) : (s.phsFault b).tiles = s.tiles := rfl
@[simp] theorem State.phsFault_trk (b : Nat) : (s.phsFault b).trk = s.trk := rfl
@[simp] theorem State.phsFault_meas (b : Nat) : (s.phsFault b).meas = s.meas := rfl
@[simp] theorem State.phsFault_rng (b : Nat) : (s.phsFault b).rng = s.rng := rfl
@[simp] theorem State.phsFault_mon (b : Nat) : (s.phsFault b).mon = s.mon := rfl
@[simp] theorem State.phsFault_link (b : Nat) : (s.phsFault b).link = s.link := rfl
@[simp] theorem State.phsFault_chcal (b : Nat) : (s.phsFault b).chcal = s.chcal := rfl
@[simp] theorem State.phsFault_mach (b : Nat) : (s.phsFault b).mach = s.mach := rfl
@[simp] theorem State.phsFault_tod (b : Nat) : (s.phsFault b).tod = s.tod := rfl
@[simp] theorem State.phsFault_mains (b : Nat) : (s.phsFault b).mains = s.mains := rfl
@[simp] theorem State.phsFault_alarms (b : Nat) : (s.phsFault b).alarms = s.alarms := rfl
@[simp] theorem State.phsFault_almOld (b : Nat) : (s.phsFault b).almOld = s.almOld := rfl
@[simp] theorem State.phsFault_pan (b : Nat) : (s.phsFault b).pan = s.pan := rfl
@[simp] theorem State.phsFault_poison (b : Nat) : (s.phsFault b).poison = s.poison := rfl
@[simp] theorem State.phsFault_banks (b : Nat) : (s.phsFault b).banks = s.banks := rfl
@[simp] theorem State.phsFault_borrow (b : Nat) : (s.phsFault b).borrow = s.borrow := rfl
@[simp] theorem State.phsFault_chutes (b : Nat) : (s.phsFault b).chutes = s.chutes := rfl
@[simp] theorem State.phsFault_srcs (b : Nat) : (s.phsFault b).srcs = s.srcs := rfl
@[simp] theorem State.phsFault_pendReps (b : Nat) : (s.phsFault b).pendReps = s.pendReps := rfl
@[simp] theorem State.phsFault_hrtQueue (b : Nat) : (s.phsFault b).hrtQueue = s.hrtQueue := rfl
@[simp] theorem State.phsFault_fences (b : Nat) : (s.phsFault b).fences = s.fences := rfl
@[simp] theorem State.phsFault_fencedUnits (b : Nat) : (s.phsFault b).fencedUnits = s.fencedUnits := rfl
@[simp] theorem State.phsFault_safeReqs (b : Nat) : (s.phsFault b).safeReqs = s.safeReqs := rfl
@[simp] theorem State.phsFault_found (b : Nat) : (s.phsFault b).found = s.found := rfl
@[simp] theorem State.phsFault_cfg (b : Nat) : (s.phsFault b).cfg = s.cfg := rfl
@[simp] theorem State.phsFault_fuses (b : Nat) : (s.phsFault b).fuses = s.fuses := rfl
@[simp] theorem State.phsFault_panOps (b : Nat) : (s.phsFault b).panOps = s.panOps := rfl
@[simp] theorem State.phsFault_hwy (b : Nat) : (s.phsFault b).hwy = s.hwy := rfl
@[simp] theorem State.phsFault_hwyTi (b : Nat) : (s.phsFault b).hwyTi = s.hwyTi := rfl
@[simp] theorem State.phsFault_engs (b : Nat) : (s.phsFault b).engs = s.engs := rfl
@[simp] theorem State.phsFault_stdLoads (b : Nat) : (s.phsFault b).stdLoads = s.stdLoads := rfl
@[simp] theorem State.phsFault_net (b : Nat) : (s.phsFault b).net = s.net := rfl
@[simp] theorem State.phsFault_kpr (b : Nat) : (s.phsFault b).kpr = s.kpr := rfl
@[simp] theorem State.phsFault_sdLast (b : Nat) : (s.phsFault b).sdLast = s.sdLast := rfl
@[simp] theorem State.phsFault_sdOut (b : Nat) : (s.phsFault b).sdOut = s.sdOut := rfl
@[simp] theorem State.phsFault_pwr (b : Nat) : (s.phsFault b).pwr = s.pwr := rfl
@[simp] theorem State.phsFault_cal (b : Nat) : (s.phsFault b).cal = s.cal := rfl
@[simp] theorem State.phsFault_otp (b : Nat) : (s.phsFault b).otp = s.otp := rfl
@[simp] theorem State.phsFault_cel (b : Nat) : (s.phsFault b).cel = s.cel := rfl
@[simp] theorem State.phsFault_ctxs (b : Nat) : (s.phsFault b).ctxs = s.ctxs := rfl
@[simp] theorem State.phsFault_netTags (b : Nat) : (s.phsFault b).netTags = s.netTags := rfl

/-! ### setVact -/

@[simp] theorem State.setVact_pending (n r : Nat) : (s.setVact n r).pending = s.pending := rfl
@[simp] theorem State.setVact_htick (n r : Nat) : (s.setVact n r).htick = s.htick := rfl
@[simp] theorem State.setVact_freeCtr (n r : Nat) : (s.setVact n r).freeCtr = s.freeCtr := rfl
@[simp] theorem State.setVact_active (n r : Nat) : (s.setVact n r).active = s.active := rfl
@[simp] theorem State.setVact_tickSet (n r : Nat) : (s.setVact n r).tickSet = s.tickSet := rfl
@[simp] theorem State.setVact_tickOld (n r : Nat) : (s.setVact n r).tickOld = s.tickOld := rfl
@[simp] theorem State.setVact_tickSwp (n r : Nat) : (s.setVact n r).tickSwp = s.tickSwp := rfl
@[simp] theorem State.setVact_tickInc (n r : Nat) : (s.setVact n r).tickInc = s.tickInc := rfl
@[simp] theorem State.setVact_holds (n r : Nat) : (s.setVact n r).holds = s.holds := rfl
@[simp] theorem State.setVact_replies (n r : Nat) : (s.setVact n r).replies = s.replies := rfl
@[simp] theorem State.setVact_launched (n r : Nat) : (s.setVact n r).launched = s.launched := rfl
@[simp] theorem State.setVact_reports (n r : Nat) : (s.setVact n r).reports = s.reports := rfl
@[simp] theorem State.setVact_pins (n r : Nat) : (s.setVact n r).pins = s.pins := rfl
@[simp] theorem State.setVact_ctl (n r : Nat) : (s.setVact n r).ctl = s.ctl := rfl
@[simp] theorem State.setVact_gpg (n r : Nat) : (s.setVact n r).gpg = s.gpg := rfl
@[simp] theorem State.setVact_snaps (n r : Nat) : (s.setVact n r).snaps = s.snaps := rfl
@[simp] theorem State.setVact_supplyOut (n r : Nat) : (s.setVact n r).supplyOut = s.supplyOut := rfl
@[simp] theorem State.setVact_loop (n r : Nat) : (s.setVact n r).loop = s.loop := rfl
@[simp] theorem State.setVact_tiles (n r : Nat) : (s.setVact n r).tiles = s.tiles := rfl
@[simp] theorem State.setVact_trk (n r : Nat) : (s.setVact n r).trk = s.trk := rfl
@[simp] theorem State.setVact_meas (n r : Nat) : (s.setVact n r).meas = s.meas := rfl
@[simp] theorem State.setVact_rng (n r : Nat) : (s.setVact n r).rng = s.rng := rfl
@[simp] theorem State.setVact_mon (n r : Nat) : (s.setVact n r).mon = s.mon := rfl
@[simp] theorem State.setVact_link (n r : Nat) : (s.setVact n r).link = s.link := rfl
@[simp] theorem State.setVact_chcal (n r : Nat) : (s.setVact n r).chcal = s.chcal := rfl
@[simp] theorem State.setVact_mach (n r : Nat) : (s.setVact n r).mach = s.mach := rfl
@[simp] theorem State.setVact_tod (n r : Nat) : (s.setVact n r).tod = s.tod := rfl
@[simp] theorem State.setVact_mains (n r : Nat) : (s.setVact n r).mains = s.mains := rfl
@[simp] theorem State.setVact_alarms (n r : Nat) : (s.setVact n r).alarms = s.alarms := rfl
@[simp] theorem State.setVact_almOld (n r : Nat) : (s.setVact n r).almOld = s.almOld := rfl
@[simp] theorem State.setVact_pan (n r : Nat) : (s.setVact n r).pan = s.pan := rfl
@[simp] theorem State.setVact_poison (n r : Nat) : (s.setVact n r).poison = s.poison := rfl
@[simp] theorem State.setVact_banks (n r : Nat) : (s.setVact n r).banks = s.banks := rfl
@[simp] theorem State.setVact_borrow (n r : Nat) : (s.setVact n r).borrow = s.borrow := rfl
@[simp] theorem State.setVact_chutes (n r : Nat) : (s.setVact n r).chutes = s.chutes := rfl
@[simp] theorem State.setVact_srcs (n r : Nat) : (s.setVact n r).srcs = s.srcs := rfl
@[simp] theorem State.setVact_pendReps (n r : Nat) : (s.setVact n r).pendReps = s.pendReps := rfl
@[simp] theorem State.setVact_hrtQueue (n r : Nat) : (s.setVact n r).hrtQueue = s.hrtQueue := rfl
@[simp] theorem State.setVact_fences (n r : Nat) : (s.setVact n r).fences = s.fences := rfl
@[simp] theorem State.setVact_fencedUnits (n r : Nat) : (s.setVact n r).fencedUnits = s.fencedUnits := rfl
@[simp] theorem State.setVact_safeReqs (n r : Nat) : (s.setVact n r).safeReqs = s.safeReqs := rfl
@[simp] theorem State.setVact_found (n r : Nat) : (s.setVact n r).found = s.found := rfl
@[simp] theorem State.setVact_cfg (n r : Nat) : (s.setVact n r).cfg = s.cfg := rfl
@[simp] theorem State.setVact_fuses (n r : Nat) : (s.setVact n r).fuses = s.fuses := rfl
@[simp] theorem State.setVact_panOps (n r : Nat) : (s.setVact n r).panOps = s.panOps := rfl
@[simp] theorem State.setVact_hwy (n r : Nat) : (s.setVact n r).hwy = s.hwy := rfl
@[simp] theorem State.setVact_hwyTi (n r : Nat) : (s.setVact n r).hwyTi = s.hwyTi := rfl
@[simp] theorem State.setVact_engs (n r : Nat) : (s.setVact n r).engs = s.engs := rfl
@[simp] theorem State.setVact_stdLoads (n r : Nat) : (s.setVact n r).stdLoads = s.stdLoads := rfl
@[simp] theorem State.setVact_net (n r : Nat) : (s.setVact n r).net = s.net := rfl
@[simp] theorem State.setVact_kpr (n r : Nat) : (s.setVact n r).kpr = s.kpr := rfl
@[simp] theorem State.setVact_sdLast (n r : Nat) : (s.setVact n r).sdLast = s.sdLast := rfl
@[simp] theorem State.setVact_sdOut (n r : Nat) : (s.setVact n r).sdOut = s.sdOut := rfl
@[simp] theorem State.setVact_pwr (n r : Nat) : (s.setVact n r).pwr = s.pwr := rfl
@[simp] theorem State.setVact_cal (n r : Nat) : (s.setVact n r).cal = s.cal := rfl
@[simp] theorem State.setVact_otp (n r : Nat) : (s.setVact n r).otp = s.otp := rfl
@[simp] theorem State.setVact_cel (n r : Nat) : (s.setVact n r).cel = s.cel := rfl
@[simp] theorem State.setVact_ctxs (n r : Nat) : (s.setVact n r).ctxs = s.ctxs := rfl
@[simp] theorem State.setVact_netTags (n r : Nat) : (s.setVact n r).netTags = s.netTags := rfl

/-! ### setIact -/

@[simp] theorem State.setIact_pending (n r : Nat) : (s.setIact n r).pending = s.pending := rfl
@[simp] theorem State.setIact_htick (n r : Nat) : (s.setIact n r).htick = s.htick := rfl
@[simp] theorem State.setIact_freeCtr (n r : Nat) : (s.setIact n r).freeCtr = s.freeCtr := rfl
@[simp] theorem State.setIact_active (n r : Nat) : (s.setIact n r).active = s.active := rfl
@[simp] theorem State.setIact_tickSet (n r : Nat) : (s.setIact n r).tickSet = s.tickSet := rfl
@[simp] theorem State.setIact_tickOld (n r : Nat) : (s.setIact n r).tickOld = s.tickOld := rfl
@[simp] theorem State.setIact_tickSwp (n r : Nat) : (s.setIact n r).tickSwp = s.tickSwp := rfl
@[simp] theorem State.setIact_tickInc (n r : Nat) : (s.setIact n r).tickInc = s.tickInc := rfl
@[simp] theorem State.setIact_holds (n r : Nat) : (s.setIact n r).holds = s.holds := rfl
@[simp] theorem State.setIact_replies (n r : Nat) : (s.setIact n r).replies = s.replies := rfl
@[simp] theorem State.setIact_launched (n r : Nat) : (s.setIact n r).launched = s.launched := rfl
@[simp] theorem State.setIact_reports (n r : Nat) : (s.setIact n r).reports = s.reports := rfl
@[simp] theorem State.setIact_pins (n r : Nat) : (s.setIact n r).pins = s.pins := rfl
@[simp] theorem State.setIact_ctl (n r : Nat) : (s.setIact n r).ctl = s.ctl := rfl
@[simp] theorem State.setIact_gpg (n r : Nat) : (s.setIact n r).gpg = s.gpg := rfl
@[simp] theorem State.setIact_snaps (n r : Nat) : (s.setIact n r).snaps = s.snaps := rfl
@[simp] theorem State.setIact_supplyOut (n r : Nat) : (s.setIact n r).supplyOut = s.supplyOut := rfl
@[simp] theorem State.setIact_loop (n r : Nat) : (s.setIact n r).loop = s.loop := rfl
@[simp] theorem State.setIact_tiles (n r : Nat) : (s.setIact n r).tiles = s.tiles := rfl
@[simp] theorem State.setIact_trk (n r : Nat) : (s.setIact n r).trk = s.trk := rfl
@[simp] theorem State.setIact_meas (n r : Nat) : (s.setIact n r).meas = s.meas := rfl
@[simp] theorem State.setIact_rng (n r : Nat) : (s.setIact n r).rng = s.rng := rfl
@[simp] theorem State.setIact_mon (n r : Nat) : (s.setIact n r).mon = s.mon := rfl
@[simp] theorem State.setIact_link (n r : Nat) : (s.setIact n r).link = s.link := rfl
@[simp] theorem State.setIact_chcal (n r : Nat) : (s.setIact n r).chcal = s.chcal := rfl
@[simp] theorem State.setIact_mach (n r : Nat) : (s.setIact n r).mach = s.mach := rfl
@[simp] theorem State.setIact_tod (n r : Nat) : (s.setIact n r).tod = s.tod := rfl
@[simp] theorem State.setIact_mains (n r : Nat) : (s.setIact n r).mains = s.mains := rfl
@[simp] theorem State.setIact_alarms (n r : Nat) : (s.setIact n r).alarms = s.alarms := rfl
@[simp] theorem State.setIact_almOld (n r : Nat) : (s.setIact n r).almOld = s.almOld := rfl
@[simp] theorem State.setIact_pan (n r : Nat) : (s.setIact n r).pan = s.pan := rfl
@[simp] theorem State.setIact_poison (n r : Nat) : (s.setIact n r).poison = s.poison := rfl
@[simp] theorem State.setIact_banks (n r : Nat) : (s.setIact n r).banks = s.banks := rfl
@[simp] theorem State.setIact_borrow (n r : Nat) : (s.setIact n r).borrow = s.borrow := rfl
@[simp] theorem State.setIact_chutes (n r : Nat) : (s.setIact n r).chutes = s.chutes := rfl
@[simp] theorem State.setIact_srcs (n r : Nat) : (s.setIact n r).srcs = s.srcs := rfl
@[simp] theorem State.setIact_pendReps (n r : Nat) : (s.setIact n r).pendReps = s.pendReps := rfl
@[simp] theorem State.setIact_hrtQueue (n r : Nat) : (s.setIact n r).hrtQueue = s.hrtQueue := rfl
@[simp] theorem State.setIact_fences (n r : Nat) : (s.setIact n r).fences = s.fences := rfl
@[simp] theorem State.setIact_fencedUnits (n r : Nat) : (s.setIact n r).fencedUnits = s.fencedUnits := rfl
@[simp] theorem State.setIact_safeReqs (n r : Nat) : (s.setIact n r).safeReqs = s.safeReqs := rfl
@[simp] theorem State.setIact_found (n r : Nat) : (s.setIact n r).found = s.found := rfl
@[simp] theorem State.setIact_cfg (n r : Nat) : (s.setIact n r).cfg = s.cfg := rfl
@[simp] theorem State.setIact_fuses (n r : Nat) : (s.setIact n r).fuses = s.fuses := rfl
@[simp] theorem State.setIact_panOps (n r : Nat) : (s.setIact n r).panOps = s.panOps := rfl
@[simp] theorem State.setIact_hwy (n r : Nat) : (s.setIact n r).hwy = s.hwy := rfl
@[simp] theorem State.setIact_hwyTi (n r : Nat) : (s.setIact n r).hwyTi = s.hwyTi := rfl
@[simp] theorem State.setIact_engs (n r : Nat) : (s.setIact n r).engs = s.engs := rfl
@[simp] theorem State.setIact_stdLoads (n r : Nat) : (s.setIact n r).stdLoads = s.stdLoads := rfl
@[simp] theorem State.setIact_net (n r : Nat) : (s.setIact n r).net = s.net := rfl
@[simp] theorem State.setIact_kpr (n r : Nat) : (s.setIact n r).kpr = s.kpr := rfl
@[simp] theorem State.setIact_sdLast (n r : Nat) : (s.setIact n r).sdLast = s.sdLast := rfl
@[simp] theorem State.setIact_sdOut (n r : Nat) : (s.setIact n r).sdOut = s.sdOut := rfl
@[simp] theorem State.setIact_pwr (n r : Nat) : (s.setIact n r).pwr = s.pwr := rfl
@[simp] theorem State.setIact_cal (n r : Nat) : (s.setIact n r).cal = s.cal := rfl
@[simp] theorem State.setIact_otp (n r : Nat) : (s.setIact n r).otp = s.otp := rfl
@[simp] theorem State.setIact_cel (n r : Nat) : (s.setIact n r).cel = s.cel := rfl
@[simp] theorem State.setIact_ctxs (n r : Nat) : (s.setIact n r).ctxs = s.ctxs := rfl
@[simp] theorem State.setIact_netTags (n r : Nat) : (s.setIact n r).netTags = s.netTags := rfl

/-! ### setCh -/

@[simp] theorem State.setCh_pending (n : Nat) (x : ChCtl) : (s.setCh n x).pending = s.pending := rfl
@[simp] theorem State.setCh_htick (n : Nat) (x : ChCtl) : (s.setCh n x).htick = s.htick := rfl
@[simp] theorem State.setCh_freeCtr (n : Nat) (x : ChCtl) : (s.setCh n x).freeCtr = s.freeCtr := rfl
@[simp] theorem State.setCh_regs (n : Nat) (x : ChCtl) : (s.setCh n x).regs = s.regs := rfl
@[simp] theorem State.setCh_active (n : Nat) (x : ChCtl) : (s.setCh n x).active = s.active := rfl
@[simp] theorem State.setCh_tickSet (n : Nat) (x : ChCtl) : (s.setCh n x).tickSet = s.tickSet := rfl
@[simp] theorem State.setCh_tickOld (n : Nat) (x : ChCtl) : (s.setCh n x).tickOld = s.tickOld := rfl
@[simp] theorem State.setCh_tickSwp (n : Nat) (x : ChCtl) : (s.setCh n x).tickSwp = s.tickSwp := rfl
@[simp] theorem State.setCh_tickInc (n : Nat) (x : ChCtl) : (s.setCh n x).tickInc = s.tickInc := rfl
@[simp] theorem State.setCh_holds (n : Nat) (x : ChCtl) : (s.setCh n x).holds = s.holds := rfl
@[simp] theorem State.setCh_replies (n : Nat) (x : ChCtl) : (s.setCh n x).replies = s.replies := rfl
@[simp] theorem State.setCh_launched (n : Nat) (x : ChCtl) : (s.setCh n x).launched = s.launched := rfl
@[simp] theorem State.setCh_reports (n : Nat) (x : ChCtl) : (s.setCh n x).reports = s.reports := rfl
@[simp] theorem State.setCh_pins (n : Nat) (x : ChCtl) : (s.setCh n x).pins = s.pins := rfl
@[simp] theorem State.setCh_ctl (n : Nat) (x : ChCtl) : (s.setCh n x).ctl = Tbl.put s.ctl n x := rfl
@[simp] theorem State.setCh_gpg (n : Nat) (x : ChCtl) : (s.setCh n x).gpg = s.gpg := rfl
@[simp] theorem State.setCh_snaps (n : Nat) (x : ChCtl) : (s.setCh n x).snaps = s.snaps := rfl
@[simp] theorem State.setCh_supplyOut (n : Nat) (x : ChCtl) : (s.setCh n x).supplyOut = s.supplyOut := rfl
@[simp] theorem State.setCh_loop (n : Nat) (x : ChCtl) : (s.setCh n x).loop = s.loop := rfl
@[simp] theorem State.setCh_tiles (n : Nat) (x : ChCtl) : (s.setCh n x).tiles = s.tiles := rfl
@[simp] theorem State.setCh_trk (n : Nat) (x : ChCtl) : (s.setCh n x).trk = s.trk := rfl
@[simp] theorem State.setCh_meas (n : Nat) (x : ChCtl) : (s.setCh n x).meas = s.meas := rfl
@[simp] theorem State.setCh_rng (n : Nat) (x : ChCtl) : (s.setCh n x).rng = s.rng := rfl
@[simp] theorem State.setCh_mon (n : Nat) (x : ChCtl) : (s.setCh n x).mon = s.mon := rfl
@[simp] theorem State.setCh_link (n : Nat) (x : ChCtl) : (s.setCh n x).link = s.link := rfl
@[simp] theorem State.setCh_chcal (n : Nat) (x : ChCtl) : (s.setCh n x).chcal = s.chcal := rfl
@[simp] theorem State.setCh_mach (n : Nat) (x : ChCtl) : (s.setCh n x).mach = s.mach := rfl
@[simp] theorem State.setCh_tod (n : Nat) (x : ChCtl) : (s.setCh n x).tod = s.tod := rfl
@[simp] theorem State.setCh_mains (n : Nat) (x : ChCtl) : (s.setCh n x).mains = s.mains := rfl
@[simp] theorem State.setCh_alarms (n : Nat) (x : ChCtl) : (s.setCh n x).alarms = s.alarms := rfl
@[simp] theorem State.setCh_almOld (n : Nat) (x : ChCtl) : (s.setCh n x).almOld = s.almOld := rfl
@[simp] theorem State.setCh_pan (n : Nat) (x : ChCtl) : (s.setCh n x).pan = s.pan := rfl
@[simp] theorem State.setCh_poison (n : Nat) (x : ChCtl) : (s.setCh n x).poison = s.poison := rfl
@[simp] theorem State.setCh_banks (n : Nat) (x : ChCtl) : (s.setCh n x).banks = s.banks := rfl
@[simp] theorem State.setCh_borrow (n : Nat) (x : ChCtl) : (s.setCh n x).borrow = s.borrow := rfl
@[simp] theorem State.setCh_chutes (n : Nat) (x : ChCtl) : (s.setCh n x).chutes = s.chutes := rfl
@[simp] theorem State.setCh_srcs (n : Nat) (x : ChCtl) : (s.setCh n x).srcs = s.srcs := rfl
@[simp] theorem State.setCh_pendReps (n : Nat) (x : ChCtl) : (s.setCh n x).pendReps = s.pendReps := rfl
@[simp] theorem State.setCh_hrtQueue (n : Nat) (x : ChCtl) : (s.setCh n x).hrtQueue = s.hrtQueue := rfl
@[simp] theorem State.setCh_fences (n : Nat) (x : ChCtl) : (s.setCh n x).fences = s.fences := rfl
@[simp] theorem State.setCh_fencedUnits (n : Nat) (x : ChCtl) : (s.setCh n x).fencedUnits = s.fencedUnits := rfl
@[simp] theorem State.setCh_safeReqs (n : Nat) (x : ChCtl) : (s.setCh n x).safeReqs = s.safeReqs := rfl
@[simp] theorem State.setCh_found (n : Nat) (x : ChCtl) : (s.setCh n x).found = s.found := rfl
@[simp] theorem State.setCh_cfg (n : Nat) (x : ChCtl) : (s.setCh n x).cfg = s.cfg := rfl
@[simp] theorem State.setCh_fuses (n : Nat) (x : ChCtl) : (s.setCh n x).fuses = s.fuses := rfl
@[simp] theorem State.setCh_panOps (n : Nat) (x : ChCtl) : (s.setCh n x).panOps = s.panOps := rfl
@[simp] theorem State.setCh_hwy (n : Nat) (x : ChCtl) : (s.setCh n x).hwy = s.hwy := rfl
@[simp] theorem State.setCh_hwyTi (n : Nat) (x : ChCtl) : (s.setCh n x).hwyTi = s.hwyTi := rfl
@[simp] theorem State.setCh_engs (n : Nat) (x : ChCtl) : (s.setCh n x).engs = s.engs := rfl
@[simp] theorem State.setCh_stdLoads (n : Nat) (x : ChCtl) : (s.setCh n x).stdLoads = s.stdLoads := rfl
@[simp] theorem State.setCh_net (n : Nat) (x : ChCtl) : (s.setCh n x).net = s.net := rfl
@[simp] theorem State.setCh_kpr (n : Nat) (x : ChCtl) : (s.setCh n x).kpr = s.kpr := rfl
@[simp] theorem State.setCh_sdLast (n : Nat) (x : ChCtl) : (s.setCh n x).sdLast = s.sdLast := rfl
@[simp] theorem State.setCh_sdOut (n : Nat) (x : ChCtl) : (s.setCh n x).sdOut = s.sdOut := rfl
@[simp] theorem State.setCh_pwr (n : Nat) (x : ChCtl) : (s.setCh n x).pwr = s.pwr := rfl
@[simp] theorem State.setCh_cal (n : Nat) (x : ChCtl) : (s.setCh n x).cal = s.cal := rfl
@[simp] theorem State.setCh_otp (n : Nat) (x : ChCtl) : (s.setCh n x).otp = s.otp := rfl
@[simp] theorem State.setCh_cel (n : Nat) (x : ChCtl) : (s.setCh n x).cel = s.cel := rfl
@[simp] theorem State.setCh_ctxs (n : Nat) (x : ChCtl) : (s.setCh n x).ctxs = s.ctxs := rfl
@[simp] theorem State.setCh_netTags (n : Nat) (x : ChCtl) : (s.setCh n x).netTags = s.netTags := rfl

/-! ### setGp -/

@[simp] theorem State.setGp_pending (n : Nat) (x : Gpg) : (s.setGp n x).pending = s.pending := rfl
@[simp] theorem State.setGp_htick (n : Nat) (x : Gpg) : (s.setGp n x).htick = s.htick := rfl
@[simp] theorem State.setGp_freeCtr (n : Nat) (x : Gpg) : (s.setGp n x).freeCtr = s.freeCtr := rfl
@[simp] theorem State.setGp_regs (n : Nat) (x : Gpg) : (s.setGp n x).regs = s.regs := rfl
@[simp] theorem State.setGp_active (n : Nat) (x : Gpg) : (s.setGp n x).active = s.active := rfl
@[simp] theorem State.setGp_tickSet (n : Nat) (x : Gpg) : (s.setGp n x).tickSet = s.tickSet := rfl
@[simp] theorem State.setGp_tickOld (n : Nat) (x : Gpg) : (s.setGp n x).tickOld = s.tickOld := rfl
@[simp] theorem State.setGp_tickSwp (n : Nat) (x : Gpg) : (s.setGp n x).tickSwp = s.tickSwp := rfl
@[simp] theorem State.setGp_tickInc (n : Nat) (x : Gpg) : (s.setGp n x).tickInc = s.tickInc := rfl
@[simp] theorem State.setGp_holds (n : Nat) (x : Gpg) : (s.setGp n x).holds = s.holds := rfl
@[simp] theorem State.setGp_replies (n : Nat) (x : Gpg) : (s.setGp n x).replies = s.replies := rfl
@[simp] theorem State.setGp_launched (n : Nat) (x : Gpg) : (s.setGp n x).launched = s.launched := rfl
@[simp] theorem State.setGp_reports (n : Nat) (x : Gpg) : (s.setGp n x).reports = s.reports := rfl
@[simp] theorem State.setGp_pins (n : Nat) (x : Gpg) : (s.setGp n x).pins = s.pins := rfl
@[simp] theorem State.setGp_ctl (n : Nat) (x : Gpg) : (s.setGp n x).ctl = s.ctl := rfl
@[simp] theorem State.setGp_gpg (n : Nat) (x : Gpg) : (s.setGp n x).gpg = Tbl.put s.gpg n x := rfl
@[simp] theorem State.setGp_snaps (n : Nat) (x : Gpg) : (s.setGp n x).snaps = s.snaps := rfl
@[simp] theorem State.setGp_supplyOut (n : Nat) (x : Gpg) : (s.setGp n x).supplyOut = s.supplyOut := rfl
@[simp] theorem State.setGp_loop (n : Nat) (x : Gpg) : (s.setGp n x).loop = s.loop := rfl
@[simp] theorem State.setGp_tiles (n : Nat) (x : Gpg) : (s.setGp n x).tiles = s.tiles := rfl
@[simp] theorem State.setGp_trk (n : Nat) (x : Gpg) : (s.setGp n x).trk = s.trk := rfl
@[simp] theorem State.setGp_meas (n : Nat) (x : Gpg) : (s.setGp n x).meas = s.meas := rfl
@[simp] theorem State.setGp_rng (n : Nat) (x : Gpg) : (s.setGp n x).rng = s.rng := rfl
@[simp] theorem State.setGp_mon (n : Nat) (x : Gpg) : (s.setGp n x).mon = s.mon := rfl
@[simp] theorem State.setGp_link (n : Nat) (x : Gpg) : (s.setGp n x).link = s.link := rfl
@[simp] theorem State.setGp_chcal (n : Nat) (x : Gpg) : (s.setGp n x).chcal = s.chcal := rfl
@[simp] theorem State.setGp_mach (n : Nat) (x : Gpg) : (s.setGp n x).mach = s.mach := rfl
@[simp] theorem State.setGp_tod (n : Nat) (x : Gpg) : (s.setGp n x).tod = s.tod := rfl
@[simp] theorem State.setGp_mains (n : Nat) (x : Gpg) : (s.setGp n x).mains = s.mains := rfl
@[simp] theorem State.setGp_alarms (n : Nat) (x : Gpg) : (s.setGp n x).alarms = s.alarms := rfl
@[simp] theorem State.setGp_almOld (n : Nat) (x : Gpg) : (s.setGp n x).almOld = s.almOld := rfl
@[simp] theorem State.setGp_pan (n : Nat) (x : Gpg) : (s.setGp n x).pan = s.pan := rfl
@[simp] theorem State.setGp_poison (n : Nat) (x : Gpg) : (s.setGp n x).poison = s.poison := rfl
@[simp] theorem State.setGp_banks (n : Nat) (x : Gpg) : (s.setGp n x).banks = s.banks := rfl
@[simp] theorem State.setGp_borrow (n : Nat) (x : Gpg) : (s.setGp n x).borrow = s.borrow := rfl
@[simp] theorem State.setGp_chutes (n : Nat) (x : Gpg) : (s.setGp n x).chutes = s.chutes := rfl
@[simp] theorem State.setGp_srcs (n : Nat) (x : Gpg) : (s.setGp n x).srcs = s.srcs := rfl
@[simp] theorem State.setGp_pendReps (n : Nat) (x : Gpg) : (s.setGp n x).pendReps = s.pendReps := rfl
@[simp] theorem State.setGp_hrtQueue (n : Nat) (x : Gpg) : (s.setGp n x).hrtQueue = s.hrtQueue := rfl
@[simp] theorem State.setGp_fences (n : Nat) (x : Gpg) : (s.setGp n x).fences = s.fences := rfl
@[simp] theorem State.setGp_fencedUnits (n : Nat) (x : Gpg) : (s.setGp n x).fencedUnits = s.fencedUnits := rfl
@[simp] theorem State.setGp_safeReqs (n : Nat) (x : Gpg) : (s.setGp n x).safeReqs = s.safeReqs := rfl
@[simp] theorem State.setGp_found (n : Nat) (x : Gpg) : (s.setGp n x).found = s.found := rfl
@[simp] theorem State.setGp_cfg (n : Nat) (x : Gpg) : (s.setGp n x).cfg = s.cfg := rfl
@[simp] theorem State.setGp_fuses (n : Nat) (x : Gpg) : (s.setGp n x).fuses = s.fuses := rfl
@[simp] theorem State.setGp_panOps (n : Nat) (x : Gpg) : (s.setGp n x).panOps = s.panOps := rfl
@[simp] theorem State.setGp_hwy (n : Nat) (x : Gpg) : (s.setGp n x).hwy = s.hwy := rfl
@[simp] theorem State.setGp_hwyTi (n : Nat) (x : Gpg) : (s.setGp n x).hwyTi = s.hwyTi := rfl
@[simp] theorem State.setGp_engs (n : Nat) (x : Gpg) : (s.setGp n x).engs = s.engs := rfl
@[simp] theorem State.setGp_stdLoads (n : Nat) (x : Gpg) : (s.setGp n x).stdLoads = s.stdLoads := rfl
@[simp] theorem State.setGp_net (n : Nat) (x : Gpg) : (s.setGp n x).net = s.net := rfl
@[simp] theorem State.setGp_kpr (n : Nat) (x : Gpg) : (s.setGp n x).kpr = s.kpr := rfl
@[simp] theorem State.setGp_sdLast (n : Nat) (x : Gpg) : (s.setGp n x).sdLast = s.sdLast := rfl
@[simp] theorem State.setGp_sdOut (n : Nat) (x : Gpg) : (s.setGp n x).sdOut = s.sdOut := rfl
@[simp] theorem State.setGp_pwr (n : Nat) (x : Gpg) : (s.setGp n x).pwr = s.pwr := rfl
@[simp] theorem State.setGp_cal (n : Nat) (x : Gpg) : (s.setGp n x).cal = s.cal := rfl
@[simp] theorem State.setGp_otp (n : Nat) (x : Gpg) : (s.setGp n x).otp = s.otp := rfl
@[simp] theorem State.setGp_cel (n : Nat) (x : Gpg) : (s.setGp n x).cel = s.cel := rfl
@[simp] theorem State.setGp_ctxs (n : Nat) (x : Gpg) : (s.setGp n x).ctxs = s.ctxs := rfl
@[simp] theorem State.setGp_netTags (n : Nat) (x : Gpg) : (s.setGp n x).netTags = s.netTags := rfl

/-! ### setLp -/

@[simp] theorem State.setLp_pending (n : Nat) (x : ChLoop) : (s.setLp n x).pending = s.pending := rfl
@[simp] theorem State.setLp_htick (n : Nat) (x : ChLoop) : (s.setLp n x).htick = s.htick := rfl
@[simp] theorem State.setLp_freeCtr (n : Nat) (x : ChLoop) : (s.setLp n x).freeCtr = s.freeCtr := rfl
@[simp] theorem State.setLp_regs (n : Nat) (x : ChLoop) : (s.setLp n x).regs = s.regs := rfl
@[simp] theorem State.setLp_active (n : Nat) (x : ChLoop) : (s.setLp n x).active = s.active := rfl
@[simp] theorem State.setLp_tickSet (n : Nat) (x : ChLoop) : (s.setLp n x).tickSet = s.tickSet := rfl
@[simp] theorem State.setLp_tickOld (n : Nat) (x : ChLoop) : (s.setLp n x).tickOld = s.tickOld := rfl
@[simp] theorem State.setLp_tickSwp (n : Nat) (x : ChLoop) : (s.setLp n x).tickSwp = s.tickSwp := rfl
@[simp] theorem State.setLp_tickInc (n : Nat) (x : ChLoop) : (s.setLp n x).tickInc = s.tickInc := rfl
@[simp] theorem State.setLp_holds (n : Nat) (x : ChLoop) : (s.setLp n x).holds = s.holds := rfl
@[simp] theorem State.setLp_replies (n : Nat) (x : ChLoop) : (s.setLp n x).replies = s.replies := rfl
@[simp] theorem State.setLp_launched (n : Nat) (x : ChLoop) : (s.setLp n x).launched = s.launched := rfl
@[simp] theorem State.setLp_reports (n : Nat) (x : ChLoop) : (s.setLp n x).reports = s.reports := rfl
@[simp] theorem State.setLp_pins (n : Nat) (x : ChLoop) : (s.setLp n x).pins = s.pins := rfl
@[simp] theorem State.setLp_ctl (n : Nat) (x : ChLoop) : (s.setLp n x).ctl = s.ctl := rfl
@[simp] theorem State.setLp_gpg (n : Nat) (x : ChLoop) : (s.setLp n x).gpg = s.gpg := rfl
@[simp] theorem State.setLp_snaps (n : Nat) (x : ChLoop) : (s.setLp n x).snaps = s.snaps := rfl
@[simp] theorem State.setLp_supplyOut (n : Nat) (x : ChLoop) : (s.setLp n x).supplyOut = s.supplyOut := rfl
@[simp] theorem State.setLp_loop (n : Nat) (x : ChLoop) : (s.setLp n x).loop = Tbl.put s.loop n x := rfl
@[simp] theorem State.setLp_tiles (n : Nat) (x : ChLoop) : (s.setLp n x).tiles = s.tiles := rfl
@[simp] theorem State.setLp_trk (n : Nat) (x : ChLoop) : (s.setLp n x).trk = s.trk := rfl
@[simp] theorem State.setLp_meas (n : Nat) (x : ChLoop) : (s.setLp n x).meas = s.meas := rfl
@[simp] theorem State.setLp_rng (n : Nat) (x : ChLoop) : (s.setLp n x).rng = s.rng := rfl
@[simp] theorem State.setLp_mon (n : Nat) (x : ChLoop) : (s.setLp n x).mon = s.mon := rfl
@[simp] theorem State.setLp_link (n : Nat) (x : ChLoop) : (s.setLp n x).link = s.link := rfl
@[simp] theorem State.setLp_chcal (n : Nat) (x : ChLoop) : (s.setLp n x).chcal = s.chcal := rfl
@[simp] theorem State.setLp_mach (n : Nat) (x : ChLoop) : (s.setLp n x).mach = s.mach := rfl
@[simp] theorem State.setLp_tod (n : Nat) (x : ChLoop) : (s.setLp n x).tod = s.tod := rfl
@[simp] theorem State.setLp_mains (n : Nat) (x : ChLoop) : (s.setLp n x).mains = s.mains := rfl
@[simp] theorem State.setLp_alarms (n : Nat) (x : ChLoop) : (s.setLp n x).alarms = s.alarms := rfl
@[simp] theorem State.setLp_almOld (n : Nat) (x : ChLoop) : (s.setLp n x).almOld = s.almOld := rfl
@[simp] theorem State.setLp_pan (n : Nat) (x : ChLoop) : (s.setLp n x).pan = s.pan := rfl
@[simp] theorem State.setLp_poison (n : Nat) (x : ChLoop) : (s.setLp n x).poison = s.poison := rfl
@[simp] theorem State.setLp_banks (n : Nat) (x : ChLoop) : (s.setLp n x).banks = s.banks := rfl
@[simp] theorem State.setLp_borrow (n : Nat) (x : ChLoop) : (s.setLp n x).borrow = s.borrow := rfl
@[simp] theorem State.setLp_chutes (n : Nat) (x : ChLoop) : (s.setLp n x).chutes = s.chutes := rfl
@[simp] theorem State.setLp_srcs (n : Nat) (x : ChLoop) : (s.setLp n x).srcs = s.srcs := rfl
@[simp] theorem State.setLp_pendReps (n : Nat) (x : ChLoop) : (s.setLp n x).pendReps = s.pendReps := rfl
@[simp] theorem State.setLp_hrtQueue (n : Nat) (x : ChLoop) : (s.setLp n x).hrtQueue = s.hrtQueue := rfl
@[simp] theorem State.setLp_fences (n : Nat) (x : ChLoop) : (s.setLp n x).fences = s.fences := rfl
@[simp] theorem State.setLp_fencedUnits (n : Nat) (x : ChLoop) : (s.setLp n x).fencedUnits = s.fencedUnits := rfl
@[simp] theorem State.setLp_safeReqs (n : Nat) (x : ChLoop) : (s.setLp n x).safeReqs = s.safeReqs := rfl
@[simp] theorem State.setLp_found (n : Nat) (x : ChLoop) : (s.setLp n x).found = s.found := rfl
@[simp] theorem State.setLp_cfg (n : Nat) (x : ChLoop) : (s.setLp n x).cfg = s.cfg := rfl
@[simp] theorem State.setLp_fuses (n : Nat) (x : ChLoop) : (s.setLp n x).fuses = s.fuses := rfl
@[simp] theorem State.setLp_panOps (n : Nat) (x : ChLoop) : (s.setLp n x).panOps = s.panOps := rfl
@[simp] theorem State.setLp_hwy (n : Nat) (x : ChLoop) : (s.setLp n x).hwy = s.hwy := rfl
@[simp] theorem State.setLp_hwyTi (n : Nat) (x : ChLoop) : (s.setLp n x).hwyTi = s.hwyTi := rfl
@[simp] theorem State.setLp_engs (n : Nat) (x : ChLoop) : (s.setLp n x).engs = s.engs := rfl
@[simp] theorem State.setLp_stdLoads (n : Nat) (x : ChLoop) : (s.setLp n x).stdLoads = s.stdLoads := rfl
@[simp] theorem State.setLp_net (n : Nat) (x : ChLoop) : (s.setLp n x).net = s.net := rfl
@[simp] theorem State.setLp_kpr (n : Nat) (x : ChLoop) : (s.setLp n x).kpr = s.kpr := rfl
@[simp] theorem State.setLp_sdLast (n : Nat) (x : ChLoop) : (s.setLp n x).sdLast = s.sdLast := rfl
@[simp] theorem State.setLp_sdOut (n : Nat) (x : ChLoop) : (s.setLp n x).sdOut = s.sdOut := rfl
@[simp] theorem State.setLp_pwr (n : Nat) (x : ChLoop) : (s.setLp n x).pwr = s.pwr := rfl
@[simp] theorem State.setLp_cal (n : Nat) (x : ChLoop) : (s.setLp n x).cal = s.cal := rfl
@[simp] theorem State.setLp_otp (n : Nat) (x : ChLoop) : (s.setLp n x).otp = s.otp := rfl
@[simp] theorem State.setLp_cel (n : Nat) (x : ChLoop) : (s.setLp n x).cel = s.cel := rfl
@[simp] theorem State.setLp_ctxs (n : Nat) (x : ChLoop) : (s.setLp n x).ctxs = s.ctxs := rfl
@[simp] theorem State.setLp_netTags (n : Nat) (x : ChLoop) : (s.setLp n x).netTags = s.netTags := rfl

/-! ### setTile -/

@[simp] theorem State.setTile_pending (n : Nat) (x : Tile) : (s.setTile n x).pending = s.pending := rfl
@[simp] theorem State.setTile_htick (n : Nat) (x : Tile) : (s.setTile n x).htick = s.htick := rfl
@[simp] theorem State.setTile_freeCtr (n : Nat) (x : Tile) : (s.setTile n x).freeCtr = s.freeCtr := rfl
@[simp] theorem State.setTile_regs (n : Nat) (x : Tile) : (s.setTile n x).regs = s.regs := rfl
@[simp] theorem State.setTile_active (n : Nat) (x : Tile) : (s.setTile n x).active = s.active := rfl
@[simp] theorem State.setTile_tickSet (n : Nat) (x : Tile) : (s.setTile n x).tickSet = s.tickSet := rfl
@[simp] theorem State.setTile_tickOld (n : Nat) (x : Tile) : (s.setTile n x).tickOld = s.tickOld := rfl
@[simp] theorem State.setTile_tickSwp (n : Nat) (x : Tile) : (s.setTile n x).tickSwp = s.tickSwp := rfl
@[simp] theorem State.setTile_tickInc (n : Nat) (x : Tile) : (s.setTile n x).tickInc = s.tickInc := rfl
@[simp] theorem State.setTile_holds (n : Nat) (x : Tile) : (s.setTile n x).holds = s.holds := rfl
@[simp] theorem State.setTile_replies (n : Nat) (x : Tile) : (s.setTile n x).replies = s.replies := rfl
@[simp] theorem State.setTile_launched (n : Nat) (x : Tile) : (s.setTile n x).launched = s.launched := rfl
@[simp] theorem State.setTile_reports (n : Nat) (x : Tile) : (s.setTile n x).reports = s.reports := rfl
@[simp] theorem State.setTile_pins (n : Nat) (x : Tile) : (s.setTile n x).pins = s.pins := rfl
@[simp] theorem State.setTile_ctl (n : Nat) (x : Tile) : (s.setTile n x).ctl = s.ctl := rfl
@[simp] theorem State.setTile_gpg (n : Nat) (x : Tile) : (s.setTile n x).gpg = s.gpg := rfl
@[simp] theorem State.setTile_snaps (n : Nat) (x : Tile) : (s.setTile n x).snaps = s.snaps := rfl
@[simp] theorem State.setTile_supplyOut (n : Nat) (x : Tile) : (s.setTile n x).supplyOut = s.supplyOut := rfl
@[simp] theorem State.setTile_loop (n : Nat) (x : Tile) : (s.setTile n x).loop = s.loop := rfl
@[simp] theorem State.setTile_tiles (n : Nat) (x : Tile) : (s.setTile n x).tiles = Tbl.put s.tiles n x := rfl
@[simp] theorem State.setTile_trk (n : Nat) (x : Tile) : (s.setTile n x).trk = s.trk := rfl
@[simp] theorem State.setTile_meas (n : Nat) (x : Tile) : (s.setTile n x).meas = s.meas := rfl
@[simp] theorem State.setTile_rng (n : Nat) (x : Tile) : (s.setTile n x).rng = s.rng := rfl
@[simp] theorem State.setTile_mon (n : Nat) (x : Tile) : (s.setTile n x).mon = s.mon := rfl
@[simp] theorem State.setTile_link (n : Nat) (x : Tile) : (s.setTile n x).link = s.link := rfl
@[simp] theorem State.setTile_chcal (n : Nat) (x : Tile) : (s.setTile n x).chcal = s.chcal := rfl
@[simp] theorem State.setTile_mach (n : Nat) (x : Tile) : (s.setTile n x).mach = s.mach := rfl
@[simp] theorem State.setTile_tod (n : Nat) (x : Tile) : (s.setTile n x).tod = s.tod := rfl
@[simp] theorem State.setTile_mains (n : Nat) (x : Tile) : (s.setTile n x).mains = s.mains := rfl
@[simp] theorem State.setTile_alarms (n : Nat) (x : Tile) : (s.setTile n x).alarms = s.alarms := rfl
@[simp] theorem State.setTile_almOld (n : Nat) (x : Tile) : (s.setTile n x).almOld = s.almOld := rfl
@[simp] theorem State.setTile_pan (n : Nat) (x : Tile) : (s.setTile n x).pan = s.pan := rfl
@[simp] theorem State.setTile_poison (n : Nat) (x : Tile) : (s.setTile n x).poison = s.poison := rfl
@[simp] theorem State.setTile_banks (n : Nat) (x : Tile) : (s.setTile n x).banks = s.banks := rfl
@[simp] theorem State.setTile_borrow (n : Nat) (x : Tile) : (s.setTile n x).borrow = s.borrow := rfl
@[simp] theorem State.setTile_chutes (n : Nat) (x : Tile) : (s.setTile n x).chutes = s.chutes := rfl
@[simp] theorem State.setTile_srcs (n : Nat) (x : Tile) : (s.setTile n x).srcs = s.srcs := rfl
@[simp] theorem State.setTile_pendReps (n : Nat) (x : Tile) : (s.setTile n x).pendReps = s.pendReps := rfl
@[simp] theorem State.setTile_hrtQueue (n : Nat) (x : Tile) : (s.setTile n x).hrtQueue = s.hrtQueue := rfl
@[simp] theorem State.setTile_fences (n : Nat) (x : Tile) : (s.setTile n x).fences = s.fences := rfl
@[simp] theorem State.setTile_fencedUnits (n : Nat) (x : Tile) : (s.setTile n x).fencedUnits = s.fencedUnits := rfl
@[simp] theorem State.setTile_safeReqs (n : Nat) (x : Tile) : (s.setTile n x).safeReqs = s.safeReqs := rfl
@[simp] theorem State.setTile_found (n : Nat) (x : Tile) : (s.setTile n x).found = s.found := rfl
@[simp] theorem State.setTile_cfg (n : Nat) (x : Tile) : (s.setTile n x).cfg = s.cfg := rfl
@[simp] theorem State.setTile_fuses (n : Nat) (x : Tile) : (s.setTile n x).fuses = s.fuses := rfl
@[simp] theorem State.setTile_panOps (n : Nat) (x : Tile) : (s.setTile n x).panOps = s.panOps := rfl
@[simp] theorem State.setTile_hwy (n : Nat) (x : Tile) : (s.setTile n x).hwy = s.hwy := rfl
@[simp] theorem State.setTile_hwyTi (n : Nat) (x : Tile) : (s.setTile n x).hwyTi = s.hwyTi := rfl
@[simp] theorem State.setTile_engs (n : Nat) (x : Tile) : (s.setTile n x).engs = s.engs := rfl
@[simp] theorem State.setTile_stdLoads (n : Nat) (x : Tile) : (s.setTile n x).stdLoads = s.stdLoads := rfl
@[simp] theorem State.setTile_net (n : Nat) (x : Tile) : (s.setTile n x).net = s.net := rfl
@[simp] theorem State.setTile_kpr (n : Nat) (x : Tile) : (s.setTile n x).kpr = s.kpr := rfl
@[simp] theorem State.setTile_sdLast (n : Nat) (x : Tile) : (s.setTile n x).sdLast = s.sdLast := rfl
@[simp] theorem State.setTile_sdOut (n : Nat) (x : Tile) : (s.setTile n x).sdOut = s.sdOut := rfl
@[simp] theorem State.setTile_pwr (n : Nat) (x : Tile) : (s.setTile n x).pwr = s.pwr := rfl
@[simp] theorem State.setTile_cal (n : Nat) (x : Tile) : (s.setTile n x).cal = s.cal := rfl
@[simp] theorem State.setTile_otp (n : Nat) (x : Tile) : (s.setTile n x).otp = s.otp := rfl
@[simp] theorem State.setTile_cel (n : Nat) (x : Tile) : (s.setTile n x).cel = s.cel := rfl
@[simp] theorem State.setTile_ctxs (n : Nat) (x : Tile) : (s.setTile n x).ctxs = s.ctxs := rfl
@[simp] theorem State.setTile_netTags (n : Nat) (x : Tile) : (s.setTile n x).netTags = s.netTags := rfl

/-! ### setTrk -/

@[simp] theorem State.setTrk_pending (n : Nat) (x : Trk) : (s.setTrk n x).pending = s.pending := rfl
@[simp] theorem State.setTrk_htick (n : Nat) (x : Trk) : (s.setTrk n x).htick = s.htick := rfl
@[simp] theorem State.setTrk_freeCtr (n : Nat) (x : Trk) : (s.setTrk n x).freeCtr = s.freeCtr := rfl
@[simp] theorem State.setTrk_regs (n : Nat) (x : Trk) : (s.setTrk n x).regs = s.regs := rfl
@[simp] theorem State.setTrk_active (n : Nat) (x : Trk) : (s.setTrk n x).active = s.active := rfl
@[simp] theorem State.setTrk_tickSet (n : Nat) (x : Trk) : (s.setTrk n x).tickSet = s.tickSet := rfl
@[simp] theorem State.setTrk_tickOld (n : Nat) (x : Trk) : (s.setTrk n x).tickOld = s.tickOld := rfl
@[simp] theorem State.setTrk_tickSwp (n : Nat) (x : Trk) : (s.setTrk n x).tickSwp = s.tickSwp := rfl
@[simp] theorem State.setTrk_tickInc (n : Nat) (x : Trk) : (s.setTrk n x).tickInc = s.tickInc := rfl
@[simp] theorem State.setTrk_holds (n : Nat) (x : Trk) : (s.setTrk n x).holds = s.holds := rfl
@[simp] theorem State.setTrk_replies (n : Nat) (x : Trk) : (s.setTrk n x).replies = s.replies := rfl
@[simp] theorem State.setTrk_launched (n : Nat) (x : Trk) : (s.setTrk n x).launched = s.launched := rfl
@[simp] theorem State.setTrk_reports (n : Nat) (x : Trk) : (s.setTrk n x).reports = s.reports := rfl
@[simp] theorem State.setTrk_pins (n : Nat) (x : Trk) : (s.setTrk n x).pins = s.pins := rfl
@[simp] theorem State.setTrk_ctl (n : Nat) (x : Trk) : (s.setTrk n x).ctl = s.ctl := rfl
@[simp] theorem State.setTrk_gpg (n : Nat) (x : Trk) : (s.setTrk n x).gpg = s.gpg := rfl
@[simp] theorem State.setTrk_snaps (n : Nat) (x : Trk) : (s.setTrk n x).snaps = s.snaps := rfl
@[simp] theorem State.setTrk_supplyOut (n : Nat) (x : Trk) : (s.setTrk n x).supplyOut = s.supplyOut := rfl
@[simp] theorem State.setTrk_loop (n : Nat) (x : Trk) : (s.setTrk n x).loop = s.loop := rfl
@[simp] theorem State.setTrk_tiles (n : Nat) (x : Trk) : (s.setTrk n x).tiles = s.tiles := rfl
@[simp] theorem State.setTrk_trk (n : Nat) (x : Trk) : (s.setTrk n x).trk = Tbl.put s.trk n x := rfl
@[simp] theorem State.setTrk_meas (n : Nat) (x : Trk) : (s.setTrk n x).meas = s.meas := rfl
@[simp] theorem State.setTrk_rng (n : Nat) (x : Trk) : (s.setTrk n x).rng = s.rng := rfl
@[simp] theorem State.setTrk_mon (n : Nat) (x : Trk) : (s.setTrk n x).mon = s.mon := rfl
@[simp] theorem State.setTrk_link (n : Nat) (x : Trk) : (s.setTrk n x).link = s.link := rfl
@[simp] theorem State.setTrk_chcal (n : Nat) (x : Trk) : (s.setTrk n x).chcal = s.chcal := rfl
@[simp] theorem State.setTrk_mach (n : Nat) (x : Trk) : (s.setTrk n x).mach = s.mach := rfl
@[simp] theorem State.setTrk_tod (n : Nat) (x : Trk) : (s.setTrk n x).tod = s.tod := rfl
@[simp] theorem State.setTrk_mains (n : Nat) (x : Trk) : (s.setTrk n x).mains = s.mains := rfl
@[simp] theorem State.setTrk_alarms (n : Nat) (x : Trk) : (s.setTrk n x).alarms = s.alarms := rfl
@[simp] theorem State.setTrk_almOld (n : Nat) (x : Trk) : (s.setTrk n x).almOld = s.almOld := rfl
@[simp] theorem State.setTrk_pan (n : Nat) (x : Trk) : (s.setTrk n x).pan = s.pan := rfl
@[simp] theorem State.setTrk_poison (n : Nat) (x : Trk) : (s.setTrk n x).poison = s.poison := rfl
@[simp] theorem State.setTrk_banks (n : Nat) (x : Trk) : (s.setTrk n x).banks = s.banks := rfl
@[simp] theorem State.setTrk_borrow (n : Nat) (x : Trk) : (s.setTrk n x).borrow = s.borrow := rfl
@[simp] theorem State.setTrk_chutes (n : Nat) (x : Trk) : (s.setTrk n x).chutes = s.chutes := rfl
@[simp] theorem State.setTrk_srcs (n : Nat) (x : Trk) : (s.setTrk n x).srcs = s.srcs := rfl
@[simp] theorem State.setTrk_pendReps (n : Nat) (x : Trk) : (s.setTrk n x).pendReps = s.pendReps := rfl
@[simp] theorem State.setTrk_hrtQueue (n : Nat) (x : Trk) : (s.setTrk n x).hrtQueue = s.hrtQueue := rfl
@[simp] theorem State.setTrk_fences (n : Nat) (x : Trk) : (s.setTrk n x).fences = s.fences := rfl
@[simp] theorem State.setTrk_fencedUnits (n : Nat) (x : Trk) : (s.setTrk n x).fencedUnits = s.fencedUnits := rfl
@[simp] theorem State.setTrk_safeReqs (n : Nat) (x : Trk) : (s.setTrk n x).safeReqs = s.safeReqs := rfl
@[simp] theorem State.setTrk_found (n : Nat) (x : Trk) : (s.setTrk n x).found = s.found := rfl
@[simp] theorem State.setTrk_cfg (n : Nat) (x : Trk) : (s.setTrk n x).cfg = s.cfg := rfl
@[simp] theorem State.setTrk_fuses (n : Nat) (x : Trk) : (s.setTrk n x).fuses = s.fuses := rfl
@[simp] theorem State.setTrk_panOps (n : Nat) (x : Trk) : (s.setTrk n x).panOps = s.panOps := rfl
@[simp] theorem State.setTrk_hwy (n : Nat) (x : Trk) : (s.setTrk n x).hwy = s.hwy := rfl
@[simp] theorem State.setTrk_hwyTi (n : Nat) (x : Trk) : (s.setTrk n x).hwyTi = s.hwyTi := rfl
@[simp] theorem State.setTrk_engs (n : Nat) (x : Trk) : (s.setTrk n x).engs = s.engs := rfl
@[simp] theorem State.setTrk_stdLoads (n : Nat) (x : Trk) : (s.setTrk n x).stdLoads = s.stdLoads := rfl
@[simp] theorem State.setTrk_net (n : Nat) (x : Trk) : (s.setTrk n x).net = s.net := rfl
@[simp] theorem State.setTrk_kpr (n : Nat) (x : Trk) : (s.setTrk n x).kpr = s.kpr := rfl
@[simp] theorem State.setTrk_sdLast (n : Nat) (x : Trk) : (s.setTrk n x).sdLast = s.sdLast := rfl
@[simp] theorem State.setTrk_sdOut (n : Nat) (x : Trk) : (s.setTrk n x).sdOut = s.sdOut := rfl
@[simp] theorem State.setTrk_pwr (n : Nat) (x : Trk) : (s.setTrk n x).pwr = s.pwr := rfl
@[simp] theorem State.setTrk_cal (n : Nat) (x : Trk) : (s.setTrk n x).cal = s.cal := rfl
@[simp] theorem State.setTrk_otp (n : Nat) (x : Trk) : (s.setTrk n x).otp = s.otp := rfl
@[simp] theorem State.setTrk_cel (n : Nat) (x : Trk) : (s.setTrk n x).cel = s.cel := rfl
@[simp] theorem State.setTrk_ctxs (n : Nat) (x : Trk) : (s.setTrk n x).ctxs = s.ctxs := rfl
@[simp] theorem State.setTrk_netTags (n : Nat) (x : Trk) : (s.setTrk n x).netTags = s.netTags := rfl

/-! ### setMs -/

@[simp] theorem State.setMs_pending (n : Nat) (x : Meas) : (s.setMs n x).pending = s.pending := rfl
@[simp] theorem State.setMs_htick (n : Nat) (x : Meas) : (s.setMs n x).htick = s.htick := rfl
@[simp] theorem State.setMs_freeCtr (n : Nat) (x : Meas) : (s.setMs n x).freeCtr = s.freeCtr := rfl
@[simp] theorem State.setMs_regs (n : Nat) (x : Meas) : (s.setMs n x).regs = s.regs := rfl
@[simp] theorem State.setMs_active (n : Nat) (x : Meas) : (s.setMs n x).active = s.active := rfl
@[simp] theorem State.setMs_tickSet (n : Nat) (x : Meas) : (s.setMs n x).tickSet = s.tickSet := rfl
@[simp] theorem State.setMs_tickOld (n : Nat) (x : Meas) : (s.setMs n x).tickOld = s.tickOld := rfl
@[simp] theorem State.setMs_tickSwp (n : Nat) (x : Meas) : (s.setMs n x).tickSwp = s.tickSwp := rfl
@[simp] theorem State.setMs_tickInc (n : Nat) (x : Meas) : (s.setMs n x).tickInc = s.tickInc := rfl
@[simp] theorem State.setMs_holds (n : Nat) (x : Meas) : (s.setMs n x).holds = s.holds := rfl
@[simp] theorem State.setMs_replies (n : Nat) (x : Meas) : (s.setMs n x).replies = s.replies := rfl
@[simp] theorem State.setMs_launched (n : Nat) (x : Meas) : (s.setMs n x).launched = s.launched := rfl
@[simp] theorem State.setMs_reports (n : Nat) (x : Meas) : (s.setMs n x).reports = s.reports := rfl
@[simp] theorem State.setMs_pins (n : Nat) (x : Meas) : (s.setMs n x).pins = s.pins := rfl
@[simp] theorem State.setMs_ctl (n : Nat) (x : Meas) : (s.setMs n x).ctl = s.ctl := rfl
@[simp] theorem State.setMs_gpg (n : Nat) (x : Meas) : (s.setMs n x).gpg = s.gpg := rfl
@[simp] theorem State.setMs_snaps (n : Nat) (x : Meas) : (s.setMs n x).snaps = s.snaps := rfl
@[simp] theorem State.setMs_supplyOut (n : Nat) (x : Meas) : (s.setMs n x).supplyOut = s.supplyOut := rfl
@[simp] theorem State.setMs_loop (n : Nat) (x : Meas) : (s.setMs n x).loop = s.loop := rfl
@[simp] theorem State.setMs_tiles (n : Nat) (x : Meas) : (s.setMs n x).tiles = s.tiles := rfl
@[simp] theorem State.setMs_trk (n : Nat) (x : Meas) : (s.setMs n x).trk = s.trk := rfl
@[simp] theorem State.setMs_meas (n : Nat) (x : Meas) : (s.setMs n x).meas = Tbl.put s.meas n x := rfl
@[simp] theorem State.setMs_rng (n : Nat) (x : Meas) : (s.setMs n x).rng = s.rng := rfl
@[simp] theorem State.setMs_mon (n : Nat) (x : Meas) : (s.setMs n x).mon = s.mon := rfl
@[simp] theorem State.setMs_link (n : Nat) (x : Meas) : (s.setMs n x).link = s.link := rfl
@[simp] theorem State.setMs_chcal (n : Nat) (x : Meas) : (s.setMs n x).chcal = s.chcal := rfl
@[simp] theorem State.setMs_mach (n : Nat) (x : Meas) : (s.setMs n x).mach = s.mach := rfl
@[simp] theorem State.setMs_tod (n : Nat) (x : Meas) : (s.setMs n x).tod = s.tod := rfl
@[simp] theorem State.setMs_mains (n : Nat) (x : Meas) : (s.setMs n x).mains = s.mains := rfl
@[simp] theorem State.setMs_alarms (n : Nat) (x : Meas) : (s.setMs n x).alarms = s.alarms := rfl
@[simp] theorem State.setMs_almOld (n : Nat) (x : Meas) : (s.setMs n x).almOld = s.almOld := rfl
@[simp] theorem State.setMs_pan (n : Nat) (x : Meas) : (s.setMs n x).pan = s.pan := rfl
@[simp] theorem State.setMs_poison (n : Nat) (x : Meas) : (s.setMs n x).poison = s.poison := rfl
@[simp] theorem State.setMs_banks (n : Nat) (x : Meas) : (s.setMs n x).banks = s.banks := rfl
@[simp] theorem State.setMs_borrow (n : Nat) (x : Meas) : (s.setMs n x).borrow = s.borrow := rfl
@[simp] theorem State.setMs_chutes (n : Nat) (x : Meas) : (s.setMs n x).chutes = s.chutes := rfl
@[simp] theorem State.setMs_srcs (n : Nat) (x : Meas) : (s.setMs n x).srcs = s.srcs := rfl
@[simp] theorem State.setMs_pendReps (n : Nat) (x : Meas) : (s.setMs n x).pendReps = s.pendReps := rfl
@[simp] theorem State.setMs_hrtQueue (n : Nat) (x : Meas) : (s.setMs n x).hrtQueue = s.hrtQueue := rfl
@[simp] theorem State.setMs_fences (n : Nat) (x : Meas) : (s.setMs n x).fences = s.fences := rfl
@[simp] theorem State.setMs_fencedUnits (n : Nat) (x : Meas) : (s.setMs n x).fencedUnits = s.fencedUnits := rfl
@[simp] theorem State.setMs_safeReqs (n : Nat) (x : Meas) : (s.setMs n x).safeReqs = s.safeReqs := rfl
@[simp] theorem State.setMs_found (n : Nat) (x : Meas) : (s.setMs n x).found = s.found := rfl
@[simp] theorem State.setMs_cfg (n : Nat) (x : Meas) : (s.setMs n x).cfg = s.cfg := rfl
@[simp] theorem State.setMs_fuses (n : Nat) (x : Meas) : (s.setMs n x).fuses = s.fuses := rfl
@[simp] theorem State.setMs_panOps (n : Nat) (x : Meas) : (s.setMs n x).panOps = s.panOps := rfl
@[simp] theorem State.setMs_hwy (n : Nat) (x : Meas) : (s.setMs n x).hwy = s.hwy := rfl
@[simp] theorem State.setMs_hwyTi (n : Nat) (x : Meas) : (s.setMs n x).hwyTi = s.hwyTi := rfl
@[simp] theorem State.setMs_engs (n : Nat) (x : Meas) : (s.setMs n x).engs = s.engs := rfl
@[simp] theorem State.setMs_stdLoads (n : Nat) (x : Meas) : (s.setMs n x).stdLoads = s.stdLoads := rfl
@[simp] theorem State.setMs_net (n : Nat) (x : Meas) : (s.setMs n x).net = s.net := rfl
@[simp] theorem State.setMs_kpr (n : Nat) (x : Meas) : (s.setMs n x).kpr = s.kpr := rfl
@[simp] theorem State.setMs_sdLast (n : Nat) (x : Meas) : (s.setMs n x).sdLast = s.sdLast := rfl
@[simp] theorem State.setMs_sdOut (n : Nat) (x : Meas) : (s.setMs n x).sdOut = s.sdOut := rfl
@[simp] theorem State.setMs_pwr (n : Nat) (x : Meas) : (s.setMs n x).pwr = s.pwr := rfl
@[simp] theorem State.setMs_cal (n : Nat) (x : Meas) : (s.setMs n x).cal = s.cal := rfl
@[simp] theorem State.setMs_otp (n : Nat) (x : Meas) : (s.setMs n x).otp = s.otp := rfl
@[simp] theorem State.setMs_cel (n : Nat) (x : Meas) : (s.setMs n x).cel = s.cel := rfl
@[simp] theorem State.setMs_ctxs (n : Nat) (x : Meas) : (s.setMs n x).ctxs = s.ctxs := rfl
@[simp] theorem State.setMs_netTags (n : Nat) (x : Meas) : (s.setMs n x).netTags = s.netTags := rfl

/-! ### setRg -/

@[simp] theorem State.setRg_pending (n : Nat) (x : Rng) : (s.setRg n x).pending = s.pending := rfl
@[simp] theorem State.setRg_htick (n : Nat) (x : Rng) : (s.setRg n x).htick = s.htick := rfl
@[simp] theorem State.setRg_freeCtr (n : Nat) (x : Rng) : (s.setRg n x).freeCtr = s.freeCtr := rfl
@[simp] theorem State.setRg_regs (n : Nat) (x : Rng) : (s.setRg n x).regs = s.regs := rfl
@[simp] theorem State.setRg_active (n : Nat) (x : Rng) : (s.setRg n x).active = s.active := rfl
@[simp] theorem State.setRg_tickSet (n : Nat) (x : Rng) : (s.setRg n x).tickSet = s.tickSet := rfl
@[simp] theorem State.setRg_tickOld (n : Nat) (x : Rng) : (s.setRg n x).tickOld = s.tickOld := rfl
@[simp] theorem State.setRg_tickSwp (n : Nat) (x : Rng) : (s.setRg n x).tickSwp = s.tickSwp := rfl
@[simp] theorem State.setRg_tickInc (n : Nat) (x : Rng) : (s.setRg n x).tickInc = s.tickInc := rfl
@[simp] theorem State.setRg_holds (n : Nat) (x : Rng) : (s.setRg n x).holds = s.holds := rfl
@[simp] theorem State.setRg_replies (n : Nat) (x : Rng) : (s.setRg n x).replies = s.replies := rfl
@[simp] theorem State.setRg_launched (n : Nat) (x : Rng) : (s.setRg n x).launched = s.launched := rfl
@[simp] theorem State.setRg_reports (n : Nat) (x : Rng) : (s.setRg n x).reports = s.reports := rfl
@[simp] theorem State.setRg_pins (n : Nat) (x : Rng) : (s.setRg n x).pins = s.pins := rfl
@[simp] theorem State.setRg_ctl (n : Nat) (x : Rng) : (s.setRg n x).ctl = s.ctl := rfl
@[simp] theorem State.setRg_gpg (n : Nat) (x : Rng) : (s.setRg n x).gpg = s.gpg := rfl
@[simp] theorem State.setRg_snaps (n : Nat) (x : Rng) : (s.setRg n x).snaps = s.snaps := rfl
@[simp] theorem State.setRg_supplyOut (n : Nat) (x : Rng) : (s.setRg n x).supplyOut = s.supplyOut := rfl
@[simp] theorem State.setRg_loop (n : Nat) (x : Rng) : (s.setRg n x).loop = s.loop := rfl
@[simp] theorem State.setRg_tiles (n : Nat) (x : Rng) : (s.setRg n x).tiles = s.tiles := rfl
@[simp] theorem State.setRg_trk (n : Nat) (x : Rng) : (s.setRg n x).trk = s.trk := rfl
@[simp] theorem State.setRg_meas (n : Nat) (x : Rng) : (s.setRg n x).meas = s.meas := rfl
@[simp] theorem State.setRg_rng (n : Nat) (x : Rng) : (s.setRg n x).rng = Tbl.put s.rng n x := rfl
@[simp] theorem State.setRg_mon (n : Nat) (x : Rng) : (s.setRg n x).mon = s.mon := rfl
@[simp] theorem State.setRg_link (n : Nat) (x : Rng) : (s.setRg n x).link = s.link := rfl
@[simp] theorem State.setRg_chcal (n : Nat) (x : Rng) : (s.setRg n x).chcal = s.chcal := rfl
@[simp] theorem State.setRg_mach (n : Nat) (x : Rng) : (s.setRg n x).mach = s.mach := rfl
@[simp] theorem State.setRg_tod (n : Nat) (x : Rng) : (s.setRg n x).tod = s.tod := rfl
@[simp] theorem State.setRg_mains (n : Nat) (x : Rng) : (s.setRg n x).mains = s.mains := rfl
@[simp] theorem State.setRg_alarms (n : Nat) (x : Rng) : (s.setRg n x).alarms = s.alarms := rfl
@[simp] theorem State.setRg_almOld (n : Nat) (x : Rng) : (s.setRg n x).almOld = s.almOld := rfl
@[simp] theorem State.setRg_pan (n : Nat) (x : Rng) : (s.setRg n x).pan = s.pan := rfl
@[simp] theorem State.setRg_poison (n : Nat) (x : Rng) : (s.setRg n x).poison = s.poison := rfl
@[simp] theorem State.setRg_banks (n : Nat) (x : Rng) : (s.setRg n x).banks = s.banks := rfl
@[simp] theorem State.setRg_borrow (n : Nat) (x : Rng) : (s.setRg n x).borrow = s.borrow := rfl
@[simp] theorem State.setRg_chutes (n : Nat) (x : Rng) : (s.setRg n x).chutes = s.chutes := rfl
@[simp] theorem State.setRg_srcs (n : Nat) (x : Rng) : (s.setRg n x).srcs = s.srcs := rfl
@[simp] theorem State.setRg_pendReps (n : Nat) (x : Rng) : (s.setRg n x).pendReps = s.pendReps := rfl
@[simp] theorem State.setRg_hrtQueue (n : Nat) (x : Rng) : (s.setRg n x).hrtQueue = s.hrtQueue := rfl
@[simp] theorem State.setRg_fences (n : Nat) (x : Rng) : (s.setRg n x).fences = s.fences := rfl
@[simp] theorem State.setRg_fencedUnits (n : Nat) (x : Rng) : (s.setRg n x).fencedUnits = s.fencedUnits := rfl
@[simp] theorem State.setRg_safeReqs (n : Nat) (x : Rng) : (s.setRg n x).safeReqs = s.safeReqs := rfl
@[simp] theorem State.setRg_found (n : Nat) (x : Rng) : (s.setRg n x).found = s.found := rfl
@[simp] theorem State.setRg_cfg (n : Nat) (x : Rng) : (s.setRg n x).cfg = s.cfg := rfl
@[simp] theorem State.setRg_fuses (n : Nat) (x : Rng) : (s.setRg n x).fuses = s.fuses := rfl
@[simp] theorem State.setRg_panOps (n : Nat) (x : Rng) : (s.setRg n x).panOps = s.panOps := rfl
@[simp] theorem State.setRg_hwy (n : Nat) (x : Rng) : (s.setRg n x).hwy = s.hwy := rfl
@[simp] theorem State.setRg_hwyTi (n : Nat) (x : Rng) : (s.setRg n x).hwyTi = s.hwyTi := rfl
@[simp] theorem State.setRg_engs (n : Nat) (x : Rng) : (s.setRg n x).engs = s.engs := rfl
@[simp] theorem State.setRg_stdLoads (n : Nat) (x : Rng) : (s.setRg n x).stdLoads = s.stdLoads := rfl
@[simp] theorem State.setRg_net (n : Nat) (x : Rng) : (s.setRg n x).net = s.net := rfl
@[simp] theorem State.setRg_kpr (n : Nat) (x : Rng) : (s.setRg n x).kpr = s.kpr := rfl
@[simp] theorem State.setRg_sdLast (n : Nat) (x : Rng) : (s.setRg n x).sdLast = s.sdLast := rfl
@[simp] theorem State.setRg_sdOut (n : Nat) (x : Rng) : (s.setRg n x).sdOut = s.sdOut := rfl
@[simp] theorem State.setRg_pwr (n : Nat) (x : Rng) : (s.setRg n x).pwr = s.pwr := rfl
@[simp] theorem State.setRg_cal (n : Nat) (x : Rng) : (s.setRg n x).cal = s.cal := rfl
@[simp] theorem State.setRg_otp (n : Nat) (x : Rng) : (s.setRg n x).otp = s.otp := rfl
@[simp] theorem State.setRg_cel (n : Nat) (x : Rng) : (s.setRg n x).cel = s.cel := rfl
@[simp] theorem State.setRg_ctxs (n : Nat) (x : Rng) : (s.setRg n x).ctxs = s.ctxs := rfl
@[simp] theorem State.setRg_netTags (n : Nat) (x : Rng) : (s.setRg n x).netTags = s.netTags := rfl

/-! ### setMo -/

@[simp] theorem State.setMo_pending (n : Nat) (x : Mon) : (s.setMo n x).pending = s.pending := rfl
@[simp] theorem State.setMo_htick (n : Nat) (x : Mon) : (s.setMo n x).htick = s.htick := rfl
@[simp] theorem State.setMo_freeCtr (n : Nat) (x : Mon) : (s.setMo n x).freeCtr = s.freeCtr := rfl
@[simp] theorem State.setMo_regs (n : Nat) (x : Mon) : (s.setMo n x).regs = s.regs := rfl
@[simp] theorem State.setMo_active (n : Nat) (x : Mon) : (s.setMo n x).active = s.active := rfl
@[simp] theorem State.setMo_tickSet (n : Nat) (x : Mon) : (s.setMo n x).tickSet = s.tickSet := rfl
@[simp] theorem State.setMo_tickOld (n : Nat) (x : Mon) : (s.setMo n x).tickOld = s.tickOld := rfl
@[simp] theorem State.setMo_tickSwp (n : Nat) (x : Mon) : (s.setMo n x).tickSwp = s.tickSwp := rfl
@[simp] theorem State.setMo_tickInc (n : Nat) (x : Mon) : (s.setMo n x).tickInc = s.tickInc := rfl
@[simp] theorem State.setMo_holds (n : Nat) (x : Mon) : (s.setMo n x).holds = s.holds := rfl
@[simp] theorem State.setMo_replies (n : Nat) (x : Mon) : (s.setMo n x).replies = s.replies := rfl
@[simp] theorem State.setMo_launched (n : Nat) (x : Mon) : (s.setMo n x).launched = s.launched := rfl
@[simp] theorem State.setMo_reports (n : Nat) (x : Mon) : (s.setMo n x).reports = s.reports := rfl
@[simp] theorem State.setMo_pins (n : Nat) (x : Mon) : (s.setMo n x).pins = s.pins := rfl
@[simp] theorem State.setMo_ctl (n : Nat) (x : Mon) : (s.setMo n x).ctl = s.ctl := rfl
@[simp] theorem State.setMo_gpg (n : Nat) (x : Mon) : (s.setMo n x).gpg = s.gpg := rfl
@[simp] theorem State.setMo_snaps (n : Nat) (x : Mon) : (s.setMo n x).snaps = s.snaps := rfl
@[simp] theorem State.setMo_supplyOut (n : Nat) (x : Mon) : (s.setMo n x).supplyOut = s.supplyOut := rfl
@[simp] theorem State.setMo_loop (n : Nat) (x : Mon) : (s.setMo n x).loop = s.loop := rfl
@[simp] theorem State.setMo_tiles (n : Nat) (x : Mon) : (s.setMo n x).tiles = s.tiles := rfl
@[simp] theorem State.setMo_trk (n : Nat) (x : Mon) : (s.setMo n x).trk = s.trk := rfl
@[simp] theorem State.setMo_meas (n : Nat) (x : Mon) : (s.setMo n x).meas = s.meas := rfl
@[simp] theorem State.setMo_rng (n : Nat) (x : Mon) : (s.setMo n x).rng = s.rng := rfl
@[simp] theorem State.setMo_mon (n : Nat) (x : Mon) : (s.setMo n x).mon = Tbl.put s.mon n x := rfl
@[simp] theorem State.setMo_link (n : Nat) (x : Mon) : (s.setMo n x).link = s.link := rfl
@[simp] theorem State.setMo_chcal (n : Nat) (x : Mon) : (s.setMo n x).chcal = s.chcal := rfl
@[simp] theorem State.setMo_mach (n : Nat) (x : Mon) : (s.setMo n x).mach = s.mach := rfl
@[simp] theorem State.setMo_tod (n : Nat) (x : Mon) : (s.setMo n x).tod = s.tod := rfl
@[simp] theorem State.setMo_mains (n : Nat) (x : Mon) : (s.setMo n x).mains = s.mains := rfl
@[simp] theorem State.setMo_alarms (n : Nat) (x : Mon) : (s.setMo n x).alarms = s.alarms := rfl
@[simp] theorem State.setMo_almOld (n : Nat) (x : Mon) : (s.setMo n x).almOld = s.almOld := rfl
@[simp] theorem State.setMo_pan (n : Nat) (x : Mon) : (s.setMo n x).pan = s.pan := rfl
@[simp] theorem State.setMo_poison (n : Nat) (x : Mon) : (s.setMo n x).poison = s.poison := rfl
@[simp] theorem State.setMo_banks (n : Nat) (x : Mon) : (s.setMo n x).banks = s.banks := rfl
@[simp] theorem State.setMo_borrow (n : Nat) (x : Mon) : (s.setMo n x).borrow = s.borrow := rfl
@[simp] theorem State.setMo_chutes (n : Nat) (x : Mon) : (s.setMo n x).chutes = s.chutes := rfl
@[simp] theorem State.setMo_srcs (n : Nat) (x : Mon) : (s.setMo n x).srcs = s.srcs := rfl
@[simp] theorem State.setMo_pendReps (n : Nat) (x : Mon) : (s.setMo n x).pendReps = s.pendReps := rfl
@[simp] theorem State.setMo_hrtQueue (n : Nat) (x : Mon) : (s.setMo n x).hrtQueue = s.hrtQueue := rfl
@[simp] theorem State.setMo_fences (n : Nat) (x : Mon) : (s.setMo n x).fences = s.fences := rfl
@[simp] theorem State.setMo_fencedUnits (n : Nat) (x : Mon) : (s.setMo n x).fencedUnits = s.fencedUnits := rfl
@[simp] theorem State.setMo_safeReqs (n : Nat) (x : Mon) : (s.setMo n x).safeReqs = s.safeReqs := rfl
@[simp] theorem State.setMo_found (n : Nat) (x : Mon) : (s.setMo n x).found = s.found := rfl
@[simp] theorem State.setMo_cfg (n : Nat) (x : Mon) : (s.setMo n x).cfg = s.cfg := rfl
@[simp] theorem State.setMo_fuses (n : Nat) (x : Mon) : (s.setMo n x).fuses = s.fuses := rfl
@[simp] theorem State.setMo_panOps (n : Nat) (x : Mon) : (s.setMo n x).panOps = s.panOps := rfl
@[simp] theorem State.setMo_hwy (n : Nat) (x : Mon) : (s.setMo n x).hwy = s.hwy := rfl
@[simp] theorem State.setMo_hwyTi (n : Nat) (x : Mon) : (s.setMo n x).hwyTi = s.hwyTi := rfl
@[simp] theorem State.setMo_engs (n : Nat) (x : Mon) : (s.setMo n x).engs = s.engs := rfl
@[simp] theorem State.setMo_stdLoads (n : Nat) (x : Mon) : (s.setMo n x).stdLoads = s.stdLoads := rfl
@[simp] theorem State.setMo_net (n : Nat) (x : Mon) : (s.setMo n x).net = s.net := rfl
@[simp] theorem State.setMo_kpr (n : Nat) (x : Mon) : (s.setMo n x).kpr = s.kpr := rfl
@[simp] theorem State.setMo_sdLast (n : Nat) (x : Mon) : (s.setMo n x).sdLast = s.sdLast := rfl
@[simp] theorem State.setMo_sdOut (n : Nat) (x : Mon) : (s.setMo n x).sdOut = s.sdOut := rfl
@[simp] theorem State.setMo_pwr (n : Nat) (x : Mon) : (s.setMo n x).pwr = s.pwr := rfl
@[simp] theorem State.setMo_cal (n : Nat) (x : Mon) : (s.setMo n x).cal = s.cal := rfl
@[simp] theorem State.setMo_otp (n : Nat) (x : Mon) : (s.setMo n x).otp = s.otp := rfl
@[simp] theorem State.setMo_cel (n : Nat) (x : Mon) : (s.setMo n x).cel = s.cel := rfl
@[simp] theorem State.setMo_ctxs (n : Nat) (x : Mon) : (s.setMo n x).ctxs = s.ctxs := rfl
@[simp] theorem State.setMo_netTags (n : Nat) (x : Mon) : (s.setMo n x).netTags = s.netTags := rfl

/-! ### setLk -/

@[simp] theorem State.setLk_pending (n : Nat) (x : Link) : (s.setLk n x).pending = s.pending := rfl
@[simp] theorem State.setLk_htick (n : Nat) (x : Link) : (s.setLk n x).htick = s.htick := rfl
@[simp] theorem State.setLk_freeCtr (n : Nat) (x : Link) : (s.setLk n x).freeCtr = s.freeCtr := rfl
@[simp] theorem State.setLk_regs (n : Nat) (x : Link) : (s.setLk n x).regs = s.regs := rfl
@[simp] theorem State.setLk_active (n : Nat) (x : Link) : (s.setLk n x).active = s.active := rfl
@[simp] theorem State.setLk_tickSet (n : Nat) (x : Link) : (s.setLk n x).tickSet = s.tickSet := rfl
@[simp] theorem State.setLk_tickOld (n : Nat) (x : Link) : (s.setLk n x).tickOld = s.tickOld := rfl
@[simp] theorem State.setLk_tickSwp (n : Nat) (x : Link) : (s.setLk n x).tickSwp = s.tickSwp := rfl
@[simp] theorem State.setLk_tickInc (n : Nat) (x : Link) : (s.setLk n x).tickInc = s.tickInc := rfl
@[simp] theorem State.setLk_holds (n : Nat) (x : Link) : (s.setLk n x).holds = s.holds := rfl
@[simp] theorem State.setLk_replies (n : Nat) (x : Link) : (s.setLk n x).replies = s.replies := rfl
@[simp] theorem State.setLk_launched (n : Nat) (x : Link) : (s.setLk n x).launched = s.launched := rfl
@[simp] theorem State.setLk_reports (n : Nat) (x : Link) : (s.setLk n x).reports = s.reports := rfl
@[simp] theorem State.setLk_pins (n : Nat) (x : Link) : (s.setLk n x).pins = s.pins := rfl
@[simp] theorem State.setLk_ctl (n : Nat) (x : Link) : (s.setLk n x).ctl = s.ctl := rfl
@[simp] theorem State.setLk_gpg (n : Nat) (x : Link) : (s.setLk n x).gpg = s.gpg := rfl
@[simp] theorem State.setLk_snaps (n : Nat) (x : Link) : (s.setLk n x).snaps = s.snaps := rfl
@[simp] theorem State.setLk_supplyOut (n : Nat) (x : Link) : (s.setLk n x).supplyOut = s.supplyOut := rfl
@[simp] theorem State.setLk_loop (n : Nat) (x : Link) : (s.setLk n x).loop = s.loop := rfl
@[simp] theorem State.setLk_tiles (n : Nat) (x : Link) : (s.setLk n x).tiles = s.tiles := rfl
@[simp] theorem State.setLk_trk (n : Nat) (x : Link) : (s.setLk n x).trk = s.trk := rfl
@[simp] theorem State.setLk_meas (n : Nat) (x : Link) : (s.setLk n x).meas = s.meas := rfl
@[simp] theorem State.setLk_rng (n : Nat) (x : Link) : (s.setLk n x).rng = s.rng := rfl
@[simp] theorem State.setLk_mon (n : Nat) (x : Link) : (s.setLk n x).mon = s.mon := rfl
@[simp] theorem State.setLk_link (n : Nat) (x : Link) : (s.setLk n x).link = Tbl.put s.link n x := rfl
@[simp] theorem State.setLk_chcal (n : Nat) (x : Link) : (s.setLk n x).chcal = s.chcal := rfl
@[simp] theorem State.setLk_mach (n : Nat) (x : Link) : (s.setLk n x).mach = s.mach := rfl
@[simp] theorem State.setLk_tod (n : Nat) (x : Link) : (s.setLk n x).tod = s.tod := rfl
@[simp] theorem State.setLk_mains (n : Nat) (x : Link) : (s.setLk n x).mains = s.mains := rfl
@[simp] theorem State.setLk_alarms (n : Nat) (x : Link) : (s.setLk n x).alarms = s.alarms := rfl
@[simp] theorem State.setLk_almOld (n : Nat) (x : Link) : (s.setLk n x).almOld = s.almOld := rfl
@[simp] theorem State.setLk_pan (n : Nat) (x : Link) : (s.setLk n x).pan = s.pan := rfl
@[simp] theorem State.setLk_poison (n : Nat) (x : Link) : (s.setLk n x).poison = s.poison := rfl
@[simp] theorem State.setLk_banks (n : Nat) (x : Link) : (s.setLk n x).banks = s.banks := rfl
@[simp] theorem State.setLk_borrow (n : Nat) (x : Link) : (s.setLk n x).borrow = s.borrow := rfl
@[simp] theorem State.setLk_chutes (n : Nat) (x : Link) : (s.setLk n x).chutes = s.chutes := rfl
@[simp] theorem State.setLk_srcs (n : Nat) (x : Link) : (s.setLk n x).srcs = s.srcs := rfl
@[simp] theorem State.setLk_pendReps (n : Nat) (x : Link) : (s.setLk n x).pendReps = s.pendReps := rfl
@[simp] theorem State.setLk_hrtQueue (n : Nat) (x : Link) : (s.setLk n x).hrtQueue = s.hrtQueue := rfl
@[simp] theorem State.setLk_fences (n : Nat) (x : Link) : (s.setLk n x).fences = s.fences := rfl
@[simp] theorem State.setLk_fencedUnits (n : Nat) (x : Link) : (s.setLk n x).fencedUnits = s.fencedUnits := rfl
@[simp] theorem State.setLk_safeReqs (n : Nat) (x : Link) : (s.setLk n x).safeReqs = s.safeReqs := rfl
@[simp] theorem State.setLk_found (n : Nat) (x : Link) : (s.setLk n x).found = s.found := rfl
@[simp] theorem State.setLk_cfg (n : Nat) (x : Link) : (s.setLk n x).cfg = s.cfg := rfl
@[simp] theorem State.setLk_fuses (n : Nat) (x : Link) : (s.setLk n x).fuses = s.fuses := rfl
@[simp] theorem State.setLk_panOps (n : Nat) (x : Link) : (s.setLk n x).panOps = s.panOps := rfl
@[simp] theorem State.setLk_hwy (n : Nat) (x : Link) : (s.setLk n x).hwy = s.hwy := rfl
@[simp] theorem State.setLk_hwyTi (n : Nat) (x : Link) : (s.setLk n x).hwyTi = s.hwyTi := rfl
@[simp] theorem State.setLk_engs (n : Nat) (x : Link) : (s.setLk n x).engs = s.engs := rfl
@[simp] theorem State.setLk_stdLoads (n : Nat) (x : Link) : (s.setLk n x).stdLoads = s.stdLoads := rfl
@[simp] theorem State.setLk_net (n : Nat) (x : Link) : (s.setLk n x).net = s.net := rfl
@[simp] theorem State.setLk_kpr (n : Nat) (x : Link) : (s.setLk n x).kpr = s.kpr := rfl
@[simp] theorem State.setLk_sdLast (n : Nat) (x : Link) : (s.setLk n x).sdLast = s.sdLast := rfl
@[simp] theorem State.setLk_sdOut (n : Nat) (x : Link) : (s.setLk n x).sdOut = s.sdOut := rfl
@[simp] theorem State.setLk_pwr (n : Nat) (x : Link) : (s.setLk n x).pwr = s.pwr := rfl
@[simp] theorem State.setLk_cal (n : Nat) (x : Link) : (s.setLk n x).cal = s.cal := rfl
@[simp] theorem State.setLk_otp (n : Nat) (x : Link) : (s.setLk n x).otp = s.otp := rfl
@[simp] theorem State.setLk_cel (n : Nat) (x : Link) : (s.setLk n x).cel = s.cel := rfl
@[simp] theorem State.setLk_ctxs (n : Nat) (x : Link) : (s.setLk n x).ctxs = s.ctxs := rfl
@[simp] theorem State.setLk_netTags (n : Nat) (x : Link) : (s.setLk n x).netTags = s.netTags := rfl

/-! ### setCc -/

@[simp] theorem State.setCc_pending (n : Nat) (x : ChCal) : (s.setCc n x).pending = s.pending := rfl
@[simp] theorem State.setCc_htick (n : Nat) (x : ChCal) : (s.setCc n x).htick = s.htick := rfl
@[simp] theorem State.setCc_freeCtr (n : Nat) (x : ChCal) : (s.setCc n x).freeCtr = s.freeCtr := rfl
@[simp] theorem State.setCc_regs (n : Nat) (x : ChCal) : (s.setCc n x).regs = s.regs := rfl
@[simp] theorem State.setCc_active (n : Nat) (x : ChCal) : (s.setCc n x).active = s.active := rfl
@[simp] theorem State.setCc_tickSet (n : Nat) (x : ChCal) : (s.setCc n x).tickSet = s.tickSet := rfl
@[simp] theorem State.setCc_tickOld (n : Nat) (x : ChCal) : (s.setCc n x).tickOld = s.tickOld := rfl
@[simp] theorem State.setCc_tickSwp (n : Nat) (x : ChCal) : (s.setCc n x).tickSwp = s.tickSwp := rfl
@[simp] theorem State.setCc_tickInc (n : Nat) (x : ChCal) : (s.setCc n x).tickInc = s.tickInc := rfl
@[simp] theorem State.setCc_holds (n : Nat) (x : ChCal) : (s.setCc n x).holds = s.holds := rfl
@[simp] theorem State.setCc_replies (n : Nat) (x : ChCal) : (s.setCc n x).replies = s.replies := rfl
@[simp] theorem State.setCc_launched (n : Nat) (x : ChCal) : (s.setCc n x).launched = s.launched := rfl
@[simp] theorem State.setCc_reports (n : Nat) (x : ChCal) : (s.setCc n x).reports = s.reports := rfl
@[simp] theorem State.setCc_pins (n : Nat) (x : ChCal) : (s.setCc n x).pins = s.pins := rfl
@[simp] theorem State.setCc_ctl (n : Nat) (x : ChCal) : (s.setCc n x).ctl = s.ctl := rfl
@[simp] theorem State.setCc_gpg (n : Nat) (x : ChCal) : (s.setCc n x).gpg = s.gpg := rfl
@[simp] theorem State.setCc_snaps (n : Nat) (x : ChCal) : (s.setCc n x).snaps = s.snaps := rfl
@[simp] theorem State.setCc_supplyOut (n : Nat) (x : ChCal) : (s.setCc n x).supplyOut = s.supplyOut := rfl
@[simp] theorem State.setCc_loop (n : Nat) (x : ChCal) : (s.setCc n x).loop = s.loop := rfl
@[simp] theorem State.setCc_tiles (n : Nat) (x : ChCal) : (s.setCc n x).tiles = s.tiles := rfl
@[simp] theorem State.setCc_trk (n : Nat) (x : ChCal) : (s.setCc n x).trk = s.trk := rfl
@[simp] theorem State.setCc_meas (n : Nat) (x : ChCal) : (s.setCc n x).meas = s.meas := rfl
@[simp] theorem State.setCc_rng (n : Nat) (x : ChCal) : (s.setCc n x).rng = s.rng := rfl
@[simp] theorem State.setCc_mon (n : Nat) (x : ChCal) : (s.setCc n x).mon = s.mon := rfl
@[simp] theorem State.setCc_link (n : Nat) (x : ChCal) : (s.setCc n x).link = s.link := rfl
@[simp] theorem State.setCc_chcal (n : Nat) (x : ChCal) : (s.setCc n x).chcal = Tbl.put s.chcal n x := rfl
@[simp] theorem State.setCc_mach (n : Nat) (x : ChCal) : (s.setCc n x).mach = s.mach := rfl
@[simp] theorem State.setCc_tod (n : Nat) (x : ChCal) : (s.setCc n x).tod = s.tod := rfl
@[simp] theorem State.setCc_mains (n : Nat) (x : ChCal) : (s.setCc n x).mains = s.mains := rfl
@[simp] theorem State.setCc_alarms (n : Nat) (x : ChCal) : (s.setCc n x).alarms = s.alarms := rfl
@[simp] theorem State.setCc_almOld (n : Nat) (x : ChCal) : (s.setCc n x).almOld = s.almOld := rfl
@[simp] theorem State.setCc_pan (n : Nat) (x : ChCal) : (s.setCc n x).pan = s.pan := rfl
@[simp] theorem State.setCc_poison (n : Nat) (x : ChCal) : (s.setCc n x).poison = s.poison := rfl
@[simp] theorem State.setCc_banks (n : Nat) (x : ChCal) : (s.setCc n x).banks = s.banks := rfl
@[simp] theorem State.setCc_borrow (n : Nat) (x : ChCal) : (s.setCc n x).borrow = s.borrow := rfl
@[simp] theorem State.setCc_chutes (n : Nat) (x : ChCal) : (s.setCc n x).chutes = s.chutes := rfl
@[simp] theorem State.setCc_srcs (n : Nat) (x : ChCal) : (s.setCc n x).srcs = s.srcs := rfl
@[simp] theorem State.setCc_pendReps (n : Nat) (x : ChCal) : (s.setCc n x).pendReps = s.pendReps := rfl
@[simp] theorem State.setCc_hrtQueue (n : Nat) (x : ChCal) : (s.setCc n x).hrtQueue = s.hrtQueue := rfl
@[simp] theorem State.setCc_fences (n : Nat) (x : ChCal) : (s.setCc n x).fences = s.fences := rfl
@[simp] theorem State.setCc_fencedUnits (n : Nat) (x : ChCal) : (s.setCc n x).fencedUnits = s.fencedUnits := rfl
@[simp] theorem State.setCc_safeReqs (n : Nat) (x : ChCal) : (s.setCc n x).safeReqs = s.safeReqs := rfl
@[simp] theorem State.setCc_found (n : Nat) (x : ChCal) : (s.setCc n x).found = s.found := rfl
@[simp] theorem State.setCc_cfg (n : Nat) (x : ChCal) : (s.setCc n x).cfg = s.cfg := rfl
@[simp] theorem State.setCc_fuses (n : Nat) (x : ChCal) : (s.setCc n x).fuses = s.fuses := rfl
@[simp] theorem State.setCc_panOps (n : Nat) (x : ChCal) : (s.setCc n x).panOps = s.panOps := rfl
@[simp] theorem State.setCc_hwy (n : Nat) (x : ChCal) : (s.setCc n x).hwy = s.hwy := rfl
@[simp] theorem State.setCc_hwyTi (n : Nat) (x : ChCal) : (s.setCc n x).hwyTi = s.hwyTi := rfl
@[simp] theorem State.setCc_engs (n : Nat) (x : ChCal) : (s.setCc n x).engs = s.engs := rfl
@[simp] theorem State.setCc_stdLoads (n : Nat) (x : ChCal) : (s.setCc n x).stdLoads = s.stdLoads := rfl
@[simp] theorem State.setCc_net (n : Nat) (x : ChCal) : (s.setCc n x).net = s.net := rfl
@[simp] theorem State.setCc_kpr (n : Nat) (x : ChCal) : (s.setCc n x).kpr = s.kpr := rfl
@[simp] theorem State.setCc_sdLast (n : Nat) (x : ChCal) : (s.setCc n x).sdLast = s.sdLast := rfl
@[simp] theorem State.setCc_sdOut (n : Nat) (x : ChCal) : (s.setCc n x).sdOut = s.sdOut := rfl
@[simp] theorem State.setCc_pwr (n : Nat) (x : ChCal) : (s.setCc n x).pwr = s.pwr := rfl
@[simp] theorem State.setCc_cal (n : Nat) (x : ChCal) : (s.setCc n x).cal = s.cal := rfl
@[simp] theorem State.setCc_otp (n : Nat) (x : ChCal) : (s.setCc n x).otp = s.otp := rfl
@[simp] theorem State.setCc_cel (n : Nat) (x : ChCal) : (s.setCc n x).cel = s.cel := rfl
@[simp] theorem State.setCc_ctxs (n : Nat) (x : ChCal) : (s.setCc n x).ctxs = s.ctxs := rfl
@[simp] theorem State.setCc_netTags (n : Nat) (x : ChCal) : (s.setCc n x).netTags = s.netTags := rfl

/-! ### setCtx -/

@[simp] theorem State.setCtx_pending (n : Nat) (x : Ctx) : (s.setCtx n x).pending = s.pending := rfl
@[simp] theorem State.setCtx_htick (n : Nat) (x : Ctx) : (s.setCtx n x).htick = s.htick := rfl
@[simp] theorem State.setCtx_freeCtr (n : Nat) (x : Ctx) : (s.setCtx n x).freeCtr = s.freeCtr := rfl
@[simp] theorem State.setCtx_regs (n : Nat) (x : Ctx) : (s.setCtx n x).regs = s.regs := rfl
@[simp] theorem State.setCtx_active (n : Nat) (x : Ctx) : (s.setCtx n x).active = s.active := rfl
@[simp] theorem State.setCtx_tickSet (n : Nat) (x : Ctx) : (s.setCtx n x).tickSet = s.tickSet := rfl
@[simp] theorem State.setCtx_tickOld (n : Nat) (x : Ctx) : (s.setCtx n x).tickOld = s.tickOld := rfl
@[simp] theorem State.setCtx_tickSwp (n : Nat) (x : Ctx) : (s.setCtx n x).tickSwp = s.tickSwp := rfl
@[simp] theorem State.setCtx_tickInc (n : Nat) (x : Ctx) : (s.setCtx n x).tickInc = s.tickInc := rfl
@[simp] theorem State.setCtx_holds (n : Nat) (x : Ctx) : (s.setCtx n x).holds = s.holds := rfl
@[simp] theorem State.setCtx_replies (n : Nat) (x : Ctx) : (s.setCtx n x).replies = s.replies := rfl
@[simp] theorem State.setCtx_launched (n : Nat) (x : Ctx) : (s.setCtx n x).launched = s.launched := rfl
@[simp] theorem State.setCtx_reports (n : Nat) (x : Ctx) : (s.setCtx n x).reports = s.reports := rfl
@[simp] theorem State.setCtx_pins (n : Nat) (x : Ctx) : (s.setCtx n x).pins = s.pins := rfl
@[simp] theorem State.setCtx_ctl (n : Nat) (x : Ctx) : (s.setCtx n x).ctl = s.ctl := rfl
@[simp] theorem State.setCtx_gpg (n : Nat) (x : Ctx) : (s.setCtx n x).gpg = s.gpg := rfl
@[simp] theorem State.setCtx_snaps (n : Nat) (x : Ctx) : (s.setCtx n x).snaps = s.snaps := rfl
@[simp] theorem State.setCtx_supplyOut (n : Nat) (x : Ctx) : (s.setCtx n x).supplyOut = s.supplyOut := rfl
@[simp] theorem State.setCtx_loop (n : Nat) (x : Ctx) : (s.setCtx n x).loop = s.loop := rfl
@[simp] theorem State.setCtx_tiles (n : Nat) (x : Ctx) : (s.setCtx n x).tiles = s.tiles := rfl
@[simp] theorem State.setCtx_trk (n : Nat) (x : Ctx) : (s.setCtx n x).trk = s.trk := rfl
@[simp] theorem State.setCtx_meas (n : Nat) (x : Ctx) : (s.setCtx n x).meas = s.meas := rfl
@[simp] theorem State.setCtx_rng (n : Nat) (x : Ctx) : (s.setCtx n x).rng = s.rng := rfl
@[simp] theorem State.setCtx_mon (n : Nat) (x : Ctx) : (s.setCtx n x).mon = s.mon := rfl
@[simp] theorem State.setCtx_link (n : Nat) (x : Ctx) : (s.setCtx n x).link = s.link := rfl
@[simp] theorem State.setCtx_chcal (n : Nat) (x : Ctx) : (s.setCtx n x).chcal = s.chcal := rfl
@[simp] theorem State.setCtx_mach (n : Nat) (x : Ctx) : (s.setCtx n x).mach = s.mach := rfl
@[simp] theorem State.setCtx_tod (n : Nat) (x : Ctx) : (s.setCtx n x).tod = s.tod := rfl
@[simp] theorem State.setCtx_mains (n : Nat) (x : Ctx) : (s.setCtx n x).mains = s.mains := rfl
@[simp] theorem State.setCtx_alarms (n : Nat) (x : Ctx) : (s.setCtx n x).alarms = s.alarms := rfl
@[simp] theorem State.setCtx_almOld (n : Nat) (x : Ctx) : (s.setCtx n x).almOld = s.almOld := rfl
@[simp] theorem State.setCtx_pan (n : Nat) (x : Ctx) : (s.setCtx n x).pan = s.pan := rfl
@[simp] theorem State.setCtx_poison (n : Nat) (x : Ctx) : (s.setCtx n x).poison = s.poison := rfl
@[simp] theorem State.setCtx_banks (n : Nat) (x : Ctx) : (s.setCtx n x).banks = s.banks := rfl
@[simp] theorem State.setCtx_borrow (n : Nat) (x : Ctx) : (s.setCtx n x).borrow = s.borrow := rfl
@[simp] theorem State.setCtx_chutes (n : Nat) (x : Ctx) : (s.setCtx n x).chutes = s.chutes := rfl
@[simp] theorem State.setCtx_srcs (n : Nat) (x : Ctx) : (s.setCtx n x).srcs = s.srcs := rfl
@[simp] theorem State.setCtx_pendReps (n : Nat) (x : Ctx) : (s.setCtx n x).pendReps = s.pendReps := rfl
@[simp] theorem State.setCtx_hrtQueue (n : Nat) (x : Ctx) : (s.setCtx n x).hrtQueue = s.hrtQueue := rfl
@[simp] theorem State.setCtx_fences (n : Nat) (x : Ctx) : (s.setCtx n x).fences = s.fences := rfl
@[simp] theorem State.setCtx_fencedUnits (n : Nat) (x : Ctx) : (s.setCtx n x).fencedUnits = s.fencedUnits := rfl
@[simp] theorem State.setCtx_safeReqs (n : Nat) (x : Ctx) : (s.setCtx n x).safeReqs = s.safeReqs := rfl
@[simp] theorem State.setCtx_found (n : Nat) (x : Ctx) : (s.setCtx n x).found = s.found := rfl
@[simp] theorem State.setCtx_cfg (n : Nat) (x : Ctx) : (s.setCtx n x).cfg = s.cfg := rfl
@[simp] theorem State.setCtx_fuses (n : Nat) (x : Ctx) : (s.setCtx n x).fuses = s.fuses := rfl
@[simp] theorem State.setCtx_panOps (n : Nat) (x : Ctx) : (s.setCtx n x).panOps = s.panOps := rfl
@[simp] theorem State.setCtx_hwy (n : Nat) (x : Ctx) : (s.setCtx n x).hwy = s.hwy := rfl
@[simp] theorem State.setCtx_hwyTi (n : Nat) (x : Ctx) : (s.setCtx n x).hwyTi = s.hwyTi := rfl
@[simp] theorem State.setCtx_engs (n : Nat) (x : Ctx) : (s.setCtx n x).engs = s.engs := rfl
@[simp] theorem State.setCtx_stdLoads (n : Nat) (x : Ctx) : (s.setCtx n x).stdLoads = s.stdLoads := rfl
@[simp] theorem State.setCtx_net (n : Nat) (x : Ctx) : (s.setCtx n x).net = s.net := rfl
@[simp] theorem State.setCtx_kpr (n : Nat) (x : Ctx) : (s.setCtx n x).kpr = s.kpr := rfl
@[simp] theorem State.setCtx_sdLast (n : Nat) (x : Ctx) : (s.setCtx n x).sdLast = s.sdLast := rfl
@[simp] theorem State.setCtx_sdOut (n : Nat) (x : Ctx) : (s.setCtx n x).sdOut = s.sdOut := rfl
@[simp] theorem State.setCtx_pwr (n : Nat) (x : Ctx) : (s.setCtx n x).pwr = s.pwr := rfl
@[simp] theorem State.setCtx_cal (n : Nat) (x : Ctx) : (s.setCtx n x).cal = s.cal := rfl
@[simp] theorem State.setCtx_otp (n : Nat) (x : Ctx) : (s.setCtx n x).otp = s.otp := rfl
@[simp] theorem State.setCtx_cel (n : Nat) (x : Ctx) : (s.setCtx n x).cel = s.cel := rfl
@[simp] theorem State.setCtx_ctxs (n : Nat) (x : Ctx) : (s.setCtx n x).ctxs = Tbl.put s.ctxs n x := rfl
@[simp] theorem State.setCtx_netTags (n : Nat) (x : Ctx) : (s.setCtx n x).netTags = s.netTags := rfl

/-! ### setEng -/

@[simp] theorem State.setEng_pending (n : Nat) (x : Eng) : (s.setEng n x).pending = s.pending := rfl
@[simp] theorem State.setEng_htick (n : Nat) (x : Eng) : (s.setEng n x).htick = s.htick := rfl
@[simp] theorem State.setEng_freeCtr (n : Nat) (x : Eng) : (s.setEng n x).freeCtr = s.freeCtr := rfl
@[simp] theorem State.setEng_regs (n : Nat) (x : Eng) : (s.setEng n x).regs = s.regs := rfl
@[simp] theorem State.setEng_active (n : Nat) (x : Eng) : (s.setEng n x).active = s.active := rfl
@[simp] theorem State.setEng_tickSet (n : Nat) (x : Eng) : (s.setEng n x).tickSet = s.tickSet := rfl
@[simp] theorem State.setEng_tickOld (n : Nat) (x : Eng) : (s.setEng n x).tickOld = s.tickOld := rfl
@[simp] theorem State.setEng_tickSwp (n : Nat) (x : Eng) : (s.setEng n x).tickSwp = s.tickSwp := rfl
@[simp] theorem State.setEng_tickInc (n : Nat) (x : Eng) : (s.setEng n x).tickInc = s.tickInc := rfl
@[simp] theorem State.setEng_holds (n : Nat) (x : Eng) : (s.setEng n x).holds = s.holds := rfl
@[simp] theorem State.setEng_replies (n : Nat) (x : Eng) : (s.setEng n x).replies = s.replies := rfl
@[simp] theorem State.setEng_launched (n : Nat) (x : Eng) : (s.setEng n x).launched = s.launched := rfl
@[simp] theorem State.setEng_reports (n : Nat) (x : Eng) : (s.setEng n x).reports = s.reports := rfl
@[simp] theorem State.setEng_pins (n : Nat) (x : Eng) : (s.setEng n x).pins = s.pins := rfl
@[simp] theorem State.setEng_ctl (n : Nat) (x : Eng) : (s.setEng n x).ctl = s.ctl := rfl
@[simp] theorem State.setEng_gpg (n : Nat) (x : Eng) : (s.setEng n x).gpg = s.gpg := rfl
@[simp] theorem State.setEng_snaps (n : Nat) (x : Eng) : (s.setEng n x).snaps = s.snaps := rfl
@[simp] theorem State.setEng_supplyOut (n : Nat) (x : Eng) : (s.setEng n x).supplyOut = s.supplyOut := rfl
@[simp] theorem State.setEng_loop (n : Nat) (x : Eng) : (s.setEng n x).loop = s.loop := rfl
@[simp] theorem State.setEng_tiles (n : Nat) (x : Eng) : (s.setEng n x).tiles = s.tiles := rfl
@[simp] theorem State.setEng_trk (n : Nat) (x : Eng) : (s.setEng n x).trk = s.trk := rfl
@[simp] theorem State.setEng_meas (n : Nat) (x : Eng) : (s.setEng n x).meas = s.meas := rfl
@[simp] theorem State.setEng_rng (n : Nat) (x : Eng) : (s.setEng n x).rng = s.rng := rfl
@[simp] theorem State.setEng_mon (n : Nat) (x : Eng) : (s.setEng n x).mon = s.mon := rfl
@[simp] theorem State.setEng_link (n : Nat) (x : Eng) : (s.setEng n x).link = s.link := rfl
@[simp] theorem State.setEng_chcal (n : Nat) (x : Eng) : (s.setEng n x).chcal = s.chcal := rfl
@[simp] theorem State.setEng_mach (n : Nat) (x : Eng) : (s.setEng n x).mach = s.mach := rfl
@[simp] theorem State.setEng_tod (n : Nat) (x : Eng) : (s.setEng n x).tod = s.tod := rfl
@[simp] theorem State.setEng_mains (n : Nat) (x : Eng) : (s.setEng n x).mains = s.mains := rfl
@[simp] theorem State.setEng_alarms (n : Nat) (x : Eng) : (s.setEng n x).alarms = s.alarms := rfl
@[simp] theorem State.setEng_almOld (n : Nat) (x : Eng) : (s.setEng n x).almOld = s.almOld := rfl
@[simp] theorem State.setEng_pan (n : Nat) (x : Eng) : (s.setEng n x).pan = s.pan := rfl
@[simp] theorem State.setEng_poison (n : Nat) (x : Eng) : (s.setEng n x).poison = s.poison := rfl
@[simp] theorem State.setEng_banks (n : Nat) (x : Eng) : (s.setEng n x).banks = s.banks := rfl
@[simp] theorem State.setEng_borrow (n : Nat) (x : Eng) : (s.setEng n x).borrow = s.borrow := rfl
@[simp] theorem State.setEng_chutes (n : Nat) (x : Eng) : (s.setEng n x).chutes = s.chutes := rfl
@[simp] theorem State.setEng_srcs (n : Nat) (x : Eng) : (s.setEng n x).srcs = s.srcs := rfl
@[simp] theorem State.setEng_pendReps (n : Nat) (x : Eng) : (s.setEng n x).pendReps = s.pendReps := rfl
@[simp] theorem State.setEng_hrtQueue (n : Nat) (x : Eng) : (s.setEng n x).hrtQueue = s.hrtQueue := rfl
@[simp] theorem State.setEng_fences (n : Nat) (x : Eng) : (s.setEng n x).fences = s.fences := rfl
@[simp] theorem State.setEng_fencedUnits (n : Nat) (x : Eng) : (s.setEng n x).fencedUnits = s.fencedUnits := rfl
@[simp] theorem State.setEng_safeReqs (n : Nat) (x : Eng) : (s.setEng n x).safeReqs = s.safeReqs := rfl
@[simp] theorem State.setEng_found (n : Nat) (x : Eng) : (s.setEng n x).found = s.found := rfl
@[simp] theorem State.setEng_cfg (n : Nat) (x : Eng) : (s.setEng n x).cfg = s.cfg := rfl
@[simp] theorem State.setEng_fuses (n : Nat) (x : Eng) : (s.setEng n x).fuses = s.fuses := rfl
@[simp] theorem State.setEng_panOps (n : Nat) (x : Eng) : (s.setEng n x).panOps = s.panOps := rfl
@[simp] theorem State.setEng_hwy (n : Nat) (x : Eng) : (s.setEng n x).hwy = s.hwy := rfl
@[simp] theorem State.setEng_hwyTi (n : Nat) (x : Eng) : (s.setEng n x).hwyTi = s.hwyTi := rfl
@[simp] theorem State.setEng_engs (n : Nat) (x : Eng) : (s.setEng n x).engs = Tbl.put s.engs n x := rfl
@[simp] theorem State.setEng_stdLoads (n : Nat) (x : Eng) : (s.setEng n x).stdLoads = s.stdLoads := rfl
@[simp] theorem State.setEng_net (n : Nat) (x : Eng) : (s.setEng n x).net = s.net := rfl
@[simp] theorem State.setEng_kpr (n : Nat) (x : Eng) : (s.setEng n x).kpr = s.kpr := rfl
@[simp] theorem State.setEng_sdLast (n : Nat) (x : Eng) : (s.setEng n x).sdLast = s.sdLast := rfl
@[simp] theorem State.setEng_sdOut (n : Nat) (x : Eng) : (s.setEng n x).sdOut = s.sdOut := rfl
@[simp] theorem State.setEng_pwr (n : Nat) (x : Eng) : (s.setEng n x).pwr = s.pwr := rfl
@[simp] theorem State.setEng_cal (n : Nat) (x : Eng) : (s.setEng n x).cal = s.cal := rfl
@[simp] theorem State.setEng_otp (n : Nat) (x : Eng) : (s.setEng n x).otp = s.otp := rfl
@[simp] theorem State.setEng_cel (n : Nat) (x : Eng) : (s.setEng n x).cel = s.cel := rfl
@[simp] theorem State.setEng_ctxs (n : Nat) (x : Eng) : (s.setEng n x).ctxs = s.ctxs := rfl
@[simp] theorem State.setEng_netTags (n : Nat) (x : Eng) : (s.setEng n x).netTags = s.netTags := rfl

/-! ### setAlarm -/

@[simp] theorem State.setAlarm_pending (n : Nat) (x : Alarm) : (s.setAlarm n x).pending = s.pending := rfl
@[simp] theorem State.setAlarm_htick (n : Nat) (x : Alarm) : (s.setAlarm n x).htick = s.htick := rfl
@[simp] theorem State.setAlarm_freeCtr (n : Nat) (x : Alarm) : (s.setAlarm n x).freeCtr = s.freeCtr := rfl
@[simp] theorem State.setAlarm_regs (n : Nat) (x : Alarm) : (s.setAlarm n x).regs = s.regs := rfl
@[simp] theorem State.setAlarm_active (n : Nat) (x : Alarm) : (s.setAlarm n x).active = s.active := rfl
@[simp] theorem State.setAlarm_tickSet (n : Nat) (x : Alarm) : (s.setAlarm n x).tickSet = s.tickSet := rfl
@[simp] theorem State.setAlarm_tickOld (n : Nat) (x : Alarm) : (s.setAlarm n x).tickOld = s.tickOld := rfl
@[simp] theorem State.setAlarm_tickSwp (n : Nat) (x : Alarm) : (s.setAlarm n x).tickSwp = s.tickSwp := rfl
@[simp] theorem State.setAlarm_tickInc (n : Nat) (x : Alarm) : (s.setAlarm n x).tickInc = s.tickInc := rfl
@[simp] theorem State.setAlarm_holds (n : Nat) (x : Alarm) : (s.setAlarm n x).holds = s.holds := rfl
@[simp] theorem State.setAlarm_replies (n : Nat) (x : Alarm) : (s.setAlarm n x).replies = s.replies := rfl
@[simp] theorem State.setAlarm_launched (n : Nat) (x : Alarm) : (s.setAlarm n x).launched = s.launched := rfl
@[simp] theorem State.setAlarm_reports (n : Nat) (x : Alarm) : (s.setAlarm n x).reports = s.reports := rfl
@[simp] theorem State.setAlarm_pins (n : Nat) (x : Alarm) : (s.setAlarm n x).pins = s.pins := rfl
@[simp] theorem State.setAlarm_ctl (n : Nat) (x : Alarm) : (s.setAlarm n x).ctl = s.ctl := rfl
@[simp] theorem State.setAlarm_gpg (n : Nat) (x : Alarm) : (s.setAlarm n x).gpg = s.gpg := rfl
@[simp] theorem State.setAlarm_snaps (n : Nat) (x : Alarm) : (s.setAlarm n x).snaps = s.snaps := rfl
@[simp] theorem State.setAlarm_supplyOut (n : Nat) (x : Alarm) : (s.setAlarm n x).supplyOut = s.supplyOut := rfl
@[simp] theorem State.setAlarm_loop (n : Nat) (x : Alarm) : (s.setAlarm n x).loop = s.loop := rfl
@[simp] theorem State.setAlarm_tiles (n : Nat) (x : Alarm) : (s.setAlarm n x).tiles = s.tiles := rfl
@[simp] theorem State.setAlarm_trk (n : Nat) (x : Alarm) : (s.setAlarm n x).trk = s.trk := rfl
@[simp] theorem State.setAlarm_meas (n : Nat) (x : Alarm) : (s.setAlarm n x).meas = s.meas := rfl
@[simp] theorem State.setAlarm_rng (n : Nat) (x : Alarm) : (s.setAlarm n x).rng = s.rng := rfl
@[simp] theorem State.setAlarm_mon (n : Nat) (x : Alarm) : (s.setAlarm n x).mon = s.mon := rfl
@[simp] theorem State.setAlarm_link (n : Nat) (x : Alarm) : (s.setAlarm n x).link = s.link := rfl
@[simp] theorem State.setAlarm_chcal (n : Nat) (x : Alarm) : (s.setAlarm n x).chcal = s.chcal := rfl
@[simp] theorem State.setAlarm_mach (n : Nat) (x : Alarm) : (s.setAlarm n x).mach = s.mach := rfl
@[simp] theorem State.setAlarm_tod (n : Nat) (x : Alarm) : (s.setAlarm n x).tod = s.tod := rfl
@[simp] theorem State.setAlarm_mains (n : Nat) (x : Alarm) : (s.setAlarm n x).mains = s.mains := rfl
@[simp] theorem State.setAlarm_alarms (n : Nat) (x : Alarm) : (s.setAlarm n x).alarms = Tbl.put s.alarms n x := rfl
@[simp] theorem State.setAlarm_almOld (n : Nat) (x : Alarm) : (s.setAlarm n x).almOld = s.almOld := rfl
@[simp] theorem State.setAlarm_pan (n : Nat) (x : Alarm) : (s.setAlarm n x).pan = s.pan := rfl
@[simp] theorem State.setAlarm_poison (n : Nat) (x : Alarm) : (s.setAlarm n x).poison = s.poison := rfl
@[simp] theorem State.setAlarm_banks (n : Nat) (x : Alarm) : (s.setAlarm n x).banks = s.banks := rfl
@[simp] theorem State.setAlarm_borrow (n : Nat) (x : Alarm) : (s.setAlarm n x).borrow = s.borrow := rfl
@[simp] theorem State.setAlarm_chutes (n : Nat) (x : Alarm) : (s.setAlarm n x).chutes = s.chutes := rfl
@[simp] theorem State.setAlarm_srcs (n : Nat) (x : Alarm) : (s.setAlarm n x).srcs = s.srcs := rfl
@[simp] theorem State.setAlarm_pendReps (n : Nat) (x : Alarm) : (s.setAlarm n x).pendReps = s.pendReps := rfl
@[simp] theorem State.setAlarm_hrtQueue (n : Nat) (x : Alarm) : (s.setAlarm n x).hrtQueue = s.hrtQueue := rfl
@[simp] theorem State.setAlarm_fences (n : Nat) (x : Alarm) : (s.setAlarm n x).fences = s.fences := rfl
@[simp] theorem State.setAlarm_fencedUnits (n : Nat) (x : Alarm) : (s.setAlarm n x).fencedUnits = s.fencedUnits := rfl
@[simp] theorem State.setAlarm_safeReqs (n : Nat) (x : Alarm) : (s.setAlarm n x).safeReqs = s.safeReqs := rfl
@[simp] theorem State.setAlarm_found (n : Nat) (x : Alarm) : (s.setAlarm n x).found = s.found := rfl
@[simp] theorem State.setAlarm_cfg (n : Nat) (x : Alarm) : (s.setAlarm n x).cfg = s.cfg := rfl
@[simp] theorem State.setAlarm_fuses (n : Nat) (x : Alarm) : (s.setAlarm n x).fuses = s.fuses := rfl
@[simp] theorem State.setAlarm_panOps (n : Nat) (x : Alarm) : (s.setAlarm n x).panOps = s.panOps := rfl
@[simp] theorem State.setAlarm_hwy (n : Nat) (x : Alarm) : (s.setAlarm n x).hwy = s.hwy := rfl
@[simp] theorem State.setAlarm_hwyTi (n : Nat) (x : Alarm) : (s.setAlarm n x).hwyTi = s.hwyTi := rfl
@[simp] theorem State.setAlarm_engs (n : Nat) (x : Alarm) : (s.setAlarm n x).engs = s.engs := rfl
@[simp] theorem State.setAlarm_stdLoads (n : Nat) (x : Alarm) : (s.setAlarm n x).stdLoads = s.stdLoads := rfl
@[simp] theorem State.setAlarm_net (n : Nat) (x : Alarm) : (s.setAlarm n x).net = s.net := rfl
@[simp] theorem State.setAlarm_kpr (n : Nat) (x : Alarm) : (s.setAlarm n x).kpr = s.kpr := rfl
@[simp] theorem State.setAlarm_sdLast (n : Nat) (x : Alarm) : (s.setAlarm n x).sdLast = s.sdLast := rfl
@[simp] theorem State.setAlarm_sdOut (n : Nat) (x : Alarm) : (s.setAlarm n x).sdOut = s.sdOut := rfl
@[simp] theorem State.setAlarm_pwr (n : Nat) (x : Alarm) : (s.setAlarm n x).pwr = s.pwr := rfl
@[simp] theorem State.setAlarm_cal (n : Nat) (x : Alarm) : (s.setAlarm n x).cal = s.cal := rfl
@[simp] theorem State.setAlarm_otp (n : Nat) (x : Alarm) : (s.setAlarm n x).otp = s.otp := rfl
@[simp] theorem State.setAlarm_cel (n : Nat) (x : Alarm) : (s.setAlarm n x).cel = s.cel := rfl
@[simp] theorem State.setAlarm_ctxs (n : Nat) (x : Alarm) : (s.setAlarm n x).ctxs = s.ctxs := rfl
@[simp] theorem State.setAlarm_netTags (n : Nat) (x : Alarm) : (s.setAlarm n x).netTags = s.netTags := rfl

/-! ### setBank -/

@[simp] theorem State.setBank_pending (n : Nat) (x : Bank) : (s.setBank n x).pending = s.pending := rfl
@[simp] theorem State.setBank_htick (n : Nat) (x : Bank) : (s.setBank n x).htick = s.htick := rfl
@[simp] theorem State.setBank_freeCtr (n : Nat) (x : Bank) : (s.setBank n x).freeCtr = s.freeCtr := rfl
@[simp] theorem State.setBank_regs (n : Nat) (x : Bank) : (s.setBank n x).regs = s.regs := rfl
@[simp] theorem State.setBank_active (n : Nat) (x : Bank) : (s.setBank n x).active = s.active := rfl
@[simp] theorem State.setBank_tickSet (n : Nat) (x : Bank) : (s.setBank n x).tickSet = s.tickSet := rfl
@[simp] theorem State.setBank_tickOld (n : Nat) (x : Bank) : (s.setBank n x).tickOld = s.tickOld := rfl
@[simp] theorem State.setBank_tickSwp (n : Nat) (x : Bank) : (s.setBank n x).tickSwp = s.tickSwp := rfl
@[simp] theorem State.setBank_tickInc (n : Nat) (x : Bank) : (s.setBank n x).tickInc = s.tickInc := rfl
@[simp] theorem State.setBank_holds (n : Nat) (x : Bank) : (s.setBank n x).holds = s.holds := rfl
@[simp] theorem State.setBank_replies (n : Nat) (x : Bank) : (s.setBank n x).replies = s.replies := rfl
@[simp] theorem State.setBank_launched (n : Nat) (x : Bank) : (s.setBank n x).launched = s.launched := rfl
@[simp] theorem State.setBank_reports (n : Nat) (x : Bank) : (s.setBank n x).reports = s.reports := rfl
@[simp] theorem State.setBank_pins (n : Nat) (x : Bank) : (s.setBank n x).pins = s.pins := rfl
@[simp] theorem State.setBank_ctl (n : Nat) (x : Bank) : (s.setBank n x).ctl = s.ctl := rfl
@[simp] theorem State.setBank_gpg (n : Nat) (x : Bank) : (s.setBank n x).gpg = s.gpg := rfl
@[simp] theorem State.setBank_snaps (n : Nat) (x : Bank) : (s.setBank n x).snaps = s.snaps := rfl
@[simp] theorem State.setBank_supplyOut (n : Nat) (x : Bank) : (s.setBank n x).supplyOut = s.supplyOut := rfl
@[simp] theorem State.setBank_loop (n : Nat) (x : Bank) : (s.setBank n x).loop = s.loop := rfl
@[simp] theorem State.setBank_tiles (n : Nat) (x : Bank) : (s.setBank n x).tiles = s.tiles := rfl
@[simp] theorem State.setBank_trk (n : Nat) (x : Bank) : (s.setBank n x).trk = s.trk := rfl
@[simp] theorem State.setBank_meas (n : Nat) (x : Bank) : (s.setBank n x).meas = s.meas := rfl
@[simp] theorem State.setBank_rng (n : Nat) (x : Bank) : (s.setBank n x).rng = s.rng := rfl
@[simp] theorem State.setBank_mon (n : Nat) (x : Bank) : (s.setBank n x).mon = s.mon := rfl
@[simp] theorem State.setBank_link (n : Nat) (x : Bank) : (s.setBank n x).link = s.link := rfl
@[simp] theorem State.setBank_chcal (n : Nat) (x : Bank) : (s.setBank n x).chcal = s.chcal := rfl
@[simp] theorem State.setBank_mach (n : Nat) (x : Bank) : (s.setBank n x).mach = s.mach := rfl
@[simp] theorem State.setBank_tod (n : Nat) (x : Bank) : (s.setBank n x).tod = s.tod := rfl
@[simp] theorem State.setBank_mains (n : Nat) (x : Bank) : (s.setBank n x).mains = s.mains := rfl
@[simp] theorem State.setBank_alarms (n : Nat) (x : Bank) : (s.setBank n x).alarms = s.alarms := rfl
@[simp] theorem State.setBank_almOld (n : Nat) (x : Bank) : (s.setBank n x).almOld = s.almOld := rfl
@[simp] theorem State.setBank_pan (n : Nat) (x : Bank) : (s.setBank n x).pan = s.pan := rfl
@[simp] theorem State.setBank_poison (n : Nat) (x : Bank) : (s.setBank n x).poison = s.poison := rfl
@[simp] theorem State.setBank_banks (n : Nat) (x : Bank) : (s.setBank n x).banks = Tbl.put s.banks n x := rfl
@[simp] theorem State.setBank_borrow (n : Nat) (x : Bank) : (s.setBank n x).borrow = s.borrow := rfl
@[simp] theorem State.setBank_chutes (n : Nat) (x : Bank) : (s.setBank n x).chutes = s.chutes := rfl
@[simp] theorem State.setBank_srcs (n : Nat) (x : Bank) : (s.setBank n x).srcs = s.srcs := rfl
@[simp] theorem State.setBank_pendReps (n : Nat) (x : Bank) : (s.setBank n x).pendReps = s.pendReps := rfl
@[simp] theorem State.setBank_hrtQueue (n : Nat) (x : Bank) : (s.setBank n x).hrtQueue = s.hrtQueue := rfl
@[simp] theorem State.setBank_fences (n : Nat) (x : Bank) : (s.setBank n x).fences = s.fences := rfl
@[simp] theorem State.setBank_fencedUnits (n : Nat) (x : Bank) : (s.setBank n x).fencedUnits = s.fencedUnits := rfl
@[simp] theorem State.setBank_safeReqs (n : Nat) (x : Bank) : (s.setBank n x).safeReqs = s.safeReqs := rfl
@[simp] theorem State.setBank_found (n : Nat) (x : Bank) : (s.setBank n x).found = s.found := rfl
@[simp] theorem State.setBank_cfg (n : Nat) (x : Bank) : (s.setBank n x).cfg = s.cfg := rfl
@[simp] theorem State.setBank_fuses (n : Nat) (x : Bank) : (s.setBank n x).fuses = s.fuses := rfl
@[simp] theorem State.setBank_panOps (n : Nat) (x : Bank) : (s.setBank n x).panOps = s.panOps := rfl
@[simp] theorem State.setBank_hwy (n : Nat) (x : Bank) : (s.setBank n x).hwy = s.hwy := rfl
@[simp] theorem State.setBank_hwyTi (n : Nat) (x : Bank) : (s.setBank n x).hwyTi = s.hwyTi := rfl
@[simp] theorem State.setBank_engs (n : Nat) (x : Bank) : (s.setBank n x).engs = s.engs := rfl
@[simp] theorem State.setBank_stdLoads (n : Nat) (x : Bank) : (s.setBank n x).stdLoads = s.stdLoads := rfl
@[simp] theorem State.setBank_net (n : Nat) (x : Bank) : (s.setBank n x).net = s.net := rfl
@[simp] theorem State.setBank_kpr (n : Nat) (x : Bank) : (s.setBank n x).kpr = s.kpr := rfl
@[simp] theorem State.setBank_sdLast (n : Nat) (x : Bank) : (s.setBank n x).sdLast = s.sdLast := rfl
@[simp] theorem State.setBank_sdOut (n : Nat) (x : Bank) : (s.setBank n x).sdOut = s.sdOut := rfl
@[simp] theorem State.setBank_pwr (n : Nat) (x : Bank) : (s.setBank n x).pwr = s.pwr := rfl
@[simp] theorem State.setBank_cal (n : Nat) (x : Bank) : (s.setBank n x).cal = s.cal := rfl
@[simp] theorem State.setBank_otp (n : Nat) (x : Bank) : (s.setBank n x).otp = s.otp := rfl
@[simp] theorem State.setBank_cel (n : Nat) (x : Bank) : (s.setBank n x).cel = s.cel := rfl
@[simp] theorem State.setBank_ctxs (n : Nat) (x : Bank) : (s.setBank n x).ctxs = s.ctxs := rfl
@[simp] theorem State.setBank_netTags (n : Nat) (x : Bank) : (s.setBank n x).netTags = s.netTags := rfl

/-! ### setChute -/

@[simp] theorem State.setChute_pending (n : Nat) (x : Chute) : (s.setChute n x).pending = s.pending := rfl
@[simp] theorem State.setChute_htick (n : Nat) (x : Chute) : (s.setChute n x).htick = s.htick := rfl
@[simp] theorem State.setChute_freeCtr (n : Nat) (x : Chute) : (s.setChute n x).freeCtr = s.freeCtr := rfl
@[simp] theorem State.setChute_regs (n : Nat) (x : Chute) : (s.setChute n x).regs = s.regs := rfl
@[simp] theorem State.setChute_active (n : Nat) (x : Chute) : (s.setChute n x).active = s.active := rfl
@[simp] theorem State.setChute_tickSet (n : Nat) (x : Chute) : (s.setChute n x).tickSet = s.tickSet := rfl
@[simp] theorem State.setChute_tickOld (n : Nat) (x : Chute) : (s.setChute n x).tickOld = s.tickOld := rfl
@[simp] theorem State.setChute_tickSwp (n : Nat) (x : Chute) : (s.setChute n x).tickSwp = s.tickSwp := rfl
@[simp] theorem State.setChute_tickInc (n : Nat) (x : Chute) : (s.setChute n x).tickInc = s.tickInc := rfl
@[simp] theorem State.setChute_holds (n : Nat) (x : Chute) : (s.setChute n x).holds = s.holds := rfl
@[simp] theorem State.setChute_replies (n : Nat) (x : Chute) : (s.setChute n x).replies = s.replies := rfl
@[simp] theorem State.setChute_launched (n : Nat) (x : Chute) : (s.setChute n x).launched = s.launched := rfl
@[simp] theorem State.setChute_reports (n : Nat) (x : Chute) : (s.setChute n x).reports = s.reports := rfl
@[simp] theorem State.setChute_pins (n : Nat) (x : Chute) : (s.setChute n x).pins = s.pins := rfl
@[simp] theorem State.setChute_ctl (n : Nat) (x : Chute) : (s.setChute n x).ctl = s.ctl := rfl
@[simp] theorem State.setChute_gpg (n : Nat) (x : Chute) : (s.setChute n x).gpg = s.gpg := rfl
@[simp] theorem State.setChute_snaps (n : Nat) (x : Chute) : (s.setChute n x).snaps = s.snaps := rfl
@[simp] theorem State.setChute_supplyOut (n : Nat) (x : Chute) : (s.setChute n x).supplyOut = s.supplyOut := rfl
@[simp] theorem State.setChute_loop (n : Nat) (x : Chute) : (s.setChute n x).loop = s.loop := rfl
@[simp] theorem State.setChute_tiles (n : Nat) (x : Chute) : (s.setChute n x).tiles = s.tiles := rfl
@[simp] theorem State.setChute_trk (n : Nat) (x : Chute) : (s.setChute n x).trk = s.trk := rfl
@[simp] theorem State.setChute_meas (n : Nat) (x : Chute) : (s.setChute n x).meas = s.meas := rfl
@[simp] theorem State.setChute_rng (n : Nat) (x : Chute) : (s.setChute n x).rng = s.rng := rfl
@[simp] theorem State.setChute_mon (n : Nat) (x : Chute) : (s.setChute n x).mon = s.mon := rfl
@[simp] theorem State.setChute_link (n : Nat) (x : Chute) : (s.setChute n x).link = s.link := rfl
@[simp] theorem State.setChute_chcal (n : Nat) (x : Chute) : (s.setChute n x).chcal = s.chcal := rfl
@[simp] theorem State.setChute_mach (n : Nat) (x : Chute) : (s.setChute n x).mach = s.mach := rfl
@[simp] theorem State.setChute_tod (n : Nat) (x : Chute) : (s.setChute n x).tod = s.tod := rfl
@[simp] theorem State.setChute_mains (n : Nat) (x : Chute) : (s.setChute n x).mains = s.mains := rfl
@[simp] theorem State.setChute_alarms (n : Nat) (x : Chute) : (s.setChute n x).alarms = s.alarms := rfl
@[simp] theorem State.setChute_almOld (n : Nat) (x : Chute) : (s.setChute n x).almOld = s.almOld := rfl
@[simp] theorem State.setChute_pan (n : Nat) (x : Chute) : (s.setChute n x).pan = s.pan := rfl
@[simp] theorem State.setChute_poison (n : Nat) (x : Chute) : (s.setChute n x).poison = s.poison := rfl
@[simp] theorem State.setChute_banks (n : Nat) (x : Chute) : (s.setChute n x).banks = s.banks := rfl
@[simp] theorem State.setChute_borrow (n : Nat) (x : Chute) : (s.setChute n x).borrow = s.borrow := rfl
@[simp] theorem State.setChute_chutes (n : Nat) (x : Chute) : (s.setChute n x).chutes = Tbl.put s.chutes n x := rfl
@[simp] theorem State.setChute_srcs (n : Nat) (x : Chute) : (s.setChute n x).srcs = s.srcs := rfl
@[simp] theorem State.setChute_pendReps (n : Nat) (x : Chute) : (s.setChute n x).pendReps = s.pendReps := rfl
@[simp] theorem State.setChute_hrtQueue (n : Nat) (x : Chute) : (s.setChute n x).hrtQueue = s.hrtQueue := rfl
@[simp] theorem State.setChute_fences (n : Nat) (x : Chute) : (s.setChute n x).fences = s.fences := rfl
@[simp] theorem State.setChute_fencedUnits (n : Nat) (x : Chute) : (s.setChute n x).fencedUnits = s.fencedUnits := rfl
@[simp] theorem State.setChute_safeReqs (n : Nat) (x : Chute) : (s.setChute n x).safeReqs = s.safeReqs := rfl
@[simp] theorem State.setChute_found (n : Nat) (x : Chute) : (s.setChute n x).found = s.found := rfl
@[simp] theorem State.setChute_cfg (n : Nat) (x : Chute) : (s.setChute n x).cfg = s.cfg := rfl
@[simp] theorem State.setChute_fuses (n : Nat) (x : Chute) : (s.setChute n x).fuses = s.fuses := rfl
@[simp] theorem State.setChute_panOps (n : Nat) (x : Chute) : (s.setChute n x).panOps = s.panOps := rfl
@[simp] theorem State.setChute_hwy (n : Nat) (x : Chute) : (s.setChute n x).hwy = s.hwy := rfl
@[simp] theorem State.setChute_hwyTi (n : Nat) (x : Chute) : (s.setChute n x).hwyTi = s.hwyTi := rfl
@[simp] theorem State.setChute_engs (n : Nat) (x : Chute) : (s.setChute n x).engs = s.engs := rfl
@[simp] theorem State.setChute_stdLoads (n : Nat) (x : Chute) : (s.setChute n x).stdLoads = s.stdLoads := rfl
@[simp] theorem State.setChute_net (n : Nat) (x : Chute) : (s.setChute n x).net = s.net := rfl
@[simp] theorem State.setChute_kpr (n : Nat) (x : Chute) : (s.setChute n x).kpr = s.kpr := rfl
@[simp] theorem State.setChute_sdLast (n : Nat) (x : Chute) : (s.setChute n x).sdLast = s.sdLast := rfl
@[simp] theorem State.setChute_sdOut (n : Nat) (x : Chute) : (s.setChute n x).sdOut = s.sdOut := rfl
@[simp] theorem State.setChute_pwr (n : Nat) (x : Chute) : (s.setChute n x).pwr = s.pwr := rfl
@[simp] theorem State.setChute_cal (n : Nat) (x : Chute) : (s.setChute n x).cal = s.cal := rfl
@[simp] theorem State.setChute_otp (n : Nat) (x : Chute) : (s.setChute n x).otp = s.otp := rfl
@[simp] theorem State.setChute_cel (n : Nat) (x : Chute) : (s.setChute n x).cel = s.cel := rfl
@[simp] theorem State.setChute_ctxs (n : Nat) (x : Chute) : (s.setChute n x).ctxs = s.ctxs := rfl
@[simp] theorem State.setChute_netTags (n : Nat) (x : Chute) : (s.setChute n x).netTags = s.netTags := rfl

/-! ### setSrc -/

@[simp] theorem State.setSrc_pending (n : Nat) (x : Src) : (s.setSrc n x).pending = s.pending := rfl
@[simp] theorem State.setSrc_htick (n : Nat) (x : Src) : (s.setSrc n x).htick = s.htick := rfl
@[simp] theorem State.setSrc_freeCtr (n : Nat) (x : Src) : (s.setSrc n x).freeCtr = s.freeCtr := rfl
@[simp] theorem State.setSrc_regs (n : Nat) (x : Src) : (s.setSrc n x).regs = s.regs := rfl
@[simp] theorem State.setSrc_active (n : Nat) (x : Src) : (s.setSrc n x).active = s.active := rfl
@[simp] theorem State.setSrc_tickSet (n : Nat) (x : Src) : (s.setSrc n x).tickSet = s.tickSet := rfl
@[simp] theorem State.setSrc_tickOld (n : Nat) (x : Src) : (s.setSrc n x).tickOld = s.tickOld := rfl
@[simp] theorem State.setSrc_tickSwp (n : Nat) (x : Src) : (s.setSrc n x).tickSwp = s.tickSwp := rfl
@[simp] theorem State.setSrc_tickInc (n : Nat) (x : Src) : (s.setSrc n x).tickInc = s.tickInc := rfl
@[simp] theorem State.setSrc_holds (n : Nat) (x : Src) : (s.setSrc n x).holds = s.holds := rfl
@[simp] theorem State.setSrc_replies (n : Nat) (x : Src) : (s.setSrc n x).replies = s.replies := rfl
@[simp] theorem State.setSrc_launched (n : Nat) (x : Src) : (s.setSrc n x).launched = s.launched := rfl
@[simp] theorem State.setSrc_reports (n : Nat) (x : Src) : (s.setSrc n x).reports = s.reports := rfl
@[simp] theorem State.setSrc_pins (n : Nat) (x : Src) : (s.setSrc n x).pins = s.pins := rfl
@[simp] theorem State.setSrc_ctl (n : Nat) (x : Src) : (s.setSrc n x).ctl = s.ctl := rfl
@[simp] theorem State.setSrc_gpg (n : Nat) (x : Src) : (s.setSrc n x).gpg = s.gpg := rfl
@[simp] theorem State.setSrc_snaps (n : Nat) (x : Src) : (s.setSrc n x).snaps = s.snaps := rfl
@[simp] theorem State.setSrc_supplyOut (n : Nat) (x : Src) : (s.setSrc n x).supplyOut = s.supplyOut := rfl
@[simp] theorem State.setSrc_loop (n : Nat) (x : Src) : (s.setSrc n x).loop = s.loop := rfl
@[simp] theorem State.setSrc_tiles (n : Nat) (x : Src) : (s.setSrc n x).tiles = s.tiles := rfl
@[simp] theorem State.setSrc_trk (n : Nat) (x : Src) : (s.setSrc n x).trk = s.trk := rfl
@[simp] theorem State.setSrc_meas (n : Nat) (x : Src) : (s.setSrc n x).meas = s.meas := rfl
@[simp] theorem State.setSrc_rng (n : Nat) (x : Src) : (s.setSrc n x).rng = s.rng := rfl
@[simp] theorem State.setSrc_mon (n : Nat) (x : Src) : (s.setSrc n x).mon = s.mon := rfl
@[simp] theorem State.setSrc_link (n : Nat) (x : Src) : (s.setSrc n x).link = s.link := rfl
@[simp] theorem State.setSrc_chcal (n : Nat) (x : Src) : (s.setSrc n x).chcal = s.chcal := rfl
@[simp] theorem State.setSrc_mach (n : Nat) (x : Src) : (s.setSrc n x).mach = s.mach := rfl
@[simp] theorem State.setSrc_tod (n : Nat) (x : Src) : (s.setSrc n x).tod = s.tod := rfl
@[simp] theorem State.setSrc_mains (n : Nat) (x : Src) : (s.setSrc n x).mains = s.mains := rfl
@[simp] theorem State.setSrc_alarms (n : Nat) (x : Src) : (s.setSrc n x).alarms = s.alarms := rfl
@[simp] theorem State.setSrc_almOld (n : Nat) (x : Src) : (s.setSrc n x).almOld = s.almOld := rfl
@[simp] theorem State.setSrc_pan (n : Nat) (x : Src) : (s.setSrc n x).pan = s.pan := rfl
@[simp] theorem State.setSrc_poison (n : Nat) (x : Src) : (s.setSrc n x).poison = s.poison := rfl
@[simp] theorem State.setSrc_banks (n : Nat) (x : Src) : (s.setSrc n x).banks = s.banks := rfl
@[simp] theorem State.setSrc_borrow (n : Nat) (x : Src) : (s.setSrc n x).borrow = s.borrow := rfl
@[simp] theorem State.setSrc_chutes (n : Nat) (x : Src) : (s.setSrc n x).chutes = s.chutes := rfl
@[simp] theorem State.setSrc_srcs (n : Nat) (x : Src) : (s.setSrc n x).srcs = Tbl.put s.srcs n x := rfl
@[simp] theorem State.setSrc_pendReps (n : Nat) (x : Src) : (s.setSrc n x).pendReps = s.pendReps := rfl
@[simp] theorem State.setSrc_hrtQueue (n : Nat) (x : Src) : (s.setSrc n x).hrtQueue = s.hrtQueue := rfl
@[simp] theorem State.setSrc_fences (n : Nat) (x : Src) : (s.setSrc n x).fences = s.fences := rfl
@[simp] theorem State.setSrc_fencedUnits (n : Nat) (x : Src) : (s.setSrc n x).fencedUnits = s.fencedUnits := rfl
@[simp] theorem State.setSrc_safeReqs (n : Nat) (x : Src) : (s.setSrc n x).safeReqs = s.safeReqs := rfl
@[simp] theorem State.setSrc_found (n : Nat) (x : Src) : (s.setSrc n x).found = s.found := rfl
@[simp] theorem State.setSrc_cfg (n : Nat) (x : Src) : (s.setSrc n x).cfg = s.cfg := rfl
@[simp] theorem State.setSrc_fuses (n : Nat) (x : Src) : (s.setSrc n x).fuses = s.fuses := rfl
@[simp] theorem State.setSrc_panOps (n : Nat) (x : Src) : (s.setSrc n x).panOps = s.panOps := rfl
@[simp] theorem State.setSrc_hwy (n : Nat) (x : Src) : (s.setSrc n x).hwy = s.hwy := rfl
@[simp] theorem State.setSrc_hwyTi (n : Nat) (x : Src) : (s.setSrc n x).hwyTi = s.hwyTi := rfl
@[simp] theorem State.setSrc_engs (n : Nat) (x : Src) : (s.setSrc n x).engs = s.engs := rfl
@[simp] theorem State.setSrc_stdLoads (n : Nat) (x : Src) : (s.setSrc n x).stdLoads = s.stdLoads := rfl
@[simp] theorem State.setSrc_net (n : Nat) (x : Src) : (s.setSrc n x).net = s.net := rfl
@[simp] theorem State.setSrc_kpr (n : Nat) (x : Src) : (s.setSrc n x).kpr = s.kpr := rfl
@[simp] theorem State.setSrc_sdLast (n : Nat) (x : Src) : (s.setSrc n x).sdLast = s.sdLast := rfl
@[simp] theorem State.setSrc_sdOut (n : Nat) (x : Src) : (s.setSrc n x).sdOut = s.sdOut := rfl
@[simp] theorem State.setSrc_pwr (n : Nat) (x : Src) : (s.setSrc n x).pwr = s.pwr := rfl
@[simp] theorem State.setSrc_cal (n : Nat) (x : Src) : (s.setSrc n x).cal = s.cal := rfl
@[simp] theorem State.setSrc_otp (n : Nat) (x : Src) : (s.setSrc n x).otp = s.otp := rfl
@[simp] theorem State.setSrc_cel (n : Nat) (x : Src) : (s.setSrc n x).cel = s.cel := rfl
@[simp] theorem State.setSrc_ctxs (n : Nat) (x : Src) : (s.setSrc n x).ctxs = s.ctxs := rfl
@[simp] theorem State.setSrc_netTags (n : Nat) (x : Src) : (s.setSrc n x).netTags = s.netTags := rfl

/-! ### setHw -/

@[simp] theorem State.setHw_pending (n : Nat) (x : HwyCh) : (s.setHw n x).pending = s.pending := rfl
@[simp] theorem State.setHw_htick (n : Nat) (x : HwyCh) : (s.setHw n x).htick = s.htick := rfl
@[simp] theorem State.setHw_freeCtr (n : Nat) (x : HwyCh) : (s.setHw n x).freeCtr = s.freeCtr := rfl
@[simp] theorem State.setHw_regs (n : Nat) (x : HwyCh) : (s.setHw n x).regs = s.regs := rfl
@[simp] theorem State.setHw_active (n : Nat) (x : HwyCh) : (s.setHw n x).active = s.active := rfl
@[simp] theorem State.setHw_tickSet (n : Nat) (x : HwyCh) : (s.setHw n x).tickSet = s.tickSet := rfl
@[simp] theorem State.setHw_tickOld (n : Nat) (x : HwyCh) : (s.setHw n x).tickOld = s.tickOld := rfl
@[simp] theorem State.setHw_tickSwp (n : Nat) (x : HwyCh) : (s.setHw n x).tickSwp = s.tickSwp := rfl
@[simp] theorem State.setHw_tickInc (n : Nat) (x : HwyCh) : (s.setHw n x).tickInc = s.tickInc := rfl
@[simp] theorem State.setHw_holds (n : Nat) (x : HwyCh) : (s.setHw n x).holds = s.holds := rfl
@[simp] theorem State.setHw_replies (n : Nat) (x : HwyCh) : (s.setHw n x).replies = s.replies := rfl
@[simp] theorem State.setHw_launched (n : Nat) (x : HwyCh) : (s.setHw n x).launched = s.launched := rfl
@[simp] theorem State.setHw_reports (n : Nat) (x : HwyCh) : (s.setHw n x).reports = s.reports := rfl
@[simp] theorem State.setHw_pins (n : Nat) (x : HwyCh) : (s.setHw n x).pins = s.pins := rfl
@[simp] theorem State.setHw_ctl (n : Nat) (x : HwyCh) : (s.setHw n x).ctl = s.ctl := rfl
@[simp] theorem State.setHw_gpg (n : Nat) (x : HwyCh) : (s.setHw n x).gpg = s.gpg := rfl
@[simp] theorem State.setHw_snaps (n : Nat) (x : HwyCh) : (s.setHw n x).snaps = s.snaps := rfl
@[simp] theorem State.setHw_supplyOut (n : Nat) (x : HwyCh) : (s.setHw n x).supplyOut = s.supplyOut := rfl
@[simp] theorem State.setHw_loop (n : Nat) (x : HwyCh) : (s.setHw n x).loop = s.loop := rfl
@[simp] theorem State.setHw_tiles (n : Nat) (x : HwyCh) : (s.setHw n x).tiles = s.tiles := rfl
@[simp] theorem State.setHw_trk (n : Nat) (x : HwyCh) : (s.setHw n x).trk = s.trk := rfl
@[simp] theorem State.setHw_meas (n : Nat) (x : HwyCh) : (s.setHw n x).meas = s.meas := rfl
@[simp] theorem State.setHw_rng (n : Nat) (x : HwyCh) : (s.setHw n x).rng = s.rng := rfl
@[simp] theorem State.setHw_mon (n : Nat) (x : HwyCh) : (s.setHw n x).mon = s.mon := rfl
@[simp] theorem State.setHw_link (n : Nat) (x : HwyCh) : (s.setHw n x).link = s.link := rfl
@[simp] theorem State.setHw_chcal (n : Nat) (x : HwyCh) : (s.setHw n x).chcal = s.chcal := rfl
@[simp] theorem State.setHw_mach (n : Nat) (x : HwyCh) : (s.setHw n x).mach = s.mach := rfl
@[simp] theorem State.setHw_tod (n : Nat) (x : HwyCh) : (s.setHw n x).tod = s.tod := rfl
@[simp] theorem State.setHw_mains (n : Nat) (x : HwyCh) : (s.setHw n x).mains = s.mains := rfl
@[simp] theorem State.setHw_alarms (n : Nat) (x : HwyCh) : (s.setHw n x).alarms = s.alarms := rfl
@[simp] theorem State.setHw_almOld (n : Nat) (x : HwyCh) : (s.setHw n x).almOld = s.almOld := rfl
@[simp] theorem State.setHw_pan (n : Nat) (x : HwyCh) : (s.setHw n x).pan = s.pan := rfl
@[simp] theorem State.setHw_poison (n : Nat) (x : HwyCh) : (s.setHw n x).poison = s.poison := rfl
@[simp] theorem State.setHw_banks (n : Nat) (x : HwyCh) : (s.setHw n x).banks = s.banks := rfl
@[simp] theorem State.setHw_borrow (n : Nat) (x : HwyCh) : (s.setHw n x).borrow = s.borrow := rfl
@[simp] theorem State.setHw_chutes (n : Nat) (x : HwyCh) : (s.setHw n x).chutes = s.chutes := rfl
@[simp] theorem State.setHw_srcs (n : Nat) (x : HwyCh) : (s.setHw n x).srcs = s.srcs := rfl
@[simp] theorem State.setHw_pendReps (n : Nat) (x : HwyCh) : (s.setHw n x).pendReps = s.pendReps := rfl
@[simp] theorem State.setHw_hrtQueue (n : Nat) (x : HwyCh) : (s.setHw n x).hrtQueue = s.hrtQueue := rfl
@[simp] theorem State.setHw_fences (n : Nat) (x : HwyCh) : (s.setHw n x).fences = s.fences := rfl
@[simp] theorem State.setHw_fencedUnits (n : Nat) (x : HwyCh) : (s.setHw n x).fencedUnits = s.fencedUnits := rfl
@[simp] theorem State.setHw_safeReqs (n : Nat) (x : HwyCh) : (s.setHw n x).safeReqs = s.safeReqs := rfl
@[simp] theorem State.setHw_found (n : Nat) (x : HwyCh) : (s.setHw n x).found = s.found := rfl
@[simp] theorem State.setHw_cfg (n : Nat) (x : HwyCh) : (s.setHw n x).cfg = s.cfg := rfl
@[simp] theorem State.setHw_fuses (n : Nat) (x : HwyCh) : (s.setHw n x).fuses = s.fuses := rfl
@[simp] theorem State.setHw_panOps (n : Nat) (x : HwyCh) : (s.setHw n x).panOps = s.panOps := rfl
@[simp] theorem State.setHw_hwy (n : Nat) (x : HwyCh) : (s.setHw n x).hwy = Tbl.put s.hwy n x := rfl
@[simp] theorem State.setHw_hwyTi (n : Nat) (x : HwyCh) : (s.setHw n x).hwyTi = s.hwyTi := rfl
@[simp] theorem State.setHw_engs (n : Nat) (x : HwyCh) : (s.setHw n x).engs = s.engs := rfl
@[simp] theorem State.setHw_stdLoads (n : Nat) (x : HwyCh) : (s.setHw n x).stdLoads = s.stdLoads := rfl
@[simp] theorem State.setHw_net (n : Nat) (x : HwyCh) : (s.setHw n x).net = s.net := rfl
@[simp] theorem State.setHw_kpr (n : Nat) (x : HwyCh) : (s.setHw n x).kpr = s.kpr := rfl
@[simp] theorem State.setHw_sdLast (n : Nat) (x : HwyCh) : (s.setHw n x).sdLast = s.sdLast := rfl
@[simp] theorem State.setHw_sdOut (n : Nat) (x : HwyCh) : (s.setHw n x).sdOut = s.sdOut := rfl
@[simp] theorem State.setHw_pwr (n : Nat) (x : HwyCh) : (s.setHw n x).pwr = s.pwr := rfl
@[simp] theorem State.setHw_cal (n : Nat) (x : HwyCh) : (s.setHw n x).cal = s.cal := rfl
@[simp] theorem State.setHw_otp (n : Nat) (x : HwyCh) : (s.setHw n x).otp = s.otp := rfl
@[simp] theorem State.setHw_cel (n : Nat) (x : HwyCh) : (s.setHw n x).cel = s.cel := rfl
@[simp] theorem State.setHw_ctxs (n : Nat) (x : HwyCh) : (s.setHw n x).ctxs = s.ctxs := rfl
@[simp] theorem State.setHw_netTags (n : Nat) (x : HwyCh) : (s.setHw n x).netTags = s.netTags := rfl

/-! ### setTi -/

@[simp] theorem State.setTi_pending (n : Nat) (x : HwyTi) : (s.setTi n x).pending = s.pending := rfl
@[simp] theorem State.setTi_htick (n : Nat) (x : HwyTi) : (s.setTi n x).htick = s.htick := rfl
@[simp] theorem State.setTi_freeCtr (n : Nat) (x : HwyTi) : (s.setTi n x).freeCtr = s.freeCtr := rfl
@[simp] theorem State.setTi_regs (n : Nat) (x : HwyTi) : (s.setTi n x).regs = s.regs := rfl
@[simp] theorem State.setTi_active (n : Nat) (x : HwyTi) : (s.setTi n x).active = s.active := rfl
@[simp] theorem State.setTi_tickSet (n : Nat) (x : HwyTi) : (s.setTi n x).tickSet = s.tickSet := rfl
@[simp] theorem State.setTi_tickOld (n : Nat) (x : HwyTi) : (s.setTi n x).tickOld = s.tickOld := rfl
@[simp] theorem State.setTi_tickSwp (n : Nat) (x : HwyTi) : (s.setTi n x).tickSwp = s.tickSwp := rfl
@[simp] theorem State.setTi_tickInc (n : Nat) (x : HwyTi) : (s.setTi n x).tickInc = s.tickInc := rfl
@[simp] theorem State.setTi_holds (n : Nat) (x : HwyTi) : (s.setTi n x).holds = s.holds := rfl
@[simp] theorem State.setTi_replies (n : Nat) (x : HwyTi) : (s.setTi n x).replies = s.replies := rfl
@[simp] theorem State.setTi_launched (n : Nat) (x : HwyTi) : (s.setTi n x).launched = s.launched := rfl
@[simp] theorem State.setTi_reports (n : Nat) (x : HwyTi) : (s.setTi n x).reports = s.reports := rfl
@[simp] theorem State.setTi_pins (n : Nat) (x : HwyTi) : (s.setTi n x).pins = s.pins := rfl
@[simp] theorem State.setTi_ctl (n : Nat) (x : HwyTi) : (s.setTi n x).ctl = s.ctl := rfl
@[simp] theorem State.setTi_gpg (n : Nat) (x : HwyTi) : (s.setTi n x).gpg = s.gpg := rfl
@[simp] theorem State.setTi_snaps (n : Nat) (x : HwyTi) : (s.setTi n x).snaps = s.snaps := rfl
@[simp] theorem State.setTi_supplyOut (n : Nat) (x : HwyTi) : (s.setTi n x).supplyOut = s.supplyOut := rfl
@[simp] theorem State.setTi_loop (n : Nat) (x : HwyTi) : (s.setTi n x).loop = s.loop := rfl
@[simp] theorem State.setTi_tiles (n : Nat) (x : HwyTi) : (s.setTi n x).tiles = s.tiles := rfl
@[simp] theorem State.setTi_trk (n : Nat) (x : HwyTi) : (s.setTi n x).trk = s.trk := rfl
@[simp] theorem State.setTi_meas (n : Nat) (x : HwyTi) : (s.setTi n x).meas = s.meas := rfl
@[simp] theorem State.setTi_rng (n : Nat) (x : HwyTi) : (s.setTi n x).rng = s.rng := rfl
@[simp] theorem State.setTi_mon (n : Nat) (x : HwyTi) : (s.setTi n x).mon = s.mon := rfl
@[simp] theorem State.setTi_link (n : Nat) (x : HwyTi) : (s.setTi n x).link = s.link := rfl
@[simp] theorem State.setTi_chcal (n : Nat) (x : HwyTi) : (s.setTi n x).chcal = s.chcal := rfl
@[simp] theorem State.setTi_mach (n : Nat) (x : HwyTi) : (s.setTi n x).mach = s.mach := rfl
@[simp] theorem State.setTi_tod (n : Nat) (x : HwyTi) : (s.setTi n x).tod = s.tod := rfl
@[simp] theorem State.setTi_mains (n : Nat) (x : HwyTi) : (s.setTi n x).mains = s.mains := rfl
@[simp] theorem State.setTi_alarms (n : Nat) (x : HwyTi) : (s.setTi n x).alarms = s.alarms := rfl
@[simp] theorem State.setTi_almOld (n : Nat) (x : HwyTi) : (s.setTi n x).almOld = s.almOld := rfl
@[simp] theorem State.setTi_pan (n : Nat) (x : HwyTi) : (s.setTi n x).pan = s.pan := rfl
@[simp] theorem State.setTi_poison (n : Nat) (x : HwyTi) : (s.setTi n x).poison = s.poison := rfl
@[simp] theorem State.setTi_banks (n : Nat) (x : HwyTi) : (s.setTi n x).banks = s.banks := rfl
@[simp] theorem State.setTi_borrow (n : Nat) (x : HwyTi) : (s.setTi n x).borrow = s.borrow := rfl
@[simp] theorem State.setTi_chutes (n : Nat) (x : HwyTi) : (s.setTi n x).chutes = s.chutes := rfl
@[simp] theorem State.setTi_srcs (n : Nat) (x : HwyTi) : (s.setTi n x).srcs = s.srcs := rfl
@[simp] theorem State.setTi_pendReps (n : Nat) (x : HwyTi) : (s.setTi n x).pendReps = s.pendReps := rfl
@[simp] theorem State.setTi_hrtQueue (n : Nat) (x : HwyTi) : (s.setTi n x).hrtQueue = s.hrtQueue := rfl
@[simp] theorem State.setTi_fences (n : Nat) (x : HwyTi) : (s.setTi n x).fences = s.fences := rfl
@[simp] theorem State.setTi_fencedUnits (n : Nat) (x : HwyTi) : (s.setTi n x).fencedUnits = s.fencedUnits := rfl
@[simp] theorem State.setTi_safeReqs (n : Nat) (x : HwyTi) : (s.setTi n x).safeReqs = s.safeReqs := rfl
@[simp] theorem State.setTi_found (n : Nat) (x : HwyTi) : (s.setTi n x).found = s.found := rfl
@[simp] theorem State.setTi_cfg (n : Nat) (x : HwyTi) : (s.setTi n x).cfg = s.cfg := rfl
@[simp] theorem State.setTi_fuses (n : Nat) (x : HwyTi) : (s.setTi n x).fuses = s.fuses := rfl
@[simp] theorem State.setTi_panOps (n : Nat) (x : HwyTi) : (s.setTi n x).panOps = s.panOps := rfl
@[simp] theorem State.setTi_hwy (n : Nat) (x : HwyTi) : (s.setTi n x).hwy = s.hwy := rfl
@[simp] theorem State.setTi_hwyTi (n : Nat) (x : HwyTi) : (s.setTi n x).hwyTi = Tbl.put s.hwyTi n x := rfl
@[simp] theorem State.setTi_engs (n : Nat) (x : HwyTi) : (s.setTi n x).engs = s.engs := rfl
@[simp] theorem State.setTi_stdLoads (n : Nat) (x : HwyTi) : (s.setTi n x).stdLoads = s.stdLoads := rfl
@[simp] theorem State.setTi_net (n : Nat) (x : HwyTi) : (s.setTi n x).net = s.net := rfl
@[simp] theorem State.setTi_kpr (n : Nat) (x : HwyTi) : (s.setTi n x).kpr = s.kpr := rfl
@[simp] theorem State.setTi_sdLast (n : Nat) (x : HwyTi) : (s.setTi n x).sdLast = s.sdLast := rfl
@[simp] theorem State.setTi_sdOut (n : Nat) (x : HwyTi) : (s.setTi n x).sdOut = s.sdOut := rfl
@[simp] theorem State.setTi_pwr (n : Nat) (x : HwyTi) : (s.setTi n x).pwr = s.pwr := rfl
@[simp] theorem State.setTi_cal (n : Nat) (x : HwyTi) : (s.setTi n x).cal = s.cal := rfl
@[simp] theorem State.setTi_otp (n : Nat) (x : HwyTi) : (s.setTi n x).otp = s.otp := rfl
@[simp] theorem State.setTi_cel (n : Nat) (x : HwyTi) : (s.setTi n x).cel = s.cel := rfl
@[simp] theorem State.setTi_ctxs (n : Nat) (x : HwyTi) : (s.setTi n x).ctxs = s.ctxs := rfl
@[simp] theorem State.setTi_netTags (n : Nat) (x : HwyTi) : (s.setTi n x).netTags = s.netTags := rfl

/-! ### setHolds -/

@[simp] theorem State.setHolds_pending (f : Holds → Holds) : (s.setHolds f).pending = s.pending := rfl
@[simp] theorem State.setHolds_htick (f : Holds → Holds) : (s.setHolds f).htick = s.htick := rfl
@[simp] theorem State.setHolds_freeCtr (f : Holds → Holds) : (s.setHolds f).freeCtr = s.freeCtr := rfl
@[simp] theorem State.setHolds_regs (f : Holds → Holds) : (s.setHolds f).regs = s.regs := rfl
@[simp] theorem State.setHolds_active (f : Holds → Holds) : (s.setHolds f).active = s.active := rfl
@[simp] theorem State.setHolds_tickSet (f : Holds → Holds) : (s.setHolds f).tickSet = s.tickSet := rfl
@[simp] theorem State.setHolds_tickOld (f : Holds → Holds) : (s.setHolds f).tickOld = s.tickOld := rfl
@[simp] theorem State.setHolds_tickSwp (f : Holds → Holds) : (s.setHolds f).tickSwp = s.tickSwp := rfl
@[simp] theorem State.setHolds_tickInc (f : Holds → Holds) : (s.setHolds f).tickInc = s.tickInc := rfl
@[simp] theorem State.setHolds_holds (f : Holds → Holds) : (s.setHolds f).holds = f s.holds := rfl
@[simp] theorem State.setHolds_replies (f : Holds → Holds) : (s.setHolds f).replies = s.replies := rfl
@[simp] theorem State.setHolds_launched (f : Holds → Holds) : (s.setHolds f).launched = s.launched := rfl
@[simp] theorem State.setHolds_reports (f : Holds → Holds) : (s.setHolds f).reports = s.reports := rfl
@[simp] theorem State.setHolds_pins (f : Holds → Holds) : (s.setHolds f).pins = s.pins := rfl
@[simp] theorem State.setHolds_ctl (f : Holds → Holds) : (s.setHolds f).ctl = s.ctl := rfl
@[simp] theorem State.setHolds_gpg (f : Holds → Holds) : (s.setHolds f).gpg = s.gpg := rfl
@[simp] theorem State.setHolds_snaps (f : Holds → Holds) : (s.setHolds f).snaps = s.snaps := rfl
@[simp] theorem State.setHolds_supplyOut (f : Holds → Holds) : (s.setHolds f).supplyOut = s.supplyOut := rfl
@[simp] theorem State.setHolds_loop (f : Holds → Holds) : (s.setHolds f).loop = s.loop := rfl
@[simp] theorem State.setHolds_tiles (f : Holds → Holds) : (s.setHolds f).tiles = s.tiles := rfl
@[simp] theorem State.setHolds_trk (f : Holds → Holds) : (s.setHolds f).trk = s.trk := rfl
@[simp] theorem State.setHolds_meas (f : Holds → Holds) : (s.setHolds f).meas = s.meas := rfl
@[simp] theorem State.setHolds_rng (f : Holds → Holds) : (s.setHolds f).rng = s.rng := rfl
@[simp] theorem State.setHolds_mon (f : Holds → Holds) : (s.setHolds f).mon = s.mon := rfl
@[simp] theorem State.setHolds_link (f : Holds → Holds) : (s.setHolds f).link = s.link := rfl
@[simp] theorem State.setHolds_chcal (f : Holds → Holds) : (s.setHolds f).chcal = s.chcal := rfl
@[simp] theorem State.setHolds_mach (f : Holds → Holds) : (s.setHolds f).mach = s.mach := rfl
@[simp] theorem State.setHolds_tod (f : Holds → Holds) : (s.setHolds f).tod = s.tod := rfl
@[simp] theorem State.setHolds_mains (f : Holds → Holds) : (s.setHolds f).mains = s.mains := rfl
@[simp] theorem State.setHolds_alarms (f : Holds → Holds) : (s.setHolds f).alarms = s.alarms := rfl
@[simp] theorem State.setHolds_almOld (f : Holds → Holds) : (s.setHolds f).almOld = s.almOld := rfl
@[simp] theorem State.setHolds_pan (f : Holds → Holds) : (s.setHolds f).pan = s.pan := rfl
@[simp] theorem State.setHolds_poison (f : Holds → Holds) : (s.setHolds f).poison = s.poison := rfl
@[simp] theorem State.setHolds_banks (f : Holds → Holds) : (s.setHolds f).banks = s.banks := rfl
@[simp] theorem State.setHolds_borrow (f : Holds → Holds) : (s.setHolds f).borrow = s.borrow := rfl
@[simp] theorem State.setHolds_chutes (f : Holds → Holds) : (s.setHolds f).chutes = s.chutes := rfl
@[simp] theorem State.setHolds_srcs (f : Holds → Holds) : (s.setHolds f).srcs = s.srcs := rfl
@[simp] theorem State.setHolds_pendReps (f : Holds → Holds) : (s.setHolds f).pendReps = s.pendReps := rfl
@[simp] theorem State.setHolds_hrtQueue (f : Holds → Holds) : (s.setHolds f).hrtQueue = s.hrtQueue := rfl
@[simp] theorem State.setHolds_fences (f : Holds → Holds) : (s.setHolds f).fences = s.fences := rfl
@[simp] theorem State.setHolds_fencedUnits (f : Holds → Holds) : (s.setHolds f).fencedUnits = s.fencedUnits := rfl
@[simp] theorem State.setHolds_safeReqs (f : Holds → Holds) : (s.setHolds f).safeReqs = s.safeReqs := rfl
@[simp] theorem State.setHolds_found (f : Holds → Holds) : (s.setHolds f).found = s.found := rfl
@[simp] theorem State.setHolds_cfg (f : Holds → Holds) : (s.setHolds f).cfg = s.cfg := rfl
@[simp] theorem State.setHolds_fuses (f : Holds → Holds) : (s.setHolds f).fuses = s.fuses := rfl
@[simp] theorem State.setHolds_panOps (f : Holds → Holds) : (s.setHolds f).panOps = s.panOps := rfl
@[simp] theorem State.setHolds_hwy (f : Holds → Holds) : (s.setHolds f).hwy = s.hwy := rfl
@[simp] theorem State.setHolds_hwyTi (f : Holds → Holds) : (s.setHolds f).hwyTi = s.hwyTi := rfl
@[simp] theorem State.setHolds_engs (f : Holds → Holds) : (s.setHolds f).engs = s.engs := rfl
@[simp] theorem State.setHolds_stdLoads (f : Holds → Holds) : (s.setHolds f).stdLoads = s.stdLoads := rfl
@[simp] theorem State.setHolds_net (f : Holds → Holds) : (s.setHolds f).net = s.net := rfl
@[simp] theorem State.setHolds_kpr (f : Holds → Holds) : (s.setHolds f).kpr = s.kpr := rfl
@[simp] theorem State.setHolds_sdLast (f : Holds → Holds) : (s.setHolds f).sdLast = s.sdLast := rfl
@[simp] theorem State.setHolds_sdOut (f : Holds → Holds) : (s.setHolds f).sdOut = s.sdOut := rfl
@[simp] theorem State.setHolds_pwr (f : Holds → Holds) : (s.setHolds f).pwr = s.pwr := rfl
@[simp] theorem State.setHolds_cal (f : Holds → Holds) : (s.setHolds f).cal = s.cal := rfl
@[simp] theorem State.setHolds_otp (f : Holds → Holds) : (s.setHolds f).otp = s.otp := rfl
@[simp] theorem State.setHolds_cel (f : Holds → Holds) : (s.setHolds f).cel = s.cel := rfl
@[simp] theorem State.setHolds_ctxs (f : Holds → Holds) : (s.setHolds f).ctxs = s.ctxs := rfl
@[simp] theorem State.setHolds_netTags (f : Holds → Holds) : (s.setHolds f).netTags = s.netTags := rfl

/-! ### reply -/

@[simp] theorem State.reply_pending (p : Path) (r : Reply) : (s.reply p r).pending = s.pending := rfl
@[simp] theorem State.reply_htick (p : Path) (r : Reply) : (s.reply p r).htick = s.htick := rfl
@[simp] theorem State.reply_freeCtr (p : Path) (r : Reply) : (s.reply p r).freeCtr = s.freeCtr := rfl
@[simp] theorem State.reply_regs (p : Path) (r : Reply) : (s.reply p r).regs = s.regs := rfl
@[simp] theorem State.reply_active (p : Path) (r : Reply) : (s.reply p r).active = s.active := rfl
@[simp] theorem State.reply_tickSet (p : Path) (r : Reply) : (s.reply p r).tickSet = s.tickSet := rfl
@[simp] theorem State.reply_tickOld (p : Path) (r : Reply) : (s.reply p r).tickOld = s.tickOld := rfl
@[simp] theorem State.reply_tickSwp (p : Path) (r : Reply) : (s.reply p r).tickSwp = s.tickSwp := rfl
@[simp] theorem State.reply_tickInc (p : Path) (r : Reply) : (s.reply p r).tickInc = s.tickInc := rfl
@[simp] theorem State.reply_holds (p : Path) (r : Reply) : (s.reply p r).holds = s.holds := rfl
@[simp] theorem State.reply_replies (p : Path) (r : Reply) : (s.reply p r).replies = Tbl.put s.replies (Path.idx p) r := rfl
@[simp] theorem State.reply_launched (p : Path) (r : Reply) : (s.reply p r).launched = s.launched := rfl
@[simp] theorem State.reply_reports (p : Path) (r : Reply) : (s.reply p r).reports = s.reports := rfl
@[simp] theorem State.reply_pins (p : Path) (r : Reply) : (s.reply p r).pins = s.pins := rfl
@[simp] theorem State.reply_ctl (p : Path) (r : Reply) : (s.reply p r).ctl = s.ctl := rfl
@[simp] theorem State.reply_gpg (p : Path) (r : Reply) : (s.reply p r).gpg = s.gpg := rfl
@[simp] theorem State.reply_snaps (p : Path) (r : Reply) : (s.reply p r).snaps = s.snaps := rfl
@[simp] theorem State.reply_supplyOut (p : Path) (r : Reply) : (s.reply p r).supplyOut = s.supplyOut := rfl
@[simp] theorem State.reply_loop (p : Path) (r : Reply) : (s.reply p r).loop = s.loop := rfl
@[simp] theorem State.reply_tiles (p : Path) (r : Reply) : (s.reply p r).tiles = s.tiles := rfl
@[simp] theorem State.reply_trk (p : Path) (r : Reply) : (s.reply p r).trk = s.trk := rfl
@[simp] theorem State.reply_meas (p : Path) (r : Reply) : (s.reply p r).meas = s.meas := rfl
@[simp] theorem State.reply_rng (p : Path) (r : Reply) : (s.reply p r).rng = s.rng := rfl
@[simp] theorem State.reply_mon (p : Path) (r : Reply) : (s.reply p r).mon = s.mon := rfl
@[simp] theorem State.reply_link (p : Path) (r : Reply) : (s.reply p r).link = s.link := rfl
@[simp] theorem State.reply_chcal (p : Path) (r : Reply) : (s.reply p r).chcal = s.chcal := rfl
@[simp] theorem State.reply_mach (p : Path) (r : Reply) : (s.reply p r).mach = s.mach := rfl
@[simp] theorem State.reply_tod (p : Path) (r : Reply) : (s.reply p r).tod = s.tod := rfl
@[simp] theorem State.reply_mains (p : Path) (r : Reply) : (s.reply p r).mains = s.mains := rfl
@[simp] theorem State.reply_alarms (p : Path) (r : Reply) : (s.reply p r).alarms = s.alarms := rfl
@[simp] theorem State.reply_almOld (p : Path) (r : Reply) : (s.reply p r).almOld = s.almOld := rfl
@[simp] theorem State.reply_pan (p : Path) (r : Reply) : (s.reply p r).pan = s.pan := rfl
@[simp] theorem State.reply_poison (p : Path) (r : Reply) : (s.reply p r).poison = s.poison := rfl
@[simp] theorem State.reply_banks (p : Path) (r : Reply) : (s.reply p r).banks = s.banks := rfl
@[simp] theorem State.reply_borrow (p : Path) (r : Reply) : (s.reply p r).borrow = s.borrow := rfl
@[simp] theorem State.reply_chutes (p : Path) (r : Reply) : (s.reply p r).chutes = s.chutes := rfl
@[simp] theorem State.reply_srcs (p : Path) (r : Reply) : (s.reply p r).srcs = s.srcs := rfl
@[simp] theorem State.reply_pendReps (p : Path) (r : Reply) : (s.reply p r).pendReps = s.pendReps := rfl
@[simp] theorem State.reply_hrtQueue (p : Path) (r : Reply) : (s.reply p r).hrtQueue = s.hrtQueue := rfl
@[simp] theorem State.reply_fences (p : Path) (r : Reply) : (s.reply p r).fences = s.fences := rfl
@[simp] theorem State.reply_fencedUnits (p : Path) (r : Reply) : (s.reply p r).fencedUnits = s.fencedUnits := rfl
@[simp] theorem State.reply_safeReqs (p : Path) (r : Reply) : (s.reply p r).safeReqs = s.safeReqs := rfl
@[simp] theorem State.reply_found (p : Path) (r : Reply) : (s.reply p r).found = s.found := rfl
@[simp] theorem State.reply_cfg (p : Path) (r : Reply) : (s.reply p r).cfg = s.cfg := rfl
@[simp] theorem State.reply_fuses (p : Path) (r : Reply) : (s.reply p r).fuses = s.fuses := rfl
@[simp] theorem State.reply_panOps (p : Path) (r : Reply) : (s.reply p r).panOps = s.panOps := rfl
@[simp] theorem State.reply_hwy (p : Path) (r : Reply) : (s.reply p r).hwy = s.hwy := rfl
@[simp] theorem State.reply_hwyTi (p : Path) (r : Reply) : (s.reply p r).hwyTi = s.hwyTi := rfl
@[simp] theorem State.reply_engs (p : Path) (r : Reply) : (s.reply p r).engs = s.engs := rfl
@[simp] theorem State.reply_stdLoads (p : Path) (r : Reply) : (s.reply p r).stdLoads = s.stdLoads := rfl
@[simp] theorem State.reply_net (p : Path) (r : Reply) : (s.reply p r).net = s.net := rfl
@[simp] theorem State.reply_kpr (p : Path) (r : Reply) : (s.reply p r).kpr = s.kpr := rfl
@[simp] theorem State.reply_sdLast (p : Path) (r : Reply) : (s.reply p r).sdLast = s.sdLast := rfl
@[simp] theorem State.reply_sdOut (p : Path) (r : Reply) : (s.reply p r).sdOut = s.sdOut := rfl
@[simp] theorem State.reply_pwr (p : Path) (r : Reply) : (s.reply p r).pwr = s.pwr := rfl
@[simp] theorem State.reply_cal (p : Path) (r : Reply) : (s.reply p r).cal = s.cal := rfl
@[simp] theorem State.reply_otp (p : Path) (r : Reply) : (s.reply p r).otp = s.otp := rfl
@[simp] theorem State.reply_cel (p : Path) (r : Reply) : (s.reply p r).cel = s.cel := rfl
@[simp] theorem State.reply_ctxs (p : Path) (r : Reply) : (s.reply p r).ctxs = s.ctxs := rfl
@[simp] theorem State.reply_netTags (p : Path) (r : Reply) : (s.reply p r).netTags = s.netTags := rfl

/-! ### modCal -/

@[simp] theorem State.modCal_pending (f : Cal → Cal) : (s.modCal f).pending = s.pending := rfl
@[simp] theorem State.modCal_htick (f : Cal → Cal) : (s.modCal f).htick = s.htick := rfl
@[simp] theorem State.modCal_freeCtr (f : Cal → Cal) : (s.modCal f).freeCtr = s.freeCtr := rfl
@[simp] theorem State.modCal_regs (f : Cal → Cal) : (s.modCal f).regs = s.regs := rfl
@[simp] theorem State.modCal_active (f : Cal → Cal) : (s.modCal f).active = s.active := rfl
@[simp] theorem State.modCal_tickSet (f : Cal → Cal) : (s.modCal f).tickSet = s.tickSet := rfl
@[simp] theorem State.modCal_tickOld (f : Cal → Cal) : (s.modCal f).tickOld = s.tickOld := rfl
@[simp] theorem State.modCal_tickSwp (f : Cal → Cal) : (s.modCal f).tickSwp = s.tickSwp := rfl
@[simp] theorem State.modCal_tickInc (f : Cal → Cal) : (s.modCal f).tickInc = s.tickInc := rfl
@[simp] theorem State.modCal_holds (f : Cal → Cal) : (s.modCal f).holds = s.holds := rfl
@[simp] theorem State.modCal_replies (f : Cal → Cal) : (s.modCal f).replies = s.replies := rfl
@[simp] theorem State.modCal_launched (f : Cal → Cal) : (s.modCal f).launched = s.launched := rfl
@[simp] theorem State.modCal_reports (f : Cal → Cal) : (s.modCal f).reports = s.reports := rfl
@[simp] theorem State.modCal_pins (f : Cal → Cal) : (s.modCal f).pins = s.pins := rfl
@[simp] theorem State.modCal_ctl (f : Cal → Cal) : (s.modCal f).ctl = s.ctl := rfl
@[simp] theorem State.modCal_gpg (f : Cal → Cal) : (s.modCal f).gpg = s.gpg := rfl
@[simp] theorem State.modCal_snaps (f : Cal → Cal) : (s.modCal f).snaps = s.snaps := rfl
@[simp] theorem State.modCal_supplyOut (f : Cal → Cal) : (s.modCal f).supplyOut = s.supplyOut := rfl
@[simp] theorem State.modCal_loop (f : Cal → Cal) : (s.modCal f).loop = s.loop := rfl
@[simp] theorem State.modCal_tiles (f : Cal → Cal) : (s.modCal f).tiles = s.tiles := rfl
@[simp] theorem State.modCal_trk (f : Cal → Cal) : (s.modCal f).trk = s.trk := rfl
@[simp] theorem State.modCal_meas (f : Cal → Cal) : (s.modCal f).meas = s.meas := rfl
@[simp] theorem State.modCal_rng (f : Cal → Cal) : (s.modCal f).rng = s.rng := rfl
@[simp] theorem State.modCal_mon (f : Cal → Cal) : (s.modCal f).mon = s.mon := rfl
@[simp] theorem State.modCal_link (f : Cal → Cal) : (s.modCal f).link = s.link := rfl
@[simp] theorem State.modCal_chcal (f : Cal → Cal) : (s.modCal f).chcal = s.chcal := rfl
@[simp] theorem State.modCal_mach (f : Cal → Cal) : (s.modCal f).mach = s.mach := rfl
@[simp] theorem State.modCal_tod (f : Cal → Cal) : (s.modCal f).tod = s.tod := rfl
@[simp] theorem State.modCal_mains (f : Cal → Cal) : (s.modCal f).mains = s.mains := rfl
@[simp] theorem State.modCal_alarms (f : Cal → Cal) : (s.modCal f).alarms = s.alarms := rfl
@[simp] theorem State.modCal_almOld (f : Cal → Cal) : (s.modCal f).almOld = s.almOld := rfl
@[simp] theorem State.modCal_pan (f : Cal → Cal) : (s.modCal f).pan = s.pan := rfl
@[simp] theorem State.modCal_poison (f : Cal → Cal) : (s.modCal f).poison = s.poison := rfl
@[simp] theorem State.modCal_banks (f : Cal → Cal) : (s.modCal f).banks = s.banks := rfl
@[simp] theorem State.modCal_borrow (f : Cal → Cal) : (s.modCal f).borrow = s.borrow := rfl
@[simp] theorem State.modCal_chutes (f : Cal → Cal) : (s.modCal f).chutes = s.chutes := rfl
@[simp] theorem State.modCal_srcs (f : Cal → Cal) : (s.modCal f).srcs = s.srcs := rfl
@[simp] theorem State.modCal_pendReps (f : Cal → Cal) : (s.modCal f).pendReps = s.pendReps := rfl
@[simp] theorem State.modCal_hrtQueue (f : Cal → Cal) : (s.modCal f).hrtQueue = s.hrtQueue := rfl
@[simp] theorem State.modCal_fences (f : Cal → Cal) : (s.modCal f).fences = s.fences := rfl
@[simp] theorem State.modCal_fencedUnits (f : Cal → Cal) : (s.modCal f).fencedUnits = s.fencedUnits := rfl
@[simp] theorem State.modCal_safeReqs (f : Cal → Cal) : (s.modCal f).safeReqs = s.safeReqs := rfl
@[simp] theorem State.modCal_found (f : Cal → Cal) : (s.modCal f).found = s.found := rfl
@[simp] theorem State.modCal_cfg (f : Cal → Cal) : (s.modCal f).cfg = s.cfg := rfl
@[simp] theorem State.modCal_fuses (f : Cal → Cal) : (s.modCal f).fuses = s.fuses := rfl
@[simp] theorem State.modCal_panOps (f : Cal → Cal) : (s.modCal f).panOps = s.panOps := rfl
@[simp] theorem State.modCal_hwy (f : Cal → Cal) : (s.modCal f).hwy = s.hwy := rfl
@[simp] theorem State.modCal_hwyTi (f : Cal → Cal) : (s.modCal f).hwyTi = s.hwyTi := rfl
@[simp] theorem State.modCal_engs (f : Cal → Cal) : (s.modCal f).engs = s.engs := rfl
@[simp] theorem State.modCal_stdLoads (f : Cal → Cal) : (s.modCal f).stdLoads = s.stdLoads := rfl
@[simp] theorem State.modCal_net (f : Cal → Cal) : (s.modCal f).net = s.net := rfl
@[simp] theorem State.modCal_kpr (f : Cal → Cal) : (s.modCal f).kpr = s.kpr := rfl
@[simp] theorem State.modCal_sdLast (f : Cal → Cal) : (s.modCal f).sdLast = s.sdLast := rfl
@[simp] theorem State.modCal_sdOut (f : Cal → Cal) : (s.modCal f).sdOut = s.sdOut := rfl
@[simp] theorem State.modCal_pwr (f : Cal → Cal) : (s.modCal f).pwr = s.pwr := rfl
@[simp] theorem State.modCal_cal (f : Cal → Cal) : (s.modCal f).cal = f s.cal := rfl
@[simp] theorem State.modCal_otp (f : Cal → Cal) : (s.modCal f).otp = s.otp := rfl
@[simp] theorem State.modCal_cel (f : Cal → Cal) : (s.modCal f).cel = s.cel := rfl
@[simp] theorem State.modCal_ctxs (f : Cal → Cal) : (s.modCal f).ctxs = s.ctxs := rfl
@[simp] theorem State.modCal_netTags (f : Cal → Cal) : (s.modCal f).netTags = s.netTags := rfl

/-! ### modCel -/

@[simp] theorem State.modCel_pending (f : Cel → Cel) : (s.modCel f).pending = s.pending := rfl
@[simp] theorem State.modCel_htick (f : Cel → Cel) : (s.modCel f).htick = s.htick := rfl
@[simp] theorem State.modCel_freeCtr (f : Cel → Cel) : (s.modCel f).freeCtr = s.freeCtr := rfl
@[simp] theorem State.modCel_regs (f : Cel → Cel) : (s.modCel f).regs = s.regs := rfl
@[simp] theorem State.modCel_active (f : Cel → Cel) : (s.modCel f).active = s.active := rfl
@[simp] theorem State.modCel_tickSet (f : Cel → Cel) : (s.modCel f).tickSet = s.tickSet := rfl
@[simp] theorem State.modCel_tickOld (f : Cel → Cel) : (s.modCel f).tickOld = s.tickOld := rfl
@[simp] theorem State.modCel_tickSwp (f : Cel → Cel) : (s.modCel f).tickSwp = s.tickSwp := rfl
@[simp] theorem State.modCel_tickInc (f : Cel → Cel) : (s.modCel f).tickInc = s.tickInc := rfl
@[simp] theorem State.modCel_holds (f : Cel → Cel) : (s.modCel f).holds = s.holds := rfl
@[simp] theorem State.modCel_replies (f : Cel → Cel) : (s.modCel f).replies = s.replies := rfl
@[simp] theorem State.modCel_launched (f : Cel → Cel) : (s.modCel f).launched = s.launched := rfl
@[simp] theorem State.modCel_reports (f : Cel → Cel) : (s.modCel f).reports = s.reports := rfl
@[simp] theorem State.modCel_pins (f : Cel → Cel) : (s.modCel f).pins = s.pins := rfl
@[simp] theorem State.modCel_ctl (f : Cel → Cel) : (s.modCel f).ctl = s.ctl := rfl
@[simp] theorem State.modCel_gpg (f : Cel → Cel) : (s.modCel f).gpg = s.gpg := rfl
@[simp] theorem State.modCel_snaps (f : Cel → Cel) : (s.modCel f).snaps = s.snaps := rfl
@[simp] theorem State.modCel_supplyOut (f : Cel → Cel) : (s.modCel f).supplyOut = s.supplyOut := rfl
@[simp] theorem State.modCel_loop (f : Cel → Cel) : (s.modCel f).loop = s.loop := rfl
@[simp] theorem State.modCel_tiles (f : Cel → Cel) : (s.modCel f).tiles = s.tiles := rfl
@[simp] theorem State.modCel_trk (f : Cel → Cel) : (s.modCel f).trk = s.trk := rfl
@[simp] theorem State.modCel_meas (f : Cel → Cel) : (s.modCel f).meas = s.meas := rfl
@[simp] theorem State.modCel_rng (f : Cel → Cel) : (s.modCel f).rng = s.rng := rfl
@[simp] theorem State.modCel_mon (f : Cel → Cel) : (s.modCel f).mon = s.mon := rfl
@[simp] theorem State.modCel_link (f : Cel → Cel) : (s.modCel f).link = s.link := rfl
@[simp] theorem State.modCel_chcal (f : Cel → Cel) : (s.modCel f).chcal = s.chcal := rfl
@[simp] theorem State.modCel_mach (f : Cel → Cel) : (s.modCel f).mach = s.mach := rfl
@[simp] theorem State.modCel_tod (f : Cel → Cel) : (s.modCel f).tod = s.tod := rfl
@[simp] theorem State.modCel_mains (f : Cel → Cel) : (s.modCel f).mains = s.mains := rfl
@[simp] theorem State.modCel_alarms (f : Cel → Cel) : (s.modCel f).alarms = s.alarms := rfl
@[simp] theorem State.modCel_almOld (f : Cel → Cel) : (s.modCel f).almOld = s.almOld := rfl
@[simp] theorem State.modCel_pan (f : Cel → Cel) : (s.modCel f).pan = s.pan := rfl
@[simp] theorem State.modCel_poison (f : Cel → Cel) : (s.modCel f).poison = s.poison := rfl
@[simp] theorem State.modCel_banks (f : Cel → Cel) : (s.modCel f).banks = s.banks := rfl
@[simp] theorem State.modCel_borrow (f : Cel → Cel) : (s.modCel f).borrow = s.borrow := rfl
@[simp] theorem State.modCel_chutes (f : Cel → Cel) : (s.modCel f).chutes = s.chutes := rfl
@[simp] theorem State.modCel_srcs (f : Cel → Cel) : (s.modCel f).srcs = s.srcs := rfl
@[simp] theorem State.modCel_pendReps (f : Cel → Cel) : (s.modCel f).pendReps = s.pendReps := rfl
@[simp] theorem State.modCel_hrtQueue (f : Cel → Cel) : (s.modCel f).hrtQueue = s.hrtQueue := rfl
@[simp] theorem State.modCel_fences (f : Cel → Cel) : (s.modCel f).fences = s.fences := rfl
@[simp] theorem State.modCel_fencedUnits (f : Cel → Cel) : (s.modCel f).fencedUnits = s.fencedUnits := rfl
@[simp] theorem State.modCel_safeReqs (f : Cel → Cel) : (s.modCel f).safeReqs = s.safeReqs := rfl
@[simp] theorem State.modCel_found (f : Cel → Cel) : (s.modCel f).found = s.found := rfl
@[simp] theorem State.modCel_cfg (f : Cel → Cel) : (s.modCel f).cfg = s.cfg := rfl
@[simp] theorem State.modCel_fuses (f : Cel → Cel) : (s.modCel f).fuses = s.fuses := rfl
@[simp] theorem State.modCel_panOps (f : Cel → Cel) : (s.modCel f).panOps = s.panOps := rfl
@[simp] theorem State.modCel_hwy (f : Cel → Cel) : (s.modCel f).hwy = s.hwy := rfl
@[simp] theorem State.modCel_hwyTi (f : Cel → Cel) : (s.modCel f).hwyTi = s.hwyTi := rfl
@[simp] theorem State.modCel_engs (f : Cel → Cel) : (s.modCel f).engs = s.engs := rfl
@[simp] theorem State.modCel_stdLoads (f : Cel → Cel) : (s.modCel f).stdLoads = s.stdLoads := rfl
@[simp] theorem State.modCel_net (f : Cel → Cel) : (s.modCel f).net = s.net := rfl
@[simp] theorem State.modCel_kpr (f : Cel → Cel) : (s.modCel f).kpr = s.kpr := rfl
@[simp] theorem State.modCel_sdLast (f : Cel → Cel) : (s.modCel f).sdLast = s.sdLast := rfl
@[simp] theorem State.modCel_sdOut (f : Cel → Cel) : (s.modCel f).sdOut = s.sdOut := rfl
@[simp] theorem State.modCel_pwr (f : Cel → Cel) : (s.modCel f).pwr = s.pwr := rfl
@[simp] theorem State.modCel_cal (f : Cel → Cel) : (s.modCel f).cal = s.cal := rfl
@[simp] theorem State.modCel_otp (f : Cel → Cel) : (s.modCel f).otp = s.otp := rfl
@[simp] theorem State.modCel_cel (f : Cel → Cel) : (s.modCel f).cel = f s.cel := rfl
@[simp] theorem State.modCel_ctxs (f : Cel → Cel) : (s.modCel f).ctxs = s.ctxs := rfl
@[simp] theorem State.modCel_netTags (f : Cel → Cel) : (s.modCel f).netTags = s.netTags := rfl

/-! ### modCfg -/

@[simp] theorem State.modCfg_pending (f : Cfg → Cfg) : (s.modCfg f).pending = s.pending := rfl
@[simp] theorem State.modCfg_htick (f : Cfg → Cfg) : (s.modCfg f).htick = s.htick := rfl
@[simp] theorem State.modCfg_freeCtr (f : Cfg → Cfg) : (s.modCfg f).freeCtr = s.freeCtr := rfl
@[simp] theorem State.modCfg_regs (f : Cfg → Cfg) : (s.modCfg f).regs = s.regs := rfl
@[simp] theorem State.modCfg_active (f : Cfg → Cfg) : (s.modCfg f).active = s.active := rfl
@[simp] theorem State.modCfg_tickSet (f : Cfg → Cfg) : (s.modCfg f).tickSet = s.tickSet := rfl
@[simp] theorem State.modCfg_tickOld (f : Cfg → Cfg) : (s.modCfg f).tickOld = s.tickOld := rfl
@[simp] theorem State.modCfg_tickSwp (f : Cfg → Cfg) : (s.modCfg f).tickSwp = s.tickSwp := rfl
@[simp] theorem State.modCfg_tickInc (f : Cfg → Cfg) : (s.modCfg f).tickInc = s.tickInc := rfl
@[simp] theorem State.modCfg_holds (f : Cfg → Cfg) : (s.modCfg f).holds = s.holds := rfl
@[simp] theorem State.modCfg_replies (f : Cfg → Cfg) : (s.modCfg f).replies = s.replies := rfl
@[simp] theorem State.modCfg_launched (f : Cfg → Cfg) : (s.modCfg f).launched = s.launched := rfl
@[simp] theorem State.modCfg_reports (f : Cfg → Cfg) : (s.modCfg f).reports = s.reports := rfl
@[simp] theorem State.modCfg_pins (f : Cfg → Cfg) : (s.modCfg f).pins = s.pins := rfl
@[simp] theorem State.modCfg_ctl (f : Cfg → Cfg) : (s.modCfg f).ctl = s.ctl := rfl
@[simp] theorem State.modCfg_gpg (f : Cfg → Cfg) : (s.modCfg f).gpg = s.gpg := rfl
@[simp] theorem State.modCfg_snaps (f : Cfg → Cfg) : (s.modCfg f).snaps = s.snaps := rfl
@[simp] theorem State.modCfg_supplyOut (f : Cfg → Cfg) : (s.modCfg f).supplyOut = s.supplyOut := rfl
@[simp] theorem State.modCfg_loop (f : Cfg → Cfg) : (s.modCfg f).loop = s.loop := rfl
@[simp] theorem State.modCfg_tiles (f : Cfg → Cfg) : (s.modCfg f).tiles = s.tiles := rfl
@[simp] theorem State.modCfg_trk (f : Cfg → Cfg) : (s.modCfg f).trk = s.trk := rfl
@[simp] theorem State.modCfg_meas (f : Cfg → Cfg) : (s.modCfg f).meas = s.meas := rfl
@[simp] theorem State.modCfg_rng (f : Cfg → Cfg) : (s.modCfg f).rng = s.rng := rfl
@[simp] theorem State.modCfg_mon (f : Cfg → Cfg) : (s.modCfg f).mon = s.mon := rfl
@[simp] theorem State.modCfg_link (f : Cfg → Cfg) : (s.modCfg f).link = s.link := rfl
@[simp] theorem State.modCfg_chcal (f : Cfg → Cfg) : (s.modCfg f).chcal = s.chcal := rfl
@[simp] theorem State.modCfg_mach (f : Cfg → Cfg) : (s.modCfg f).mach = s.mach := rfl
@[simp] theorem State.modCfg_tod (f : Cfg → Cfg) : (s.modCfg f).tod = s.tod := rfl
@[simp] theorem State.modCfg_mains (f : Cfg → Cfg) : (s.modCfg f).mains = s.mains := rfl
@[simp] theorem State.modCfg_alarms (f : Cfg → Cfg) : (s.modCfg f).alarms = s.alarms := rfl
@[simp] theorem State.modCfg_almOld (f : Cfg → Cfg) : (s.modCfg f).almOld = s.almOld := rfl
@[simp] theorem State.modCfg_pan (f : Cfg → Cfg) : (s.modCfg f).pan = s.pan := rfl
@[simp] theorem State.modCfg_poison (f : Cfg → Cfg) : (s.modCfg f).poison = s.poison := rfl
@[simp] theorem State.modCfg_banks (f : Cfg → Cfg) : (s.modCfg f).banks = s.banks := rfl
@[simp] theorem State.modCfg_borrow (f : Cfg → Cfg) : (s.modCfg f).borrow = s.borrow := rfl
@[simp] theorem State.modCfg_chutes (f : Cfg → Cfg) : (s.modCfg f).chutes = s.chutes := rfl
@[simp] theorem State.modCfg_srcs (f : Cfg → Cfg) : (s.modCfg f).srcs = s.srcs := rfl
@[simp] theorem State.modCfg_pendReps (f : Cfg → Cfg) : (s.modCfg f).pendReps = s.pendReps := rfl
@[simp] theorem State.modCfg_hrtQueue (f : Cfg → Cfg) : (s.modCfg f).hrtQueue = s.hrtQueue := rfl
@[simp] theorem State.modCfg_fences (f : Cfg → Cfg) : (s.modCfg f).fences = s.fences := rfl
@[simp] theorem State.modCfg_fencedUnits (f : Cfg → Cfg) : (s.modCfg f).fencedUnits = s.fencedUnits := rfl
@[simp] theorem State.modCfg_safeReqs (f : Cfg → Cfg) : (s.modCfg f).safeReqs = s.safeReqs := rfl
@[simp] theorem State.modCfg_found (f : Cfg → Cfg) : (s.modCfg f).found = s.found := rfl
@[simp] theorem State.modCfg_cfg (f : Cfg → Cfg) : (s.modCfg f).cfg = f s.cfg := rfl
@[simp] theorem State.modCfg_fuses (f : Cfg → Cfg) : (s.modCfg f).fuses = s.fuses := rfl
@[simp] theorem State.modCfg_panOps (f : Cfg → Cfg) : (s.modCfg f).panOps = s.panOps := rfl
@[simp] theorem State.modCfg_hwy (f : Cfg → Cfg) : (s.modCfg f).hwy = s.hwy := rfl
@[simp] theorem State.modCfg_hwyTi (f : Cfg → Cfg) : (s.modCfg f).hwyTi = s.hwyTi := rfl
@[simp] theorem State.modCfg_engs (f : Cfg → Cfg) : (s.modCfg f).engs = s.engs := rfl
@[simp] theorem State.modCfg_stdLoads (f : Cfg → Cfg) : (s.modCfg f).stdLoads = s.stdLoads := rfl
@[simp] theorem State.modCfg_net (f : Cfg → Cfg) : (s.modCfg f).net = s.net := rfl
@[simp] theorem State.modCfg_kpr (f : Cfg → Cfg) : (s.modCfg f).kpr = s.kpr := rfl
@[simp] theorem State.modCfg_sdLast (f : Cfg → Cfg) : (s.modCfg f).sdLast = s.sdLast := rfl
@[simp] theorem State.modCfg_sdOut (f : Cfg → Cfg) : (s.modCfg f).sdOut = s.sdOut := rfl
@[simp] theorem State.modCfg_pwr (f : Cfg → Cfg) : (s.modCfg f).pwr = s.pwr := rfl
@[simp] theorem State.modCfg_cal (f : Cfg → Cfg) : (s.modCfg f).cal = s.cal := rfl
@[simp] theorem State.modCfg_otp (f : Cfg → Cfg) : (s.modCfg f).otp = s.otp := rfl
@[simp] theorem State.modCfg_cel (f : Cfg → Cfg) : (s.modCfg f).cel = s.cel := rfl
@[simp] theorem State.modCfg_ctxs (f : Cfg → Cfg) : (s.modCfg f).ctxs = s.ctxs := rfl
@[simp] theorem State.modCfg_netTags (f : Cfg → Cfg) : (s.modCfg f).netTags = s.netTags := rfl

/-! ### modKpr -/

@[simp] theorem State.modKpr_pending (f : Kpr → Kpr) : (s.modKpr f).pending = s.pending := rfl
@[simp] theorem State.modKpr_htick (f : Kpr → Kpr) : (s.modKpr f).htick = s.htick := rfl
@[simp] theorem State.modKpr_freeCtr (f : Kpr → Kpr) : (s.modKpr f).freeCtr = s.freeCtr := rfl
@[simp] theorem State.modKpr_regs (f : Kpr → Kpr) : (s.modKpr f).regs = s.regs := rfl
@[simp] theorem State.modKpr_active (f : Kpr → Kpr) : (s.modKpr f).active = s.active := rfl
@[simp] theorem State.modKpr_tickSet (f : Kpr → Kpr) : (s.modKpr f).tickSet = s.tickSet := rfl
@[simp] theorem State.modKpr_tickOld (f : Kpr → Kpr) : (s.modKpr f).tickOld = s.tickOld := rfl
@[simp] theorem State.modKpr_tickSwp (f : Kpr → Kpr) : (s.modKpr f).tickSwp = s.tickSwp := rfl
@[simp] theorem State.modKpr_tickInc (f : Kpr → Kpr) : (s.modKpr f).tickInc = s.tickInc := rfl
@[simp] theorem State.modKpr_holds (f : Kpr → Kpr) : (s.modKpr f).holds = s.holds := rfl
@[simp] theorem State.modKpr_replies (f : Kpr → Kpr) : (s.modKpr f).replies = s.replies := rfl
@[simp] theorem State.modKpr_launched (f : Kpr → Kpr) : (s.modKpr f).launched = s.launched := rfl
@[simp] theorem State.modKpr_reports (f : Kpr → Kpr) : (s.modKpr f).reports = s.reports := rfl
@[simp] theorem State.modKpr_pins (f : Kpr → Kpr) : (s.modKpr f).pins = s.pins := rfl
@[simp] theorem State.modKpr_ctl (f : Kpr → Kpr) : (s.modKpr f).ctl = s.ctl := rfl
@[simp] theorem State.modKpr_gpg (f : Kpr → Kpr) : (s.modKpr f).gpg = s.gpg := rfl
@[simp] theorem State.modKpr_snaps (f : Kpr → Kpr) : (s.modKpr f).snaps = s.snaps := rfl
@[simp] theorem State.modKpr_supplyOut (f : Kpr → Kpr) : (s.modKpr f).supplyOut = s.supplyOut := rfl
@[simp] theorem State.modKpr_loop (f : Kpr → Kpr) : (s.modKpr f).loop = s.loop := rfl
@[simp] theorem State.modKpr_tiles (f : Kpr → Kpr) : (s.modKpr f).tiles = s.tiles := rfl
@[simp] theorem State.modKpr_trk (f : Kpr → Kpr) : (s.modKpr f).trk = s.trk := rfl
@[simp] theorem State.modKpr_meas (f : Kpr → Kpr) : (s.modKpr f).meas = s.meas := rfl
@[simp] theorem State.modKpr_rng (f : Kpr → Kpr) : (s.modKpr f).rng = s.rng := rfl
@[simp] theorem State.modKpr_mon (f : Kpr → Kpr) : (s.modKpr f).mon = s.mon := rfl
@[simp] theorem State.modKpr_link (f : Kpr → Kpr) : (s.modKpr f).link = s.link := rfl
@[simp] theorem State.modKpr_chcal (f : Kpr → Kpr) : (s.modKpr f).chcal = s.chcal := rfl
@[simp] theorem State.modKpr_mach (f : Kpr → Kpr) : (s.modKpr f).mach = s.mach := rfl
@[simp] theorem State.modKpr_tod (f : Kpr → Kpr) : (s.modKpr f).tod = s.tod := rfl
@[simp] theorem State.modKpr_mains (f : Kpr → Kpr) : (s.modKpr f).mains = s.mains := rfl
@[simp] theorem State.modKpr_alarms (f : Kpr → Kpr) : (s.modKpr f).alarms = s.alarms := rfl
@[simp] theorem State.modKpr_almOld (f : Kpr → Kpr) : (s.modKpr f).almOld = s.almOld := rfl
@[simp] theorem State.modKpr_pan (f : Kpr → Kpr) : (s.modKpr f).pan = s.pan := rfl
@[simp] theorem State.modKpr_poison (f : Kpr → Kpr) : (s.modKpr f).poison = s.poison := rfl
@[simp] theorem State.modKpr_banks (f : Kpr → Kpr) : (s.modKpr f).banks = s.banks := rfl
@[simp] theorem State.modKpr_borrow (f : Kpr → Kpr) : (s.modKpr f).borrow = s.borrow := rfl
@[simp] theorem State.modKpr_chutes (f : Kpr → Kpr) : (s.modKpr f).chutes = s.chutes := rfl
@[simp] theorem State.modKpr_srcs (f : Kpr → Kpr) : (s.modKpr f).srcs = s.srcs := rfl
@[simp] theorem State.modKpr_pendReps (f : Kpr → Kpr) : (s.modKpr f).pendReps = s.pendReps := rfl
@[simp] theorem State.modKpr_hrtQueue (f : Kpr → Kpr) : (s.modKpr f).hrtQueue = s.hrtQueue := rfl
@[simp] theorem State.modKpr_fences (f : Kpr → Kpr) : (s.modKpr f).fences = s.fences := rfl
@[simp] theorem State.modKpr_fencedUnits (f : Kpr → Kpr) : (s.modKpr f).fencedUnits = s.fencedUnits := rfl
@[simp] theorem State.modKpr_safeReqs (f : Kpr → Kpr) : (s.modKpr f).safeReqs = s.safeReqs := rfl
@[simp] theorem State.modKpr_found (f : Kpr → Kpr) : (s.modKpr f).found = s.found := rfl
@[simp] theorem State.modKpr_cfg (f : Kpr → Kpr) : (s.modKpr f).cfg = s.cfg := rfl
@[simp] theorem State.modKpr_fuses (f : Kpr → Kpr) : (s.modKpr f).fuses = s.fuses := rfl
@[simp] theorem State.modKpr_panOps (f : Kpr → Kpr) : (s.modKpr f).panOps = s.panOps := rfl
@[simp] theorem State.modKpr_hwy (f : Kpr → Kpr) : (s.modKpr f).hwy = s.hwy := rfl
@[simp] theorem State.modKpr_hwyTi (f : Kpr → Kpr) : (s.modKpr f).hwyTi = s.hwyTi := rfl
@[simp] theorem State.modKpr_engs (f : Kpr → Kpr) : (s.modKpr f).engs = s.engs := rfl
@[simp] theorem State.modKpr_stdLoads (f : Kpr → Kpr) : (s.modKpr f).stdLoads = s.stdLoads := rfl
@[simp] theorem State.modKpr_net (f : Kpr → Kpr) : (s.modKpr f).net = s.net := rfl
@[simp] theorem State.modKpr_kpr (f : Kpr → Kpr) : (s.modKpr f).kpr = f s.kpr := rfl
@[simp] theorem State.modKpr_sdLast (f : Kpr → Kpr) : (s.modKpr f).sdLast = s.sdLast := rfl
@[simp] theorem State.modKpr_sdOut (f : Kpr → Kpr) : (s.modKpr f).sdOut = s.sdOut := rfl
@[simp] theorem State.modKpr_pwr (f : Kpr → Kpr) : (s.modKpr f).pwr = s.pwr := rfl
@[simp] theorem State.modKpr_cal (f : Kpr → Kpr) : (s.modKpr f).cal = s.cal := rfl
@[simp] theorem State.modKpr_otp (f : Kpr → Kpr) : (s.modKpr f).otp = s.otp := rfl
@[simp] theorem State.modKpr_cel (f : Kpr → Kpr) : (s.modKpr f).cel = s.cel := rfl
@[simp] theorem State.modKpr_ctxs (f : Kpr → Kpr) : (s.modKpr f).ctxs = s.ctxs := rfl
@[simp] theorem State.modKpr_netTags (f : Kpr → Kpr) : (s.modKpr f).netTags = s.netTags := rfl

/-! ### modNet -/

@[simp] theorem State.modNet_pending (f : Net → Net) : (s.modNet f).pending = s.pending := rfl
@[simp] theorem State.modNet_htick (f : Net → Net) : (s.modNet f).htick = s.htick := rfl
@[simp] theorem State.modNet_freeCtr (f : Net → Net) : (s.modNet f).freeCtr = s.freeCtr := rfl
@[simp] theorem State.modNet_regs (f : Net → Net) : (s.modNet f).regs = s.regs := rfl
@[simp] theorem State.modNet_active (f : Net → Net) : (s.modNet f).active = s.active := rfl
@[simp] theorem State.modNet_tickSet (f : Net → Net) : (s.modNet f).tickSet = s.tickSet := rfl
@[simp] theorem State.modNet_tickOld (f : Net → Net) : (s.modNet f).tickOld = s.tickOld := rfl
@[simp] theorem State.modNet_tickSwp (f : Net → Net) : (s.modNet f).tickSwp = s.tickSwp := rfl
@[simp] theorem State.modNet_tickInc (f : Net → Net) : (s.modNet f).tickInc = s.tickInc := rfl
@[simp] theorem State.modNet_holds (f : Net → Net) : (s.modNet f).holds = s.holds := rfl
@[simp] theorem State.modNet_replies (f : Net → Net) : (s.modNet f).replies = s.replies := rfl
@[simp] theorem State.modNet_launched (f : Net → Net) : (s.modNet f).launched = s.launched := rfl
@[simp] theorem State.modNet_reports (f : Net → Net) : (s.modNet f).reports = s.reports := rfl
@[simp] theorem State.modNet_pins (f : Net → Net) : (s.modNet f).pins = s.pins := rfl
@[simp] theorem State.modNet_ctl (f : Net → Net) : (s.modNet f).ctl = s.ctl := rfl
@[simp] theorem State.modNet_gpg (f : Net → Net) : (s.modNet f).gpg = s.gpg := rfl
@[simp] theorem State.modNet_snaps (f : Net → Net) : (s.modNet f).snaps = s.snaps := rfl
@[simp] theorem State.modNet_supplyOut (f : Net → Net) : (s.modNet f).supplyOut = s.supplyOut := rfl
@[simp] theorem State.modNet_loop (f : Net → Net) : (s.modNet f).loop = s.loop := rfl
@[simp] theorem State.modNet_tiles (f : Net → Net) : (s.modNet f).tiles = s.tiles := rfl
@[simp] theorem State.modNet_trk (f : Net → Net) : (s.modNet f).trk = s.trk := rfl
@[simp] theorem State.modNet_meas (f : Net → Net) : (s.modNet f).meas = s.meas := rfl
@[simp] theorem State.modNet_rng (f : Net → Net) : (s.modNet f).rng = s.rng := rfl
@[simp] theorem State.modNet_mon (f : Net → Net) : (s.modNet f).mon = s.mon := rfl
@[simp] theorem State.modNet_link (f : Net → Net) : (s.modNet f).link = s.link := rfl
@[simp] theorem State.modNet_chcal (f : Net → Net) : (s.modNet f).chcal = s.chcal := rfl
@[simp] theorem State.modNet_mach (f : Net → Net) : (s.modNet f).mach = s.mach := rfl
@[simp] theorem State.modNet_tod (f : Net → Net) : (s.modNet f).tod = s.tod := rfl
@[simp] theorem State.modNet_mains (f : Net → Net) : (s.modNet f).mains = s.mains := rfl
@[simp] theorem State.modNet_alarms (f : Net → Net) : (s.modNet f).alarms = s.alarms := rfl
@[simp] theorem State.modNet_almOld (f : Net → Net) : (s.modNet f).almOld = s.almOld := rfl
@[simp] theorem State.modNet_pan (f : Net → Net) : (s.modNet f).pan = s.pan := rfl
@[simp] theorem State.modNet_poison (f : Net → Net) : (s.modNet f).poison = s.poison := rfl
@[simp] theorem State.modNet_banks (f : Net → Net) : (s.modNet f).banks = s.banks := rfl
@[simp] theorem State.modNet_borrow (f : Net → Net) : (s.modNet f).borrow = s.borrow := rfl
@[simp] theorem State.modNet_chutes (f : Net → Net) : (s.modNet f).chutes = s.chutes := rfl
@[simp] theorem State.modNet_srcs (f : Net → Net) : (s.modNet f).srcs = s.srcs := rfl
@[simp] theorem State.modNet_pendReps (f : Net → Net) : (s.modNet f).pendReps = s.pendReps := rfl
@[simp] theorem State.modNet_hrtQueue (f : Net → Net) : (s.modNet f).hrtQueue = s.hrtQueue := rfl
@[simp] theorem State.modNet_fences (f : Net → Net) : (s.modNet f).fences = s.fences := rfl
@[simp] theorem State.modNet_fencedUnits (f : Net → Net) : (s.modNet f).fencedUnits = s.fencedUnits := rfl
@[simp] theorem State.modNet_safeReqs (f : Net → Net) : (s.modNet f).safeReqs = s.safeReqs := rfl
@[simp] theorem State.modNet_found (f : Net → Net) : (s.modNet f).found = s.found := rfl
@[simp] theorem State.modNet_cfg (f : Net → Net) : (s.modNet f).cfg = s.cfg := rfl
@[simp] theorem State.modNet_fuses (f : Net → Net) : (s.modNet f).fuses = s.fuses := rfl
@[simp] theorem State.modNet_panOps (f : Net → Net) : (s.modNet f).panOps = s.panOps := rfl
@[simp] theorem State.modNet_hwy (f : Net → Net) : (s.modNet f).hwy = s.hwy := rfl
@[simp] theorem State.modNet_hwyTi (f : Net → Net) : (s.modNet f).hwyTi = s.hwyTi := rfl
@[simp] theorem State.modNet_engs (f : Net → Net) : (s.modNet f).engs = s.engs := rfl
@[simp] theorem State.modNet_stdLoads (f : Net → Net) : (s.modNet f).stdLoads = s.stdLoads := rfl
@[simp] theorem State.modNet_net (f : Net → Net) : (s.modNet f).net = f s.net := rfl
@[simp] theorem State.modNet_kpr (f : Net → Net) : (s.modNet f).kpr = s.kpr := rfl
@[simp] theorem State.modNet_sdLast (f : Net → Net) : (s.modNet f).sdLast = s.sdLast := rfl
@[simp] theorem State.modNet_sdOut (f : Net → Net) : (s.modNet f).sdOut = s.sdOut := rfl
@[simp] theorem State.modNet_pwr (f : Net → Net) : (s.modNet f).pwr = s.pwr := rfl
@[simp] theorem State.modNet_cal (f : Net → Net) : (s.modNet f).cal = s.cal := rfl
@[simp] theorem State.modNet_otp (f : Net → Net) : (s.modNet f).otp = s.otp := rfl
@[simp] theorem State.modNet_cel (f : Net → Net) : (s.modNet f).cel = s.cel := rfl
@[simp] theorem State.modNet_ctxs (f : Net → Net) : (s.modNet f).ctxs = s.ctxs := rfl
@[simp] theorem State.modNet_netTags (f : Net → Net) : (s.modNet f).netTags = s.netTags := rfl

/-! ### modPwr -/

@[simp] theorem State.modPwr_pending (f : Pwr → Pwr) : (s.modPwr f).pending = s.pending := rfl
@[simp] theorem State.modPwr_htick (f : Pwr → Pwr) : (s.modPwr f).htick = s.htick := rfl
@[simp] theorem State.modPwr_freeCtr (f : Pwr → Pwr) : (s.modPwr f).freeCtr = s.freeCtr := rfl
@[simp] theorem State.modPwr_regs (f : Pwr → Pwr) : (s.modPwr f).regs = s.regs := rfl
@[simp] theorem State.modPwr_active (f : Pwr → Pwr) : (s.modPwr f).active = s.active := rfl
@[simp] theorem State.modPwr_tickSet (f : Pwr → Pwr) : (s.modPwr f).tickSet = s.tickSet := rfl
@[simp] theorem State.modPwr_tickOld (f : Pwr → Pwr) : (s.modPwr f).tickOld = s.tickOld := rfl
@[simp] theorem State.modPwr_tickSwp (f : Pwr → Pwr) : (s.modPwr f).tickSwp = s.tickSwp := rfl
@[simp] theorem State.modPwr_tickInc (f : Pwr → Pwr) : (s.modPwr f).tickInc = s.tickInc := rfl
@[simp] theorem State.modPwr_holds (f : Pwr → Pwr) : (s.modPwr f).holds = s.holds := rfl
@[simp] theorem State.modPwr_replies (f : Pwr → Pwr) : (s.modPwr f).replies = s.replies := rfl
@[simp] theorem State.modPwr_launched (f : Pwr → Pwr) : (s.modPwr f).launched = s.launched := rfl
@[simp] theorem State.modPwr_reports (f : Pwr → Pwr) : (s.modPwr f).reports = s.reports := rfl
@[simp] theorem State.modPwr_pins (f : Pwr → Pwr) : (s.modPwr f).pins = s.pins := rfl
@[simp] theorem State.modPwr_ctl (f : Pwr → Pwr) : (s.modPwr f).ctl = s.ctl := rfl
@[simp] theorem State.modPwr_gpg (f : Pwr → Pwr) : (s.modPwr f).gpg = s.gpg := rfl
@[simp] theorem State.modPwr_snaps (f : Pwr → Pwr) : (s.modPwr f).snaps = s.snaps := rfl
@[simp] theorem State.modPwr_supplyOut (f : Pwr → Pwr) : (s.modPwr f).supplyOut = s.supplyOut := rfl
@[simp] theorem State.modPwr_loop (f : Pwr → Pwr) : (s.modPwr f).loop = s.loop := rfl
@[simp] theorem State.modPwr_tiles (f : Pwr → Pwr) : (s.modPwr f).tiles = s.tiles := rfl
@[simp] theorem State.modPwr_trk (f : Pwr → Pwr) : (s.modPwr f).trk = s.trk := rfl
@[simp] theorem State.modPwr_meas (f : Pwr → Pwr) : (s.modPwr f).meas = s.meas := rfl
@[simp] theorem State.modPwr_rng (f : Pwr → Pwr) : (s.modPwr f).rng = s.rng := rfl
@[simp] theorem State.modPwr_mon (f : Pwr → Pwr) : (s.modPwr f).mon = s.mon := rfl
@[simp] theorem State.modPwr_link (f : Pwr → Pwr) : (s.modPwr f).link = s.link := rfl
@[simp] theorem State.modPwr_chcal (f : Pwr → Pwr) : (s.modPwr f).chcal = s.chcal := rfl
@[simp] theorem State.modPwr_mach (f : Pwr → Pwr) : (s.modPwr f).mach = s.mach := rfl
@[simp] theorem State.modPwr_tod (f : Pwr → Pwr) : (s.modPwr f).tod = s.tod := rfl
@[simp] theorem State.modPwr_mains (f : Pwr → Pwr) : (s.modPwr f).mains = s.mains := rfl
@[simp] theorem State.modPwr_alarms (f : Pwr → Pwr) : (s.modPwr f).alarms = s.alarms := rfl
@[simp] theorem State.modPwr_almOld (f : Pwr → Pwr) : (s.modPwr f).almOld = s.almOld := rfl
@[simp] theorem State.modPwr_pan (f : Pwr → Pwr) : (s.modPwr f).pan = s.pan := rfl
@[simp] theorem State.modPwr_poison (f : Pwr → Pwr) : (s.modPwr f).poison = s.poison := rfl
@[simp] theorem State.modPwr_banks (f : Pwr → Pwr) : (s.modPwr f).banks = s.banks := rfl
@[simp] theorem State.modPwr_borrow (f : Pwr → Pwr) : (s.modPwr f).borrow = s.borrow := rfl
@[simp] theorem State.modPwr_chutes (f : Pwr → Pwr) : (s.modPwr f).chutes = s.chutes := rfl
@[simp] theorem State.modPwr_srcs (f : Pwr → Pwr) : (s.modPwr f).srcs = s.srcs := rfl
@[simp] theorem State.modPwr_pendReps (f : Pwr → Pwr) : (s.modPwr f).pendReps = s.pendReps := rfl
@[simp] theorem State.modPwr_hrtQueue (f : Pwr → Pwr) : (s.modPwr f).hrtQueue = s.hrtQueue := rfl
@[simp] theorem State.modPwr_fences (f : Pwr → Pwr) : (s.modPwr f).fences = s.fences := rfl
@[simp] theorem State.modPwr_fencedUnits (f : Pwr → Pwr) : (s.modPwr f).fencedUnits = s.fencedUnits := rfl
@[simp] theorem State.modPwr_safeReqs (f : Pwr → Pwr) : (s.modPwr f).safeReqs = s.safeReqs := rfl
@[simp] theorem State.modPwr_found (f : Pwr → Pwr) : (s.modPwr f).found = s.found := rfl
@[simp] theorem State.modPwr_cfg (f : Pwr → Pwr) : (s.modPwr f).cfg = s.cfg := rfl
@[simp] theorem State.modPwr_fuses (f : Pwr → Pwr) : (s.modPwr f).fuses = s.fuses := rfl
@[simp] theorem State.modPwr_panOps (f : Pwr → Pwr) : (s.modPwr f).panOps = s.panOps := rfl
@[simp] theorem State.modPwr_hwy (f : Pwr → Pwr) : (s.modPwr f).hwy = s.hwy := rfl
@[simp] theorem State.modPwr_hwyTi (f : Pwr → Pwr) : (s.modPwr f).hwyTi = s.hwyTi := rfl
@[simp] theorem State.modPwr_engs (f : Pwr → Pwr) : (s.modPwr f).engs = s.engs := rfl
@[simp] theorem State.modPwr_stdLoads (f : Pwr → Pwr) : (s.modPwr f).stdLoads = s.stdLoads := rfl
@[simp] theorem State.modPwr_net (f : Pwr → Pwr) : (s.modPwr f).net = s.net := rfl
@[simp] theorem State.modPwr_kpr (f : Pwr → Pwr) : (s.modPwr f).kpr = s.kpr := rfl
@[simp] theorem State.modPwr_sdLast (f : Pwr → Pwr) : (s.modPwr f).sdLast = s.sdLast := rfl
@[simp] theorem State.modPwr_sdOut (f : Pwr → Pwr) : (s.modPwr f).sdOut = s.sdOut := rfl
@[simp] theorem State.modPwr_pwr (f : Pwr → Pwr) : (s.modPwr f).pwr = f s.pwr := rfl
@[simp] theorem State.modPwr_cal (f : Pwr → Pwr) : (s.modPwr f).cal = s.cal := rfl
@[simp] theorem State.modPwr_otp (f : Pwr → Pwr) : (s.modPwr f).otp = s.otp := rfl
@[simp] theorem State.modPwr_cel (f : Pwr → Pwr) : (s.modPwr f).cel = s.cel := rfl
@[simp] theorem State.modPwr_ctxs (f : Pwr → Pwr) : (s.modPwr f).ctxs = s.ctxs := rfl
@[simp] theorem State.modPwr_netTags (f : Pwr → Pwr) : (s.modPwr f).netTags = s.netTags := rfl

/-! ### setMd -/

@[simp] theorem State.setMd_pending (n : Nat) (x : ModeReq) : (s.setMd n x).pending = s.pending := rfl
@[simp] theorem State.setMd_htick (n : Nat) (x : ModeReq) : (s.setMd n x).htick = s.htick := rfl
@[simp] theorem State.setMd_freeCtr (n : Nat) (x : ModeReq) : (s.setMd n x).freeCtr = s.freeCtr := rfl
@[simp] theorem State.setMd_regs (n : Nat) (x : ModeReq) : (s.setMd n x).regs = s.regs := rfl
@[simp] theorem State.setMd_active (n : Nat) (x : ModeReq) : (s.setMd n x).active = s.active := rfl
@[simp] theorem State.setMd_tickSet (n : Nat) (x : ModeReq) : (s.setMd n x).tickSet = s.tickSet := rfl
@[simp] theorem State.setMd_tickOld (n : Nat) (x : ModeReq) : (s.setMd n x).tickOld = s.tickOld := rfl
@[simp] theorem State.setMd_tickSwp (n : Nat) (x : ModeReq) : (s.setMd n x).tickSwp = s.tickSwp := rfl
@[simp] theorem State.setMd_tickInc (n : Nat) (x : ModeReq) : (s.setMd n x).tickInc = s.tickInc := rfl
@[simp] theorem State.setMd_holds (n : Nat) (x : ModeReq) : (s.setMd n x).holds = s.holds := rfl
@[simp] theorem State.setMd_replies (n : Nat) (x : ModeReq) : (s.setMd n x).replies = s.replies := rfl
@[simp] theorem State.setMd_launched (n : Nat) (x : ModeReq) : (s.setMd n x).launched = s.launched := rfl
@[simp] theorem State.setMd_reports (n : Nat) (x : ModeReq) : (s.setMd n x).reports = s.reports := rfl
@[simp] theorem State.setMd_pins (n : Nat) (x : ModeReq) : (s.setMd n x).pins = s.pins := rfl
@[simp] theorem State.setMd_ctl (n : Nat) (x : ModeReq) : (s.setMd n x).ctl = s.ctl := rfl
@[simp] theorem State.setMd_gpg (n : Nat) (x : ModeReq) : (s.setMd n x).gpg = s.gpg := rfl
@[simp] theorem State.setMd_snaps (n : Nat) (x : ModeReq) : (s.setMd n x).snaps = s.snaps := rfl
@[simp] theorem State.setMd_supplyOut (n : Nat) (x : ModeReq) : (s.setMd n x).supplyOut = s.supplyOut := rfl
@[simp] theorem State.setMd_loop (n : Nat) (x : ModeReq) : (s.setMd n x).loop = s.loop := rfl
@[simp] theorem State.setMd_tiles (n : Nat) (x : ModeReq) : (s.setMd n x).tiles = s.tiles := rfl
@[simp] theorem State.setMd_trk (n : Nat) (x : ModeReq) : (s.setMd n x).trk = s.trk := rfl
@[simp] theorem State.setMd_meas (n : Nat) (x : ModeReq) : (s.setMd n x).meas = s.meas := rfl
@[simp] theorem State.setMd_rng (n : Nat) (x : ModeReq) : (s.setMd n x).rng = s.rng := rfl
@[simp] theorem State.setMd_mon (n : Nat) (x : ModeReq) : (s.setMd n x).mon = s.mon := rfl
@[simp] theorem State.setMd_link (n : Nat) (x : ModeReq) : (s.setMd n x).link = s.link := rfl
@[simp] theorem State.setMd_chcal (n : Nat) (x : ModeReq) : (s.setMd n x).chcal = s.chcal := rfl
@[simp] theorem State.setMd_mach (n : Nat) (x : ModeReq) : (s.setMd n x).mach = s.mach := rfl
@[simp] theorem State.setMd_tod (n : Nat) (x : ModeReq) : (s.setMd n x).tod = s.tod := rfl
@[simp] theorem State.setMd_mains (n : Nat) (x : ModeReq) : (s.setMd n x).mains = s.mains := rfl
@[simp] theorem State.setMd_alarms (n : Nat) (x : ModeReq) : (s.setMd n x).alarms = s.alarms := rfl
@[simp] theorem State.setMd_almOld (n : Nat) (x : ModeReq) : (s.setMd n x).almOld = s.almOld := rfl
@[simp] theorem State.setMd_pan (n : Nat) (x : ModeReq) : (s.setMd n x).pan = s.pan := rfl
@[simp] theorem State.setMd_poison (n : Nat) (x : ModeReq) : (s.setMd n x).poison = s.poison := rfl
@[simp] theorem State.setMd_banks (n : Nat) (x : ModeReq) : (s.setMd n x).banks = s.banks := rfl
@[simp] theorem State.setMd_borrow (n : Nat) (x : ModeReq) : (s.setMd n x).borrow = s.borrow := rfl
@[simp] theorem State.setMd_chutes (n : Nat) (x : ModeReq) : (s.setMd n x).chutes = s.chutes := rfl
@[simp] theorem State.setMd_srcs (n : Nat) (x : ModeReq) : (s.setMd n x).srcs = s.srcs := rfl
@[simp] theorem State.setMd_pendReps (n : Nat) (x : ModeReq) : (s.setMd n x).pendReps = s.pendReps := rfl
@[simp] theorem State.setMd_hrtQueue (n : Nat) (x : ModeReq) : (s.setMd n x).hrtQueue = s.hrtQueue := rfl
@[simp] theorem State.setMd_fences (n : Nat) (x : ModeReq) : (s.setMd n x).fences = s.fences := rfl
@[simp] theorem State.setMd_fencedUnits (n : Nat) (x : ModeReq) : (s.setMd n x).fencedUnits = s.fencedUnits := rfl
@[simp] theorem State.setMd_safeReqs (n : Nat) (x : ModeReq) : (s.setMd n x).safeReqs = s.safeReqs := rfl
@[simp] theorem State.setMd_found (n : Nat) (x : ModeReq) : (s.setMd n x).found = s.found := rfl
@[simp] theorem State.setMd_cfg (n : Nat) (x : ModeReq) : (s.setMd n x).cfg = s.cfg := rfl
@[simp] theorem State.setMd_fuses (n : Nat) (x : ModeReq) : (s.setMd n x).fuses = s.fuses := rfl
@[simp] theorem State.setMd_panOps (n : Nat) (x : ModeReq) : (s.setMd n x).panOps = s.panOps := rfl
@[simp] theorem State.setMd_hwy (n : Nat) (x : ModeReq) : (s.setMd n x).hwy = s.hwy := rfl
@[simp] theorem State.setMd_hwyTi (n : Nat) (x : ModeReq) : (s.setMd n x).hwyTi = s.hwyTi := rfl
@[simp] theorem State.setMd_engs (n : Nat) (x : ModeReq) : (s.setMd n x).engs = s.engs := rfl
@[simp] theorem State.setMd_stdLoads (n : Nat) (x : ModeReq) : (s.setMd n x).stdLoads = s.stdLoads := rfl
@[simp] theorem State.setMd_net (n : Nat) (x : ModeReq) : (s.setMd n x).net = s.net := rfl
@[simp] theorem State.setMd_kpr (n : Nat) (x : ModeReq) : (s.setMd n x).kpr = s.kpr := rfl
@[simp] theorem State.setMd_sdLast (n : Nat) (x : ModeReq) : (s.setMd n x).sdLast = s.sdLast := rfl
@[simp] theorem State.setMd_sdOut (n : Nat) (x : ModeReq) : (s.setMd n x).sdOut = s.sdOut := rfl
@[simp] theorem State.setMd_pwr (n : Nat) (x : ModeReq) : (s.setMd n x).pwr = { s.pwr with modes := Tbl.put s.pwr.modes n x } := rfl
@[simp] theorem State.setMd_cal (n : Nat) (x : ModeReq) : (s.setMd n x).cal = s.cal := rfl
@[simp] theorem State.setMd_otp (n : Nat) (x : ModeReq) : (s.setMd n x).otp = s.otp := rfl
@[simp] theorem State.setMd_cel (n : Nat) (x : ModeReq) : (s.setMd n x).cel = s.cel := rfl
@[simp] theorem State.setMd_ctxs (n : Nat) (x : ModeReq) : (s.setMd n x).ctxs = s.ctxs := rfl
@[simp] theorem State.setMd_netTags (n : Nat) (x : ModeReq) : (s.setMd n x).netTags = s.netTags := rfl

end Sys2Proof.Machine
end

