-- ==== Sys2Proof/Laws/Tbl.lean ====
section
/-!
SUPPORT. Sparse tables and memory: a read after a write, and that every operation keeps the canonical form.
-/

namespace Sys2Proof.Machine

/-! ### Tables -/

@[simp] theorem Tbl.get_nil {α : Type} (d : α) (k : Nat) : Tbl.get d [] k = d := rfl

/-- A read of the number written gives the value written. -/
@[simp] theorem Tbl.get_put_self {α : Type} (d : α) (t : Tbl α) (k : Nat) (v : α) : Tbl.get d (Tbl.put t k v) k = v := by
  induction t with
  | nil => simp [Tbl.put, Tbl.get]
  | cons e t ih =>
    obtain ⟨a, x⟩ := e
    simp only [Tbl.put]
    split
    · simp [Tbl.get]
    · split
      · simp [Tbl.get]
      · simp [Tbl.get, *]

/-- A write leaves every other number alone. -/
theorem Tbl.get_put_ne {α : Type} (d : α) (t : Tbl α) {k j : Nat} (v : α) (h : j ≠ k) :
    Tbl.get d (Tbl.put t k v) j = Tbl.get d t j := by
  induction t with
  | nil => simp [Tbl.put, Tbl.get, Ne.symm h]
  | cons e t ih =>
    obtain ⟨a, x⟩ := e
    simp only [Tbl.put]
    split
    · simp [Tbl.get, Ne.symm h]
    · split
      · subst_vars; simp [Tbl.get, Ne.symm h]
      · simp [Tbl.get, ih]

/-- A read after a write, in one equation. -/
theorem Tbl.get_put {α : Type} (d : α) (t : Tbl α) (k j : Nat) (v : α) :
    Tbl.get d (Tbl.put t k v) j = if j = k then v else Tbl.get d t j := by
  by_cases h : j = k
  · subst h; simp
  · simp [h, Tbl.get_put_ne]

/-- The default where a table is rewritten value by value. -/
theorem Tbl.get_map {α β : Type} (d : α) (d' : β) (f : Nat → α → β) (t : Tbl α) (k : Nat)
    (h : f k d = d') : Tbl.get d' (t.map (fun e => (e.1, f e.1 e.2))) k = f k (Tbl.get d t k) := by
  induction t with
  | nil => exact h.symm
  | cons e t ih =>
    obtain ⟨a, x⟩ := e
    by_cases ha : a = k
    · subst ha; simp [Tbl.get]
    · simp only [List.map_cons, Tbl.get, ha, if_false]; exact ih

/-! ### Memory (canonical form, read after write) -/

/-- The numbers of a table that a write starts from the front are above any bound below the number and the front. -/
theorem Mem.wf_tail {a : Nat} {x : Byte} {t : Mem} (h : Mem.wf ((a, x) :: t) = true) : Mem.wf t = true := by
  cases t with
  | nil => rfl
  | cons e t => obtain ⟨b, y⟩ := e; simp [Mem.wf] at h; exact h.2

theorem Mem.wf_head {a : Nat} {x : Byte} {t : Mem} (h : Mem.wf ((a, x) :: t) = true) : x ≠ 0#8 := by
  cases t with
  | nil => simpa [Mem.wf] using h
  | cons e t => obtain ⟨b, y⟩ := e; simp [Mem.wf] at h; exact h.1.2

/-- Every address listed after the front is above it. -/
theorem Mem.wf_above {a : Nat} {x : Byte} {t : Mem} (h : Mem.wf ((a, x) :: t) = true) : ∀ e ∈ t, a < e.1 := by
  induction t generalizing a x with
  | nil => intro e he; cases he
  | cons e t ih =>
    obtain ⟨b, y⟩ := e
    have h' := h
    simp [Mem.wf] at h'
    intro e he
    rcases List.mem_cons.mp he with rfl | he
    · exact h'.1.1
    · exact Nat.lt_trans h'.1.1 (ih h'.2 e he)

/-- An entry in front of a memory whose addresses are all above it. -/
theorem Mem.wf_cons {a : Nat} {x : Byte} {t : Mem} (hx : x ≠ 0#8) (ht : Mem.wf t = true) (ha : ∀ e ∈ t, a < e.1) :
    Mem.wf ((a, x) :: t) = true := by
  cases t with
  | nil => simpa [Mem.wf] using hx
  | cons e t =>
    obtain ⟨b, y⟩ := e
    have := ha (b, y) (by simp)
    simp [Mem.wf, hx, ht, this]

theorem Mem.mem_erase {m : Mem} {a : Nat} {e : Host.Cell} (h : e ∈ Mem.erase m a) : e ∈ m := by
  induction m with
  | nil => exact h
  | cons f m ih =>
    obtain ⟨b, x⟩ := f
    simp only [Mem.erase] at h
    split at h
    · exact List.mem_cons_of_mem _ (ih h)
    · rcases List.mem_cons.mp h with rfl | h
      · simp
      · exact List.mem_cons_of_mem _ (ih h)

/-- Taking an entry out keeps the canonical form. -/
theorem Mem.wf_erase {m : Mem} (a : Nat) (h : Mem.wf m = true) : Mem.wf (Mem.erase m a) = true := by
  induction m with
  | nil => rfl
  | cons f m ih =>
    obtain ⟨b, x⟩ := f
    simp only [Mem.erase]
    split
    · exact ih (Mem.wf_tail h)
    · exact Mem.wf_cons (Mem.wf_head h) (ih (Mem.wf_tail h)) (fun e he => Mem.wf_above h e (Mem.mem_erase he))

theorem Tbl.mem_put {m : Mem} {a : Nat} {v : Byte} {e : Host.Cell} (h : e ∈ Tbl.put m a v) : e = (a, v) ∨ e ∈ m := by
  induction m with
  | nil => simp [Tbl.put] at h; exact .inl h
  | cons f m ih =>
    obtain ⟨b, x⟩ := f
    simp only [Tbl.put] at h
    split at h
    · simpa [or_assoc] using h
    · split at h
      · rcases List.mem_cons.mp h with rfl | h
        · exact .inl rfl
        · exact .inr (List.mem_cons_of_mem _ h)
      · rcases List.mem_cons.mp h with rfl | h
        · exact .inr (by simp)
        · rcases ih h with h | h
          · exact .inl h
          · exact .inr (List.mem_cons_of_mem _ h)

/-- Writing a byte keeps the canonical form. -/
theorem Mem.wf_put {m : Mem} (a : Nat) (v : Byte) (h : Mem.wf m = true) : Mem.wf (Mem.put m a v) = true := by
  unfold Mem.put
  split
  · exact Mem.wf_erase a h
  · rename_i hv
    induction m with
    | nil => simpa [Tbl.put, Mem.wf] using hv
    | cons f m ih =>
      obtain ⟨b, x⟩ := f
      simp only [Tbl.put]
      split
      · rename_i hab
        refine Mem.wf_cons hv h (fun e he => ?_)
        rcases List.mem_cons.mp he with rfl | he
        · exact hab
        · exact Nat.lt_trans hab (Mem.wf_above h e he)
      · split
        · rename_i _ hba
          subst hba
          exact Mem.wf_cons hv (Mem.wf_tail h) (Mem.wf_above h)
        · rename_i h1 h2
          refine Mem.wf_cons (Mem.wf_head h) (ih (Mem.wf_tail h)) (fun e he => ?_)
          rcases Tbl.mem_put he with rfl | he
          · show b < a; omega
          · exact Mem.wf_above h e he

/-- Writing bytes keeps the canonical form. -/
theorem Mem.wf_putBytes {m : Mem} (a : Nat) (bs : List Byte) (h : Mem.wf m = true) : Mem.wf (Mem.putBytes m a bs) = true := by
  induction bs generalizing m a with
  | nil => exact h
  | cons b bs ih => exact ih (a + 1) (Mem.wf_put a b h)

theorem Mem.get_erase (m : Mem) (a b : Nat) : Mem.get (Mem.erase m a) b = if b = a then 0#8 else Mem.get m b := by
  induction m with
  | nil => simp [Mem.erase, Mem.get]
  | cons f m ih =>
    obtain ⟨c, x⟩ := f
    simp only [Mem.erase]
    split
    · subst_vars
      rw [ih]
      by_cases hb : b = c
      · simp [hb]
      · simp [hb, Mem.get, Tbl.get, Ne.symm hb]
    · by_cases hc : c = b
      · subst hc; simp_all [Mem.get, Tbl.get]
      · simp only [Mem.get, Tbl.get, hc, if_false] at ih ⊢; exact ih

/-- A byte read after a byte written. -/
theorem Mem.get_put (m : Mem) (a b : Nat) (v : Byte) : Mem.get (Mem.put m a v) b = if b = a then v else Mem.get m b := by
  unfold Mem.put
  split
  · subst_vars; exact Mem.get_erase m a b
  · exact Tbl.get_put 0#8 m a b v

/-- Writing bytes leaves every address outside them alone. -/
theorem Mem.get_putBytes_out (m : Mem) (a b : Nat) (bs : List Byte) (h : b < a ∨ a + bs.length ≤ b) :
    Mem.get (Mem.putBytes m a bs) b = Mem.get m b := by
  induction bs generalizing m a with
  | nil => rfl
  | cons x bs ih =>
    simp only [List.length_cons] at h
    rw [Mem.putBytes, ih (Mem.put m a x) (a + 1) (by omega), Mem.get_put]
    have : b ≠ a := by omega
    simp [this]

end Sys2Proof.Machine
end

