-- ==== Sys2Proof/Laws/Live.lean ====
section
/-!
SUPPORT. The frame of every command: what `settle` may change, that `settle` settles, and what a command does from a
calm state.
-/

namespace Sys2Proof.Machine

/-! ### settle: the pins, the generators of safe channels and the events of WTRIP, and nothing else -/

@[simp] theorem State.settle_pending (s : State) : s.settle.pending = s.pending := rfl
@[simp] theorem State.settle_htick (s : State) : s.settle.htick = s.htick := rfl
@[simp] theorem State.settle_freeCtr (s : State) : s.settle.freeCtr = s.freeCtr := rfl
@[simp] theorem State.settle_regs (s : State) : s.settle.regs = s.regs := rfl
@[simp] theorem State.settle_active (s : State) : s.settle.active = s.active := rfl
@[simp] theorem State.settle_tickSet (s : State) : s.settle.tickSet = s.tickSet := rfl
@[simp] theorem State.settle_tickOld (s : State) : s.settle.tickOld = s.tickOld := rfl
@[simp] theorem State.settle_tickSwp (s : State) : s.settle.tickSwp = s.tickSwp := rfl
@[simp] theorem State.settle_tickInc (s : State) : s.settle.tickInc = s.tickInc := rfl
@[simp] theorem State.settle_holds (s : State) : s.settle.holds = s.holds := rfl
@[simp] theorem State.settle_replies (s : State) : s.settle.replies = s.replies := rfl
@[simp] theorem State.settle_reports (s : State) : s.settle.reports = s.reports := rfl
@[simp] theorem State.settle_ctl (s : State) : s.settle.ctl = s.ctl := rfl
@[simp] theorem State.settle_snaps (s : State) : s.settle.snaps = s.snaps := rfl
@[simp] theorem State.settle_supplyOut (s : State) : s.settle.supplyOut = s.supplyOut := rfl
@[simp] theorem State.settle_loop (s : State) : s.settle.loop = s.loop := rfl
@[simp] theorem State.settle_tiles (s : State) : s.settle.tiles = s.tiles := rfl
@[simp] theorem State.settle_trk (s : State) : s.settle.trk = s.trk := rfl
@[simp] theorem State.settle_meas (s : State) : s.settle.meas = s.meas := rfl
@[simp] theorem State.settle_rng (s : State) : s.settle.rng = s.rng := rfl
@[simp] theorem State.settle_mon (s : State) : s.settle.mon = s.mon := rfl
@[simp] theorem State.settle_link (s : State) : s.settle.link = s.link := rfl
@[simp] theorem State.settle_chcal (s : State) : s.settle.chcal = s.chcal := rfl
@[simp] theorem State.settle_mach (s : State) : s.settle.mach = s.mach := rfl
@[simp] theorem State.settle_tod (s : State) : s.settle.tod = s.tod := rfl
@[simp] theorem State.settle_mains (s : State) : s.settle.mains = s.mains := rfl
@[simp] theorem State.settle_alarms (s : State) : s.settle.alarms = s.alarms := rfl
@[simp] theorem State.settle_almOld (s : State) : s.settle.almOld = s.almOld := rfl
@[simp] theorem State.settle_pan (s : State) : s.settle.pan = s.pan := rfl
@[simp] theorem State.settle_poison (s : State) : s.settle.poison = s.poison := rfl
@[simp] theorem State.settle_banks (s : State) : s.settle.banks = s.banks := rfl
@[simp] theorem State.settle_borrow (s : State) : s.settle.borrow = s.borrow := rfl
@[simp] theorem State.settle_chutes (s : State) : s.settle.chutes = s.chutes := rfl
@[simp] theorem State.settle_srcs (s : State) : s.settle.srcs = s.srcs := rfl
@[simp] theorem State.settle_pendReps (s : State) : s.settle.pendReps = s.pendReps := rfl
@[simp] theorem State.settle_hrtQueue (s : State) : s.settle.hrtQueue = s.hrtQueue := rfl
@[simp] theorem State.settle_fences (s : State) : s.settle.fences = s.fences := rfl
@[simp] theorem State.settle_fencedUnits (s : State) : s.settle.fencedUnits = s.fencedUnits := rfl
@[simp] theorem State.settle_safeReqs (s : State) : s.settle.safeReqs = s.safeReqs := rfl
@[simp] theorem State.settle_found (s : State) : s.settle.found = s.found := rfl
@[simp] theorem State.settle_cfg (s : State) : s.settle.cfg = s.cfg := rfl
@[simp] theorem State.settle_fuses (s : State) : s.settle.fuses = s.fuses := rfl
@[simp] theorem State.settle_panOps (s : State) : s.settle.panOps = s.panOps := rfl
@[simp] theorem State.settle_hwy (s : State) : s.settle.hwy = s.hwy := rfl
@[simp] theorem State.settle_hwyTi (s : State) : s.settle.hwyTi = s.hwyTi := rfl
@[simp] theorem State.settle_engs (s : State) : s.settle.engs = s.engs := rfl
@[simp] theorem State.settle_stdLoads (s : State) : s.settle.stdLoads = s.stdLoads := rfl
@[simp] theorem State.settle_net (s : State) : s.settle.net = s.net := rfl
@[simp] theorem State.settle_kpr (s : State) : s.settle.kpr = s.kpr := rfl
@[simp] theorem State.settle_sdLast (s : State) : s.settle.sdLast = s.sdLast := rfl
@[simp] theorem State.settle_sdOut (s : State) : s.settle.sdOut = s.sdOut := rfl
@[simp] theorem State.settle_pwr (s : State) : s.settle.pwr = s.pwr := rfl
@[simp] theorem State.settle_cal (s : State) : s.settle.cal = s.cal := rfl
@[simp] theorem State.settle_otp (s : State) : s.settle.otp = s.otp := rfl
@[simp] theorem State.settle_cel (s : State) : s.settle.cel = s.cel := rfl
@[simp] theorem State.settle_ctxs (s : State) : s.settle.ctxs = s.ctxs := rfl
@[simp] theorem State.settle_netTags (s : State) : s.settle.netTags = s.netTags := rfl
@[simp] theorem State.settle_gpg (s : State) : s.settle.gpg = s.safeGpg := rfl
@[simp] theorem State.settle_pins (s : State) : s.settle.pins = s.pinsNow := rfl
@[simp] theorem State.settle_launched (s : State) : s.settle.launched = s.launched ++ s.tripEvents := rfl

/-- The pulse generator of a channel after `settle` (R59). -/
theorem State.settle_gp (s : State) (n : Nat) :
    s.settle.gp n = if (s.ch n).st.live then s.gp n else { s.gp n with running := false, inPulse := false } := by
  unfold State.gp
  rw [State.settle_gpg, State.safeGpg]
  rw [show (s.gpg.map (fun e => if (s.ch e.1).st.live then e else (e.1, { e.2 with running := false, inPulse := false })))
      = s.gpg.map (fun e => (e.1, (fun k (x : Gpg) => if (s.ch k).st.live then x
          else { x with running := false, inPulse := false }) e.1 e.2)) from by
    apply List.map_congr_left; intro e _; dsimp only; split <;> rfl]
  exact Tbl.get_map {} {} (fun k (x : Gpg) => if (s.ch k).st.live then x else { x with running := false, inPulse := false }) s.gpg n
    (by by_cases h : (s.ch n).st.live = true <;> simp [h])

/-- Stopping the generator of a safe channel leaves its notch. -/
theorem State.settle_notchOn (s : State) (n : Nat) : s.settle.notchOn n = s.notchOn n := by
  have h : (s.settle.gp n).notchEnd = (s.gp n).notchEnd := by rw [State.settle_gp]; split <;> rfl
  unfold State.notchOn
  rw [h]; rfl

/-- GATE does not depend on what `settle` changes. -/
theorem State.settle_gateOut (s : State) (n : Nat) : s.settle.gateOut n = s.gateOut n := by
  have h := s.settle_notchOn n
  unfold State.gateOut
  rw [h]; rfl

/-- A settled state is settled. -/
theorem State.settle_pinsFollow (s : State) : s.settle.pinsFollow := by
  unfold State.pinsFollow
  rw [State.settle_pins, State.settle_pins]
  unfold State.pinsNow
  have h : (fun e : Nat × ChCtl => (e.1, s.settle.gateOut e.1)) = (fun e => (e.1, s.gateOut e.1)) := by
    funext e; rw [State.settle_gateOut]
  simp only [State.settle_ctl]
  rw [h]; rfl

theorem State.settle_safeTrains (s : State) : s.settle.safeTrains := by
  intro e he hl
  rw [State.settle_gpg, State.safeGpg] at he
  obtain ⟨x, _, rfl⟩ := List.mem_map.mp he
  by_cases h : (s.ch x.1).st.live = true
  · simp only [h, if_true] at hl
    exact absurd h (by rw [show (s.ch x.1).st.live = false from hl]; decide)
  · simp [h]

/-- What every command ends with keeps the invariant. -/
theorem State.settle_inv (s : State) : s.settle.Inv := ⟨s.settle_pinsFollow, s.settle_safeTrains⟩

/-- The GATE pin of every channel after `settle` is the level of R75. -/
theorem State.settle_gate (s : State) (n : Nat) : Tbl.get false s.settle.pins.gate n = s.settle.gateOut n := by
  rw [State.settle_gateOut, State.settle_pins]
  simp only [State.pinsNow]
  have key : ∀ l : Tbl ChCtl, (∀ e ∈ l, True) →
      Tbl.get false (l.map (fun e => (e.1, s.gateOut e.1))) n = if (l.any (fun e => e.1 == n)) then s.gateOut n else false := by
    intro l _
    induction l with
    | nil => simp
    | cons e l ih =>
      obtain ⟨a, x⟩ := e
      by_cases h : a = n
      · subst h; simp [Tbl.get]
      · simp only [List.map_cons, Tbl.get, h, if_false, List.any_cons]
        rw [ih (fun _ _ => trivial)]
        have hb : (a == n) = false := by simpa using h
        simp only [hb, Bool.false_or]
  rw [key _ (fun _ _ => trivial)]
  split
  · rfl
  · rename_i h
    have : Tbl.get ({} : ChCtl) s.ctl n = {} := by
      revert h
      generalize s.ctl = l
      intro h
      induction l with
      | nil => rfl
      | cons e l ih =>
        obtain ⟨a, x⟩ := e
        simp at h
        simp [Tbl.get, h.1, ih (by simpa using h.2)]
    simp [State.gateOut, State.ch, this, ChCtl.enable]

/-! ### Commands from a calm state -/

theorem State.domHook_same (s old : State) (d : Nat) (h : old.domUsable d = s.domUsable d) : s.domHook old d = s := by
  simp [State.domHook, h]

/-- With nothing to take up at its end, a command ends with its effect and the pins. -/
theorem State.finish_calm (u : State) (h1 : u.cal.step = .idle) (h2 : (u.lk u.cal.ch).calRsp = none)
    (h3 : u.cel.results = []) : u.finish = .next u.settle := by
  have a : u.calOnRsp = u := by unfold State.calOnRsp; simp [h2]
  have b : u.calWatch = u := by unfold State.calWatch State.calBroken; simp [h1]
  have c : u.cfgWatch = u := by unfold State.cfgWatch; simp [h3]
  have d : u.kprWatch = u := by unfold State.kprWatch; simp [h3]
  unfold State.finish
  rw [a, b, c, d]; rfl

/-- A command from a calm state whose effect leaves the domains usable or not as they were, and nothing to take up. -/
theorem State.live_calm (s : State) (dt : Elapse) (f : State → State) (h : (s.advance dt).calm)
    (hm : (f (s.advance dt)).mach.st.usable = (s.advance dt).mach.st.usable)
    (hn : (f (s.advance dt)).mains.st.usable = (s.advance dt).mains.st.usable)
    (h1 : (f (s.advance dt)).cal.step = .idle)
    (h2 : ((f (s.advance dt)).lk (f (s.advance dt)).cal.ch).calRsp = none)
    (h3 : (f (s.advance dt)).cel.results = []) :
    s.live dt f = .next (f (s.advance dt)).settle := by
  unfold State.live
  simp only [h.1, ne_eq, not_true_eq_false, if_false]
  rw [State.domHook_same _ _ 0 (by simp [State.domUsable, hm]), State.domHook_same _ _ 1 (by simp [State.domUsable, hn])]
  exact State.finish_calm _ h1 h2 h3

/-- The same for an effect `u` that leaves the domains, the calibration and the Cellar's outbox alone. -/
theorem State.live_to {s a u : State} {dt : Elapse} {f : State → State} (ha : s.advance dt = a) (h : a.calm)
    (hf : f a = u) (h1 : u.mach = a.mach := by rfl) (h2 : u.mains = a.mains := by rfl) (h3 : u.cal = a.cal := by rfl)
    (h4 : u.link = a.link := by rfl) (h5 : u.cel = a.cel := by rfl) : s.live dt f = .next u.settle := by
  subst ha hf
  exact State.live_calm s dt f h (by rw [h1]) (by rw [h2]) (by rw [h3]; exact h.2.1)
    (by unfold State.lk; rw [h3, h4]; exact h.2.2.1) (by rw [h5]; exact h.2.2.2)

/-- A host command after the commit. -/
theorem State.hosted_to {s a u : State} {dt : Elapse} {f : State → State} (ha : s.advance dt = a) (h : a.calm)
    (hc : a.committed = true) (hf : f a = u) (h1 : u.mach = a.mach := by rfl) (h2 : u.mains = a.mains := by rfl)
    (h3 : u.cal = a.cal := by rfl) (h4 : u.link = a.link := by rfl) (h5 : u.cel = a.cel := by rfl) :
    s.hosted dt f = .next u.settle :=
  State.live_to ha h (by simp [hc, hf]) h1 h2 h3 h4 h5

/-- A command that only lets time pass. -/
theorem State.live_id (s : State) (dt : Elapse) (f : State → State) (h : (s.advance dt).calm)
    (hf : f (s.advance dt) = s.advance dt) : s.live dt f = .next (s.advance dt).settle := by
  have := State.live_calm s dt f h (by rw [hf]) (by rw [hf]) (by rw [hf]; exact h.2.1) (by rw [hf]; exact h.2.2.1)
    (by rw [hf]; exact h.2.2.2)
  rw [this, hf]

/-- While a reset is held, only time passes (R473). -/
theorem State.live_held (s : State) (dt : Elapse) (f : State → State) (h : (s.advance dt).pwr.held ≠ 0) :
    s.live dt f = .next (s.advance dt).settle := by
  unfold State.live State.done
  simp [h]

theorem State.live_next (s : State) (dt : Elapse) (f : State → State) : ∃ u, s.live dt f = .next (State.settle u) := by
  unfold State.live State.finish State.done
  simp only
  split <;> exact ⟨_, rfl⟩

theorem State.power_next (s : State) (dt : Elapse) (f : State → State) : ∃ u, s.power dt f = .next (State.settle u) := by
  unfold State.power State.finish State.done
  simp only
  split <;> exact ⟨_, rfl⟩

end Sys2Proof.Machine
end

