-- ==== Sys2Proof/Laws/Regs.lean ====
section
/-!
SUPPORT. Registers: reads after writes, fields and flags.
-/

namespace Sys2Proof.Machine

/-! ### Bits of a word -/

@[simp] theorem bits_ofNat_zero (lo w : Nat) : bits (0#32) lo w = 0 := by simp [bits]

theorem bits_lt {n : Nat} (x : BitVec n) (lo w : Nat) : bits x lo w < 2 ^ w := Nat.mod_lt _ (Nat.two_pow_pos w)

/-- Bit `j` of a number divided and cut. -/
theorem bits_testBit {n : Nat} (x : BitVec n) (lo w j : Nat) :
    (bits x lo w).testBit j = (decide (j < w) && x.getLsbD (lo + j)) := by
  unfold bits
  rw [Nat.testBit_mod_two_pow, Nat.testBit_div_two_pow, BitVec.getLsbD, Nat.add_comm]

theorem bit_eq {n : Nat} (x : BitVec n) (i : Nat) : bit x i = x.getLsbD i := rfl

@[simp] theorem bit_setBit {n : Nat} (x : BitVec n) (i j : Nat) (h : j < n) :
    bit (setBit x i) j = (bit x j || decide (i = j)) := by
  unfold bit setBit
  rw [BitVec.getLsbD_or, BitVec.getLsbD_ofNat, Nat.testBit_two_pow]
  simp [h]

@[simp] theorem bit_clrBit {n : Nat} (x : BitVec n) (i j : Nat) (h : j < n) :
    bit (clrBit x i) j = (bit x j && !decide (i = j)) := by
  unfold bit clrBit
  rw [BitVec.getLsbD_and, BitVec.getLsbD_not, BitVec.getLsbD_ofNat, Nat.testBit_two_pow]
  simp [h]

theorem bit_putBit {n : Nat} (x : BitVec n) (i j : Nat) (b : Bool) (h : j < n) :
    bit (putBit x i b) j = if i = j then b else bit x j := by
  unfold putBit
  cases b <;> by_cases hij : i = j <;> simp [h, hij]

/-- Bit `i` of a word with a field replaced. -/
theorem getLsbD_setBits {n : Nat} (x : BitVec n) (lo w v i : Nat) (h : lo + w ≤ n) :
    (setBits x lo w v).getLsbD i = if lo ≤ i ∧ i < lo + w then v.testBit (i - lo) else x.getLsbD i := by
  have hx := x.isLt
  have key : x.toNat - x.toNat / 2 ^ lo % 2 ^ w * 2 ^ lo + v % 2 ^ w * 2 ^ lo
      = 2 ^ (lo + w) * (x.toNat / 2 ^ (lo + w)) + (2 ^ lo * (v % 2 ^ w) + x.toNat % 2 ^ lo) := by
    have h1 : x.toNat / 2 ^ lo / 2 ^ w = x.toNat / 2 ^ (lo + w) := by rw [Nat.div_div_eq_div_mul, Nat.pow_add]
    have h2 := Nat.div_add_mod x.toNat (2 ^ lo)
    have h3 := Nat.div_add_mod (x.toNat / 2 ^ lo) (2 ^ w)
    rw [h1] at h3
    have h4 : 2 ^ lo * (x.toNat / 2 ^ lo) = 2 ^ (lo + w) * (x.toNat / 2 ^ (lo + w)) + 2 ^ lo * (x.toNat / 2 ^ lo % 2 ^ w) := by
      have h5 := congrArg (fun y => 2 ^ lo * y) h3
      simp only [Nat.mul_add, ← Nat.mul_assoc, ← Nat.pow_add] at h5
      exact h5.symm
    rw [Nat.mul_comm _ (2 ^ lo), Nat.mul_comm _ (2 ^ lo)]
    omega
  have hlow : 2 ^ lo * (v % 2 ^ w) + x.toNat % 2 ^ lo < 2 ^ (lo + w) := by
    have a := Nat.mod_lt v (Nat.two_pow_pos w)
    have b := Nat.mod_lt x.toNat (Nat.two_pow_pos lo)
    rw [Nat.pow_add]
    calc 2 ^ lo * (v % 2 ^ w) + x.toNat % 2 ^ lo < 2 ^ lo * (v % 2 ^ w) + 2 ^ lo := by omega
      _ = 2 ^ lo * (v % 2 ^ w + 1) := by rw [Nat.mul_add, Nat.mul_one]
      _ ≤ 2 ^ lo * 2 ^ w := Nat.mul_le_mul_left _ (by omega)
  unfold setBits
  rw [key, BitVec.getLsbD_ofNat, Nat.testBit_two_pow_mul_add _ hlow]
  by_cases hi : i < lo + w
  · rw [if_pos hi, Nat.testBit_two_pow_mul_add _ (Nat.mod_lt _ (Nat.two_pow_pos lo))]
    have hn : decide (i < n) = true := decide_eq_true (by omega)
    by_cases hl : i < lo
    · rw [if_pos hl, if_neg (by omega), hn, Bool.true_and, Nat.testBit_mod_two_pow]
      simp [hl, BitVec.getLsbD]
    · rw [if_neg hl, if_pos (by omega), hn, Bool.true_and, Nat.testBit_mod_two_pow]
      have : i - lo < w := by omega
      simp [this]
  · rw [if_neg hi, if_neg (by omega), Nat.testBit_div_two_pow]
    rw [show i - (lo + w) + (lo + w) = i from by omega]
    by_cases hn : i < n
    · simp [hn, BitVec.getLsbD]
    · simp only [hn, decide_false, Bool.false_and]
      exact (BitVec.getLsbD_of_ge _ _ (by omega)).symm

theorem bit_setBits {n : Nat} (x : BitVec n) (lo w v i : Nat) (h : lo + w ≤ n) :
    bit (setBits x lo w v) i = if lo ≤ i ∧ i < lo + w then v.testBit (i - lo) else bit x i := getLsbD_setBits x lo w v i h

/-- A field read after it was replaced. -/
theorem bits_setBits {n : Nat} (x : BitVec n) (lo w v : Nat) (h : lo + w ≤ n) : bits (setBits x lo w v) lo w = v % 2 ^ w := by
  apply Nat.eq_of_testBit_eq
  intro j
  rw [bits_testBit, getLsbD_setBits _ _ _ _ _ h, Nat.testBit_mod_two_pow]
  by_cases hj : j < w
  · simp [hj]
  · simp [hj]

/-- Another field read after one was replaced. -/
theorem bits_setBits_ne {n : Nat} (x : BitVec n) (lo w v lo' w' : Nat) (h : lo + w ≤ n) (hd : lo' + w' ≤ lo ∨ lo + w ≤ lo') :
    bits (setBits x lo w v) lo' w' = bits x lo' w' := by
  apply Nat.eq_of_testBit_eq
  intro j
  rw [bits_testBit, bits_testBit, getLsbD_setBits _ _ _ _ _ h]
  by_cases hj : j < w'
  · rw [if_neg (by omega)]
  · simp [hj]

/-! ### Reads after writes -/

theorem State.rd_wr (s : State) (k j : Nat) (v : Word) : (s.wr k v).rd j = if j = k then v else s.rd j := by
  unfold State.rd
  rw [State.wr_regs, Tbl.get_put]

@[simp] theorem State.rd_wr_self (s : State) (k : Nat) (v : Word) : (s.wr k v).rd k = v := by simp [State.rd_wr]

theorem State.rd_wr_ne (s : State) {k j : Nat} (v : Word) (h : j ≠ k) : (s.wr k v).rd j = s.rd j := by simp [State.rd_wr, h]

theorem State.rd_wf (s : State) (k lo w v j : Nat) :
    (s.wf k lo w v).rd j = if j = k then setBits (s.rd k) lo w v else s.rd j := State.rd_wr _ _ _ _

theorem State.rd_wb (s : State) (k i j : Nat) (b : Bool) :
    (s.wb k i b).rd j = if j = k then putBit (s.rd k) i b else s.rd j := State.rd_wr _ _ _ _

/-- A flag that hardware sets reads 1; no other register changes (R12). -/
theorem State.rd_flag (s : State) (k i j : Nat) :
    (s.flag k i).rd j = if j = k then putBit (s.rd k) i true else s.rd j := State.rd_wb s k i j true

theorem State.rd_congr {s t : State} (h : s.regs = t.regs) (k : Nat) : s.rd k = t.rd k := by unfold State.rd; rw [h]

theorem State.rd_incSat (s : State) (k lo w j : Nat) :
    (s.incSat k lo w).rd j = if j = k then setBits (s.rd k) lo w (min (s.rf k lo w + 1) (2 ^ w - 1)) else s.rd j :=
  (State.rd_congr (s := s.incSat k lo w) (t := s.wf k lo w (min (s.rf k lo w + 1) (2 ^ w - 1))) rfl j).trans (State.rd_wf ..)

theorem State.rd_incWrap (s : State) (k lo w j : Nat) :
    (s.incWrap k lo w).rd j = if j = k then setBits (s.rd k) lo w (s.rf k lo w + 1) else s.rd j :=
  (State.rd_congr (s := s.incWrap k lo w) (t := s.wf k lo w (s.rf k lo w + 1)) rfl j).trans (State.rd_wf ..)

@[simp] theorem State.rd_launch (s : State) (p j : Nat) : (s.launch p).rd j = s.rd j := rfl
@[simp] theorem State.rd_report (s : State) (x c j : Nat) : (s.report x c).rd j = s.rd j := rfl
@[simp] theorem State.rd_settle (s : State) (j : Nat) : s.settle.rd j = s.rd j := rfl

/-! ### Units after updates -/

theorem State.ch_setCh (s : State) (n m : Nat) (c : ChCtl) : (s.setCh n c).ch m = if m = n then c else s.ch m := Tbl.get_put ..
theorem State.gp_setGp (s : State) (n m : Nat) (x : Gpg) : (s.setGp n x).gp m = if m = n then x else s.gp m := Tbl.get_put ..
theorem State.lp_setLp (s : State) (n m : Nat) (x : ChLoop) : (s.setLp n x).lp m = if m = n then x else s.lp m := Tbl.get_put ..
theorem State.tile_setTile (s : State) (n m : Nat) (x : Tile) : (s.setTile n x).tile m = if m = n then x else s.tile m := Tbl.get_put ..
theorem State.wtrk_setTrk (s : State) (n m : Nat) (x : Trk) : (s.setTrk n x).wtrk m = if m = n then x else s.wtrk m := Tbl.get_put ..
theorem State.ms_setMs (s : State) (n m : Nat) (x : Meas) : (s.setMs n x).ms m = if m = n then x else s.ms m := Tbl.get_put ..
theorem State.rg_setRg (s : State) (n m : Nat) (x : Rng) : (s.setRg n x).rg m = if m = n then x else s.rg m := Tbl.get_put ..
theorem State.mo_setMo (s : State) (n m : Nat) (x : Mon) : (s.setMo n x).mo m = if m = n then x else s.mo m := Tbl.get_put ..
theorem State.lk_setLk (s : State) (n m : Nat) (x : Link) : (s.setLk n x).lk m = if m = n then x else s.lk m := Tbl.get_put ..
theorem State.cc_setCc (s : State) (n m : Nat) (x : ChCal) : (s.setCc n x).cc m = if m = n then x else s.cc m := Tbl.get_put ..
theorem State.ctx_setCtx (s : State) (n m : Nat) (x : Ctx) : (s.setCtx n x).ctx m = if m = n then x else s.ctx m := Tbl.get_put ..
theorem State.eng_setEng (s : State) (n m : Nat) (x : Eng) : (s.setEng n x).eng m = if m = n then x else s.eng m := Tbl.get_put ..
theorem State.alarm_setAlarm (s : State) (n m : Nat) (x : Alarm) : (s.setAlarm n x).alarm m = if m = n then x else s.alarm m := Tbl.get_put ..
theorem State.bank_setBank (s : State) (n m : Nat) (x : Bank) : (s.setBank n x).bank m = if m = n then x else s.bank m := Tbl.get_put ..
theorem State.chute_setChute (s : State) (n m : Nat) (x : Chute) : (s.setChute n x).chute m = if m = n then x else s.chute m := Tbl.get_put ..
theorem State.src_setSrc (s : State) (n m : Nat) (x : Src) : (s.setSrc n x).src m = if m = n then x else s.src m := Tbl.get_put ..
theorem State.hw_setHw (s : State) (n m : Nat) (x : HwyCh) : (s.setHw n x).hw m = if m = n then x else s.hw m := Tbl.get_put ..
theorem State.ti_setTi (s : State) (n m : Nat) (x : HwyTi) : (s.setTi n x).ti m = if m = n then x else s.ti m := Tbl.get_put ..
theorem State.md_setMd (s : State) (n m : Nat) (x : ModeReq) : (s.setMd n x).md m = if m = n then x else s.md m := Tbl.get_put ..

/-! ### Addresses of a channel's registers (R519) -/

theorem isCh_chA {n o : Nat} (hn : n < 128) (ho : o < 0x1000) : isCh (chA n o) = true := by
  have h1 : 0x100000 ≤ chA n o := by unfold chA; omega
  have h2 : chA n o < 0x180000 := by unfold chA; omega
  unfold isCh
  rw [decide_eq_true h1, decide_eq_true h2]; rfl

theorem chOf_chA {n o : Nat} (ho : o < 0x1000) : chOf (chA n o) = n := by
  unfold chOf chA; omega

theorem chA_mod {n o : Nat} (ho : o < 0x1000) : chA n o % 0x1000 = o := by
  unfold chA; omega

theorem regRow_chA {n o : Nat} (hn : n < 128) (ho : o < 0x1000) (h4 : o % 4 = 0) : regRow (chA n o) = rowAt chRows o := by
  have h : chA n o = 0x100000 + n * 0x1000 + o := rfl
  unfold regRow
  rw [if_neg (by omega)]
  iterate 20 (rw [if_neg (by omega)])
  rw [if_pos (by omega), chA_mod ho]

theorem inPantry_chA {n o : Nat} (hn : n < 128) (ho : o < 0x1000) : inPantry (chA n o) = false := by
  have h : chA n o = 0x100000 + n * 0x1000 + o := rfl
  simp only [inPantry, Bool.and_eq_false_iff, decide_eq_false_iff_not]; left; left; omega

end Sys2Proof.Machine
end

