-- ==== Sys2Proof/Laws/Chan.lean ====
section
/-!
SUPPORT. What a channel's transition does (R60): which parts of the state it may change, and where the channel stands
after it.
-/

namespace Sys2Proof.Machine

/-- The state without the parts that a channel's transition may change. -/
def State.offChan (s : State) : State :=
  { s with ctl := [], gpg := [], loop := [], rng := [], meas := [], regs := [], tickSet := [], tickInc := [], snaps := [],
           launched := [], reports := [] }

/-- Everything that lies outside channel `n`: those parts left out, then the other channels' units and registers. -/
def State.offN (s : State) (n : Nat) :
    State × (Nat → ChCtl) × (Nat → Gpg) × (Nat → ChLoop) × (Nat → Rng) × (Nat → Meas) × (Nat → Word) :=
  (s.offChan, fun m => if m = n then {} else s.ch m, fun m => if m = n then {} else s.gp m,
   fun m => if m = n then {} else s.lp m, fun m => if m = n then {} else s.rg m, fun m => if m = n then {} else s.ms m,
   fun k => if k / 0x1000 = 0x100 + n then 0#32 else s.rd k)

/-- Nothing but those parts differs. -/
theorem State.chan_frame {u a : State} {n : Nat} (h : u.offN n = a.offN n) :
    { u with ctl := a.ctl, gpg := a.gpg, loop := a.loop, rng := a.rng, meas := a.meas, regs := a.regs, tickSet := a.tickSet,
             tickInc := a.tickInc, snaps := a.snaps, launched := a.launched, reports := a.reports } = a := by
  have h : u.offChan = a.offChan := congrArg (fun x => x.1) h
  have g := congrArg (fun x : State =>
    { x with ctl := a.ctl, gpg := a.gpg, loop := a.loop, rng := a.rng, meas := a.meas, regs := a.regs, tickSet := a.tickSet,
             tickInc := a.tickInc, snaps := a.snaps, launched := a.launched, reports := a.reports }) h
  exact g

theorem State.chan_ch {u a : State} {n m : Nat} (h : u.offN n = a.offN n) (hm : m ≠ n) : u.ch m = a.ch m := by
  have := congrFun (congrArg (fun x => x.2.1) h) m; simpa [State.offN, hm] using this
theorem State.chan_gp {u a : State} {n m : Nat} (h : u.offN n = a.offN n) (hm : m ≠ n) : u.gp m = a.gp m := by
  have := congrFun (congrArg (fun x => x.2.2.1) h) m; simpa [State.offN, hm] using this
theorem State.chan_lp {u a : State} {n m : Nat} (h : u.offN n = a.offN n) (hm : m ≠ n) : u.lp m = a.lp m := by
  have := congrFun (congrArg (fun x => x.2.2.2.1) h) m; simpa [State.offN, hm] using this
theorem State.chan_rg {u a : State} {n m : Nat} (h : u.offN n = a.offN n) (hm : m ≠ n) : u.rg m = a.rg m := by
  have := congrFun (congrArg (fun x => x.2.2.2.2.1) h) m; simpa [State.offN, hm] using this
theorem State.chan_ms {u a : State} {n m : Nat} (h : u.offN n = a.offN n) (hm : m ≠ n) : u.ms m = a.ms m := by
  have := congrFun (congrArg (fun x => x.2.2.2.2.2.1) h) m; simpa [State.offN, hm] using this
theorem State.chan_rd {u a : State} {n k : Nat} (h : u.offN n = a.offN n) (hk : k / 0x1000 ≠ 0x100 + n) : u.rd k = a.rd k := by
  have := congrFun (congrArg (fun x => x.2.2.2.2.2.2) h) k; simpa [State.offN, hk] using this

/-- What leaves everything outside the channel alone changes only the channel. -/
theorem State.onlyChan_of {u a : State} {n : Nat} (h : u.offN n = a.offN n) : u.onlyChan a n :=
  ⟨fun _ hm => ⟨State.chan_ch h hm, State.chan_gp h hm, State.chan_lp h hm, State.chan_rg h hm, State.chan_ms h hm⟩,
   fun _ hk => State.chan_rd h hk, State.chan_frame h⟩

theorem chA_div {n o : Nat} (h : o < 0x1000) : chA n o / 0x1000 = 0x100 + n := by unfold chA; omega

theorem put_off {α : Type} (d : α) (t : Tbl α) (n : Nat) (x : α) :
    (fun m => if m = n then d else Tbl.get d (Tbl.put t n x) m) = (fun m => if m = n then d else Tbl.get d t m) := by
  funext m; by_cases h : m = n
  · simp [h]
  · simp only [h, if_false]; exact Tbl.get_put_ne _ _ _ h

@[simp] theorem State.offN_setCh (s : State) (n : Nat) (c : ChCtl) : (s.setCh n c).offN n = s.offN n := by
  have h := put_off {} (s.ctl) n c
  unfold State.offN
  refine Prod.ext rfl (Prod.ext ?_ (Prod.ext ?_ (Prod.ext ?_ (Prod.ext ?_ (Prod.ext ?_ rfl))))) <;> first | rfl | exact h
@[simp] theorem State.offN_setGp (s : State) (n : Nat) (c : Gpg) : (s.setGp n c).offN n = s.offN n := by
  have h := put_off {} (s.gpg) n c
  unfold State.offN
  refine Prod.ext rfl (Prod.ext ?_ (Prod.ext ?_ (Prod.ext ?_ (Prod.ext ?_ (Prod.ext ?_ rfl))))) <;> first | rfl | exact h
@[simp] theorem State.offN_setLp (s : State) (n : Nat) (c : ChLoop) : (s.setLp n c).offN n = s.offN n := by
  have h := put_off {} (s.loop) n c
  unfold State.offN
  refine Prod.ext rfl (Prod.ext ?_ (Prod.ext ?_ (Prod.ext ?_ (Prod.ext ?_ (Prod.ext ?_ rfl))))) <;> first | rfl | exact h
@[simp] theorem State.offN_setRg (s : State) (n : Nat) (c : Rng) : (s.setRg n c).offN n = s.offN n := by
  have h := put_off {} (s.rng) n c
  unfold State.offN
  refine Prod.ext rfl (Prod.ext ?_ (Prod.ext ?_ (Prod.ext ?_ (Prod.ext ?_ (Prod.ext ?_ rfl))))) <;> first | rfl | exact h
@[simp] theorem State.offN_setMs (s : State) (n : Nat) (c : Meas) : (s.setMs n c).offN n = s.offN n := by
  have h := put_off {} (s.meas) n c
  unfold State.offN
  refine Prod.ext rfl (Prod.ext ?_ (Prod.ext ?_ (Prod.ext ?_ (Prod.ext ?_ (Prod.ext ?_ rfl))))) <;> first | rfl | exact h
@[simp] theorem State.offN_modCh (s : State) (n : Nat) (f : ChCtl → ChCtl) : (s.modCh n f).offN n = s.offN n := State.offN_setCh ..
@[simp] theorem State.offN_modGp (s : State) (n : Nat) (f : Gpg → Gpg) : (s.modGp n f).offN n = s.offN n := State.offN_setGp ..
@[simp] theorem State.offN_modLp (s : State) (n : Nat) (f : ChLoop → ChLoop) : (s.modLp n f).offN n = s.offN n := State.offN_setLp ..
@[simp] theorem State.offN_modRg (s : State) (n : Nat) (f : Rng → Rng) : (s.modRg n f).offN n = s.offN n := State.offN_setRg ..
@[simp] theorem State.offN_modMs (s : State) (n : Nat) (f : Meas → Meas) : (s.modMs n f).offN n = s.offN n := State.offN_setMs ..

/-- A register of the channel is written. -/
theorem State.offN_wr (s : State) {n k : Nat} (v : Word) (h : k / 0x1000 = 0x100 + n) : (s.wr k v).offN n = s.offN n := by
  unfold State.offN
  refine Prod.ext rfl (Prod.ext rfl (Prod.ext rfl (Prod.ext rfl (Prod.ext rfl (Prod.ext rfl ?_)))))
  funext j
  by_cases hj : j / 0x1000 = 0x100 + n
  · simp [hj]
  · simp only [hj, if_false]
    exact State.rd_wr_ne _ _ (by intro e; exact hj (e ▸ h))

@[simp] theorem State.offN_wrA (s : State) (n o : Nat) (v : Word) (h : o < 0x1000) : (s.wr (chA n o) v).offN n = s.offN n :=
  s.offN_wr v (chA_div h)
@[simp] theorem State.offN_wf (s : State) (n o lo w v : Nat) (h : o < 0x1000) : (s.wf (chA n o) lo w v).offN n = s.offN n :=
  s.offN_wr _ (chA_div h)
@[simp] theorem State.offN_wr64 (s : State) (n o : Nat) (v : DWord) (h : o + 4 < 0x1000) :
    (s.wr64 (chA n o) v).offN n = s.offN n := by
  unfold State.wr64
  rw [show chA n o + 4 = chA n (o + 4) from rfl, State.offN_wrA _ _ _ _ h, State.offN_wrA _ _ _ _ (by omega)]
@[simp] theorem State.offN_flag (s : State) (n o i : Nat) (h : o < 0x1000) : (s.flag (chA n o) i).offN n = s.offN n :=
  s.offN_wr (putBit (s.rd (chA n o)) i true) (chA_div h)
@[simp] theorem State.offN_launch (s : State) (p n : Nat) : (s.launch p).offN n = s.offN n := rfl
@[simp] theorem State.offN_report (s : State) (x c n : Nat) : (s.report x c).offN n = s.offN n := rfl
@[simp] theorem State.offN_chFlag (s : State) (n c : Nat) : (s.chFlag n c).offN n = s.offN n := by
  refine State.offN_flag _ _ _ _ ?_
  unfold chFlagOff; repeat' split
  all_goals decide
@[simp] theorem State.offN_chFault (s : State) (n c : Nat) : (s.chFault n c).offN n = s.offN n :=
  (State.offN_report ..).trans (State.offN_chFlag ..)
@[simp] theorem State.offN_incWrap (s : State) (n o lo w : Nat) (h : o < 0x1000) :
    (s.incWrap (chA n o) lo w).offN n = s.offN n := s.offN_wr _ (chA_div h)
@[simp] theorem State.offN_incSat (s : State) (n o lo w : Nat) (h : o < 0x1000) :
    (s.incSat (chA n o) lo w).offN n = s.offN n := s.offN_wr _ (chA_div h)
@[simp] theorem State.offN_setIact (s : State) (n r : Nat) : (s.setIact n r).offN n = s.offN n := State.offN_wf _ _ _ _ _ _ (by decide)
@[simp] theorem State.offN_setVact (s : State) (n r : Nat) : (s.setVact n r).offN n = s.offN n := State.offN_wf _ _ _ _ _ _ (by decide)
@[simp] theorem State.offN_launched (s : State) (n : Nat) (l : List Launch) : { s with launched := l }.offN n = s.offN n := rfl
@[simp] theorem State.offN_snaps (s : State) (n : Nat) (l : Tbl (Option TickSnap)) : { s with snaps := l }.offN n = s.offN n := rfl
@[simp] theorem State.offN_lr (s : State) (n : Nat) (l : List Launch) (r : List Report) :
    { s with launched := l, reports := r }.offN n = s.offN n := rfl

@[simp] theorem State.offN_apMark (s : State) (n b : Nat) : (s.apMark n b).offN n = s.offN n := by
  unfold State.apMark; dsimp only; split <;> simp
@[simp] theorem State.offN_rangeDone (s : State) (n : Nat) : (s.rangeDone n).offN n = s.offN n := by
  unfold State.rangeDone; simp
@[simp] theorem State.offN_cancelXf (s : State) (n : Nat) : (s.cancelXf n).offN n = s.offN n := by
  unfold State.cancelXf; dsimp only
  split
  · split
    · simp
    · split <;> simp
  · rfl
@[simp] theorem State.offN_loseMbb (s : State) (n : Nat) : (s.loseMbb n).offN n = s.offN n := by
  unfold State.loseMbb; dsimp only; split <;> split <;> simp
@[simp] theorem State.offN_endNotch (s : State) (n : Nat) : (s.endNotch n).offN n = s.offN n := by
  unfold State.endNotch; simp
@[simp] theorem State.offN_stopTrain (s : State) (n : Nat) : (s.stopTrain n).offN n = s.offN n := State.offN_setGp ..
@[simp] theorem State.offN_leaveReg (s : State) (n : Nat) (tgt : ChState) : (s.leaveReg n tgt).offN n = s.offN n := by
  unfold State.leaveReg
  simp only [State.offN_modLp]
  split
  · rw [State.offN_modGp]; split
    · rw [State.offN_endNotch, State.offN_cancelXf]
    · rw [State.offN_cancelXf]
  · rw [State.offN_stopTrain, State.offN_cancelXf]
@[simp] theorem State.offN_announce (s : State) (n : Nat) (tgt : ChState) (code : Nat) :
    (s.announce n tgt code).offN n = s.offN n := by
  unfold State.announce
  cases tgt <;> simp only [] <;> (repeat' split) <;> simp

/-- A transition changes only the parts of channel `n` and those that `offChan` names. -/
@[simp] theorem State.offN_enter (s : State) (n : Nat) (tgt : ChState) (code : Nat) : (s.enter n tgt code).offN n = s.offN n := by
  unfold State.enter
  simp only [State.offN_announce]
  (repeat' split) <;> simp

theorem State.offN_tryCause (s : State) (n code : Nat) (x : Option TickSnap) : (s.tryCause n code x).offN n = s.offN n := by
  unfold State.tryCause
  split
  · rfl
  · exact State.offN_enter ..

theorem State.offN_undo (s : State) (n : Nat) (x : TickSnap) : (s.undo n x).offN n = s.offN n := by
  unfold State.undo
  simp

/-- A cause changes only the parts of channel `n` and those that `offChan` names (R60, R61). -/
@[simp] theorem State.offN_cause (s : State) (n code : Nat) : (s.cause n code).offN n = s.offN n := by
  unfold State.cause
  split
  · exact State.offN_tryCause ..
  · split
    · split
      · rfl
      · rw [State.offN_tryCause, State.offN_undo]
    · split
      · split
        · exact State.offN_tryCause ..
        · simp
      · exact State.offN_tryCause ..

@[simp] theorem State.offN_latchCause (s : State) (n code : Nat) : (s.latchCause n code).offN n = s.offN n := by
  unfold State.latchCause; dsimp only; split
  · rfl
  · simp

/-! ### Where the channel stands after a transition (R60) -/

@[simp] theorem State.ctl_announce (s : State) (n : Nat) (tgt : ChState) (code : Nat) : (s.announce n tgt code).ctl = s.ctl := by
  unfold State.announce
  have hi : ∀ (t : State) (b : Bool) (x : Nat), (if b = true then t.chFlag n x else t).ctl = t.ctl := by
    intro t b x; cases b <;> rfl
  have htail : ∀ t : State, (if code = 0x04 then t.chFault n 6 else if code = 0x16 then t.chFlag n 11
      else if code = 0x12 then t.chFlag n 2 else if code = 0x13 ∨ code = 0x1B then t.chFlag n 3 else t).ctl = t.ctl := by
    intro t
    split
    · rfl
    · split
      · rfl
      · split
        · rfl
        · split <;> rfl
  refine (htail _).trans ?_
  cases tgt
  · rfl
  · rfl
  · rfl
  · exact (hi (if (s.lp n).clampPos = true then s.chFlag n 0 else s) (s.lp n).clampNeg 1).trans (hi s (s.lp n).clampPos 0)
  · rfl
  · rfl
  · rfl

theorem State.ch_congr {s t : State} (h : s.ctl = t.ctl) (n : Nat) : s.ch n = t.ch n := by unfold State.ch; rw [h]

theorem State.st_loseMbb (s : State) (n : Nat) : ((s.loseMbb n).ch n).st = (s.ch n).st := by
  have hr : ∀ (t : State) (r : Rng), (t.setRg n r).ch n = t.ch n := fun _ _ => rfl
  unfold State.loseMbb
  dsimp only
  split <;> split <;> simp [State.ch_setCh, hr]

theorem State.ctl_cancelXf (s : State) (n : Nat) : (s.cancelXf n).ctl = s.ctl := by
  have ha : ∀ (t : State) (b : Nat), (t.apMark n b).ctl = t.ctl := by
    intro t b; unfold State.apMark; dsimp only; split <;> rfl
  have hd : ∀ t : State, (t.rangeDone n).ctl = t.ctl := by
    intro t; unfold State.rangeDone
    exact (ha _ _).trans rfl
  unfold State.cancelXf; dsimp only
  split
  · split
    · rfl
    · split
      · rfl
      · exact (hd _).trans rfl
  · rfl

theorem State.ctl_leaveReg (s : State) (n : Nat) (tgt : ChState) : (s.leaveReg n tgt).ctl = s.ctl := by
  unfold State.leaveReg
  split
  · dsimp only
    split
    · exact (show ((s.cancelXf n).endNotch n).ctl = (s.cancelXf n).ctl from rfl).trans (State.ctl_cancelXf ..)
    · exact State.ctl_cancelXf ..
  · exact State.ctl_cancelXf ..

/-- What a transition does before the new record is stored. -/
def State.preEnter (s : State) (n : Nat) (tgt : ChState) (code : Nat) : State :=
  let c := s.ch n
  let s := if c.st.reg && !tgt.reg then s.leaveReg n tgt else s
  let s := if c.st == .hold && code != 0x1A && code != 0x0D then s.loseMbb n else s
  if !tgt.live then s.stopTrain n else s

/-- What it does from then on, up to the announcements. -/
def State.midEnter (t : State) (n : Nat) (st tgt : ChState) (code : Nat) : State :=
  let s := t.setCh n (t.entered n tgt code)
  let s := s.modLp n (fun l => l.entered st tgt code)
  if tgt == .arming && s.autoOn n then s.setIact n (s.arStart n) else s

theorem State.enter_eq (s : State) (n : Nat) (tgt : ChState) (code : Nat) :
    s.enter n tgt code = ((s.preEnter n tgt code).midEnter n (s.ch n).st tgt code).announce n tgt code := rfl

theorem State.ch_midEnter (t : State) (n : Nat) (st tgt : ChState) (code : Nat) :
    (t.midEnter n st tgt code).ch n = t.entered n tgt code := by
  have key : ∀ (y : State) (b : Bool) (r : Nat), (if b = true then y.setIact n r else y).ch n = y.ch n := by
    intro y b r; cases b <;> rfl
  unfold State.midEnter
  dsimp only
  refine (key _ _ _).trans ?_
  exact (State.ch_setCh t n n _).trans (if_pos rfl)

theorem State.st_preEnter (s : State) (n : Nat) (tgt : ChState) (code : Nat) : ((s.preEnter n tgt code).ch n).st = (s.ch n).st := by
  have h1 : ∀ (t : State) (b : Bool), ((if b = true then t.leaveReg n tgt else t).ch n).st = (t.ch n).st := by
    intro t b; cases b
    · rfl
    · exact congrArg ChCtl.st (State.ch_congr (State.ctl_leaveReg ..) n)
  have h2 : ∀ (t : State) (b : Bool), ((if b = true then t.loseMbb n else t).ch n).st = (t.ch n).st := by
    intro t b; cases b
    · rfl
    · exact State.st_loseMbb ..
  have h3 : ∀ (t : State) (b : Bool), (if b = true then t.stopTrain n else t).ch n = t.ch n := by
    intro t b; cases b <;> rfl
  unfold State.preEnter
  dsimp only
  rw [h3, h2, h1]

theorem State.offN_preEnter (s : State) (n : Nat) (tgt : ChState) (code : Nat) : (s.preEnter n tgt code).offN n = s.offN n := by
  have h1 : ∀ (t : State) (b : Bool), (if b = true then t.leaveReg n tgt else t).offN n = t.offN n := by
    intro t b; cases b
    · rfl
    · exact State.offN_leaveReg ..
  have h2 : ∀ (t : State) (b : Bool), (if b = true then t.loseMbb n else t).offN n = t.offN n := by
    intro t b; cases b
    · rfl
    · exact State.offN_loseMbb ..
  have h3 : ∀ (t : State) (b : Bool), (if b = true then t.stopTrain n else t).offN n = t.offN n := by
    intro t b; cases b
    · rfl
    · exact State.offN_stopTrain ..
  unfold State.preEnter
  dsimp only
  rw [h3, h2, h1]

/-- The channel's record after a transition is that of R60, made from a record that still says the state before. -/
theorem State.ch_enter (s : State) (n : Nat) (tgt : ChState) (code : Nat) :
    ∃ t : State, (t.ch n).st = (s.ch n).st ∧ t.htick = s.htick ∧ (s.enter n tgt code).ch n = t.entered n tgt code := by
  refine ⟨s.preEnter n tgt code, State.st_preEnter .., congrArg (fun z => z.1.htick) (State.offN_preEnter s n tgt code), ?_⟩
  rw [State.enter_eq, State.ch_congr (State.ctl_announce ..), State.ch_midEnter]

theorem State.enter_st (s : State) (n : Nat) (tgt : ChState) (code : Nat) : ((s.enter n tgt code).ch n).st = tgt := by
  obtain ⟨t, h1, _, h3⟩ := s.ch_enter n tgt code
  rw [h3]; unfold State.entered; cases tgt <;> dsimp only <;> (repeat' split) <;> rfl

theorem State.enter_cause (s : State) (n : Nat) (tgt : ChState) (code : Nat) : ((s.enter n tgt code).ch n).cause = code := by
  obtain ⟨t, h1, _, h3⟩ := s.ch_enter n tgt code
  rw [h3]; unfold State.entered; cases tgt <;> dsimp only <;> (repeat' split) <;> rfl

theorem State.enter_prev (s : State) (n : Nat) (tgt : ChState) (code : Nat) : ((s.enter n tgt code).ch n).prev = (s.ch n).st := by
  obtain ⟨t, h1, _, h3⟩ := s.ch_enter n tgt code
  rw [h3, ← h1]; unfold State.entered; cases tgt <;> dsimp only <;> (repeat' split) <;> rfl

theorem State.enter_transTs (s : State) (n : Nat) (tgt : ChState) (code : Nat) : ((s.enter n tgt code).ch n).transTs = s.htick := by
  obtain ⟨t, h1, h2, h3⟩ := s.ch_enter n tgt code
  rw [h3, ← h2]; unfold State.entered; cases tgt <;> dsimp only <;> (repeat' split) <;> rfl

theorem State.enter_edge (s : State) (n : Nat) (tgt : ChState) (code : Nat) : ((s.enter n tgt code).ch n).edge = none := by
  obtain ⟨t, h1, h2, h3⟩ := s.ch_enter n tgt code
  rw [h3]; unfold State.entered; cases tgt <;> dsimp only <;> (repeat' split) <;> rfl

theorem State.enter_level (s : State) (n : Nat) {tgt : ChState} (code : Nat) (h : tgt = .quenched ∨ tgt = .fenced ∨ tgt = .arming) :
    ((s.enter n tgt code).ch n).level = 0#32 := by
  obtain ⟨t, h1, h2, h3⟩ := s.ch_enter n tgt code
  rw [h3]; unfold State.entered
  rcases h with h | h | h <;> subst h <;> rfl

theorem State.cause_first (s : State) (n code : Nat) (h : Tbl.get none s.snaps n = none) :
    s.cause n code = s.tryCause n code none := by unfold State.cause; rw [h]

/-- What a cause does that is the first of its tick (R60). -/
theorem State.cause_st (s : State) (n code : Nat) {tgt : ChState} (h : Tbl.get none s.snaps n = none)
    (ht : nextSt code (s.ch n).st = some tgt) :
    ((s.cause n code).ch n).st = tgt ∧ ((s.cause n code).ch n).cause = code ∧ ((s.cause n code).ch n).prev = (s.ch n).st
      ∧ ((s.cause n code).ch n).transTs = s.htick ∧ ((s.cause n code).ch n).edge = none
      ∧ (tgt = .quenched ∨ tgt = .fenced ∨ tgt = .arming → ((s.cause n code).ch n).level = 0#32) := by
  rw [State.cause_first s n code h]
  unfold State.tryCause
  rw [ht]
  exact ⟨State.enter_st .., State.enter_cause .., State.enter_prev .., State.enter_transTs .., State.enter_edge ..,
    fun hh => State.enter_level _ _ _ hh⟩

/-- A cause without a transition from the present state does nothing. -/
theorem State.cause_none (s : State) (n code : Nat) (h : Tbl.get none s.snaps n = none) (ht : nextSt code (s.ch n).st = none) :
    s.cause n code = s := by
  rw [State.cause_first s n code h]; unfold State.tryCause; rw [ht]

/-! ### One bit of a wing's mask (R88) -/

theorem State.wngArm_one (a : State) {n : Nat} :
    a.wngArm (n / 16) ((BitVec.ofNat 16 (2 ^ (n % 16))).setWidth 32) = a.arm n := by
  have hm : n % 16 < 16 := Nat.mod_lt _ (by decide)
  have hd : 16 * (n / 16) + n % 16 = n := Nat.div_add_mod n 16
  have key : ∀ w j : Nat, j < 16 → a.wngArm w ((BitVec.ofNat 16 (2 ^ j)).setWidth 32) = a.arm (16 * w + j) := by
    intro w j hj
    have : j = 0 ∨ j = 1 ∨ j = 2 ∨ j = 3 ∨ j = 4 ∨ j = 5 ∨ j = 6 ∨ j = 7 ∨ j = 8 ∨ j = 9 ∨ j = 10 ∨ j = 11 ∨ j = 12 ∨ j = 13 ∨ j = 14 ∨ j = 15 := by omega
    rcases this with rfl | rfl | rfl | rfl | rfl | rfl | rfl | rfl | rfl | rfl | rfl | rfl | rfl | rfl | rfl | rfl <;> simp [State.wngArm, rangeFrom, bit] <;> rfl
  rw [key _ _ hm, hd]

theorem State.wngQuench_hard (a : State) {n : Nat} :
    a.wngQuench (n / 16) (BitVec.ofNat 16 (2 ^ (n % 16)) ++ 0#16) = a.hardQuench n := by
  have hm : n % 16 < 16 := Nat.mod_lt _ (by decide)
  have hd : 16 * (n / 16) + n % 16 = n := Nat.div_add_mod n 16
  have key : ∀ w j : Nat, j < 16 → a.wngQuench w (BitVec.ofNat 16 (2 ^ j) ++ 0#16) = a.hardQuench (16 * w + j) := by
    intro w j hj
    have : j = 0 ∨ j = 1 ∨ j = 2 ∨ j = 3 ∨ j = 4 ∨ j = 5 ∨ j = 6 ∨ j = 7 ∨ j = 8 ∨ j = 9 ∨ j = 10 ∨ j = 11 ∨ j = 12 ∨ j = 13 ∨ j = 14 ∨ j = 15 := by omega
    rcases this with rfl | rfl | rfl | rfl | rfl | rfl | rfl | rfl | rfl | rfl | rfl | rfl | rfl | rfl | rfl | rfl <;> simp [State.wngQuench, rangeFrom, bit] <;> rfl
  rw [key _ _ hm, hd]

/-- A rejected command sets cmd_rejected and its code, and nothing else (R63). -/
theorem State.rd_reject (s : State) (n code k : Nat) :
    (s.reject n code).rd k = if k = chA n 0x00C then setBits (putBit (s.rd (chA n 0x00C)) 7 true) 16 8 code else s.rd k := by
  unfold State.reject
  rw [State.rd_wf, State.rd_flag, if_pos rfl]
  by_cases h : k = chA n 0x00C
  · rw [if_pos h, if_pos h]
  · rw [if_neg h, if_neg h, State.rd_flag, if_neg h]

end Sys2Proof.Machine
end

