-- ==== Sys2Proof/Laws/Exec.lean ====
section
/-!
SUPPORT. The arm of every command by name, and that every command ends with a settled next state.
-/

namespace Sys2Proof.Machine

/-- The outcome is a next state whose pins follow. -/
def Settles (o : Host.Outcome State Fault Refusal) : Prop := ∃ u, o = .next (State.settle u)

/-! ### The arms -/

theorem exec_registerWrite (dt path addr value s) : exec (.registerWrite dt path addr value) s = execRegisterWrite dt path addr value s := rfl
theorem exec_pairLowRead (dt path addr s) : exec (.pairLowRead dt path addr) s = execPairLowRead dt path addr s := rfl
theorem exec_pairLowWrite (dt path addr value s) : exec (.pairLowWrite dt path addr value) s = execPairLowWrite dt path addr value s := rfl
theorem exec_pairHighWrite (dt path addr value s) : exec (.pairHighWrite dt path addr value) s = execPairHighWrite dt path addr value s := rfl
theorem exec_measLastVLoRead (dt path ch s) : exec (.measLastVLoRead dt path ch) s = execMeasLastVLoRead dt path ch s := rfl
theorem exec_markHtickLoRead (dt path s) : exec (.markHtickLoRead dt path) s = execMarkHtickLoRead dt path s := rfl
theorem exec_ppsHtickLoRead (dt path s) : exec (.ppsHtickLoRead dt path) s = execPpsHtickLoRead dt path s := rfl
theorem exec_hrtRecSrcRead (dt path s) : exec (.hrtRecSrcRead dt path) s = execHrtRecSrcRead dt path s := rfl
theorem exec_todSecLoRead (dt path s) : exec (.todSecLoRead dt path) s = execTodSecLoRead dt path s := rfl
theorem exec_w1cFlagClear (dt path addr value s) : exec (.w1cFlagClear dt path addr value) s = execW1cFlagClear dt path addr value s := rfl
theorem exec_powerOnResetRelease (dt bootSel s) : exec (.powerOnResetRelease dt bootSel) s = execPowerOnResetRelease dt bootSel s := rfl
theorem exec_periodBoundary (dt ch tripped s) : exec (.periodBoundary dt ch tripped) s = execPeriodBoundary dt ch tripped s := rfl
theorem exec_compMaxReached (dt ch s) : exec (.compMaxReached dt ch) s = execCompMaxReached dt ch s := rfl
theorem exec_arm (dt ch s) : exec (.arm dt ch) s = execArm dt ch s := rfl
theorem exec_softQuench (dt ch s) : exec (.softQuench dt ch) s = execSoftQuench dt ch s := rfl
theorem exec_hardQuench (dt ch s) : exec (.hardQuench dt ch) s = execHardQuench dt ch s := rfl
theorem exec_wngArm (dt wing mask s) : exec (.wngArm dt wing mask) s = execWngArm dt wing mask s := rfl
theorem exec_wngQuench (dt wing soft hard s) : exec (.wngQuench dt wing soft hard) s = execWngQuench dt wing soft hard s := rfl
theorem exec_armTimeout (dt ch s) : exec (.armTimeout dt ch) s = execArmTimeout dt ch s := rfl
theorem exec_holdExpired (dt ch s) : exec (.holdExpired dt ch) s = execHoldExpired dt ch s := rfl
theorem exec_tiTakeover (dt ch s) : exec (.tiTakeover dt ch) s = execTiTakeover dt ch s := rfl
theorem exec_tiNospare (dt ch s) : exec (.tiNospare dt ch) s = execTiNospare dt ch s := rfl
theorem exec_rampdownFrame (dt ch s) : exec (.rampdownFrame dt ch) s = execRampdownFrame dt ch s := rfl
theorem exec_channelFence (dt ch s) : exec (.channelFence dt ch) s = execChannelFence dt ch s := rfl
theorem exec_headReady (dt ch s) : exec (.headReady dt ch) s = execHeadReady dt ch s := rfl
theorem exec_gpgFire (dt ch s) : exec (.gpgFire dt ch) s = execGpgFire dt ch s := rfl
theorem exec_gpgStop (dt ch s) : exec (.gpgStop dt ch) s = execGpgStop dt ch s := rfl
theorem exec_tiPulseTrigger (dt ch s) : exec (.tiPulseTrigger dt ch) s = execTiPulseTrigger dt ch s := rfl
theorem exec_pulseStart (dt ch s) : exec (.pulseStart dt ch) s = execPulseStart dt ch s := rfl
theorem exec_pulseEnd (dt ch s) : exec (.pulseEnd dt ch) s = execPulseEnd dt ch s := rfl
theorem exec_loopPassStart (dt ch upsets s) : exec (.loopPassStart dt ch upsets) s = execLoopPassStart dt ch upsets s := rfl
theorem exec_outputLatch (dt ch s) : exec (.outputLatch dt ch) s = execOutputLatch dt ch s := rfl
theorem exec_templateReplacementRequest (dt ch template s) : exec (.templateReplacementRequest dt ch template) s = execTemplateReplacementRequest dt ch template s := rfl
theorem exec_templateLoadDone (dt ch s) : exec (.templateLoadDone dt ch) s = execTemplateLoadDone dt ch s := rfl
theorem exec_tileFence (dt tile s) : exec (.tileFence dt tile) s = execTileFence dt tile s := rfl
theorem exec_spareReady (dt ch s) : exec (.spareReady dt ch) s = execSpareReady dt ch s := rfl
theorem exec_trkaTimeout (dt wing s) : exec (.trkaTimeout dt wing) s = execTrkaTimeout dt wing s := rfl
theorem exec_trkpEdge (dt wing falling s) : exec (.trkpEdge dt wing falling) s = execTrkpEdge dt wing falling s := rfl
theorem exec_trkpGateEnd (dt wing s) : exec (.trkpGateEnd dt wing) s = execTrkpGateEnd dt wing s := rfl
theorem exec_trkpTimeout (dt wing s) : exec (.trkpTimeout dt wing) s = execTrkpTimeout dt wing s := rfl
theorem exec_sampleFrame (dt ch frame s) : exec (.sampleFrame dt ch frame) s = execSampleFrame dt ch frame s := rfl
theorem exec_arrivalEdgeMissing (dt ch s) : exec (.arrivalEdgeMissing dt ch) s = execArrivalEdgeMissing dt ch s := rfl
theorem exec_apertureOpen (dt ch s) : exec (.apertureOpen dt ch) s = execApertureOpen dt ch s := rfl
theorem exec_apStartCmd (dt ch s) : exec (.apStartCmd dt ch) s = execApStartCmd dt ch s := rfl
theorem exec_apStopCmd (dt ch s) : exec (.apStopCmd dt ch) s = execApStopCmd dt ch s := rfl
theorem exec_tiAperture (dt ch s) : exec (.tiAperture dt ch) s = execTiAperture dt ch s := rfl
theorem exec_recordPush (dt ch flushAt s) : exec (.recordPush dt ch flushAt) s = execRecordPush dt ch flushAt s := rfl
theorem exec_recordRepush (dt ch flushAt s) : exec (.recordRepush dt ch flushAt) s = execRecordRepush dt ch flushAt s := rfl
theorem exec_secTimeout (dt ch s) : exec (.secTimeout dt ch) s = execSecTimeout dt ch s := rfl
theorem exec_swpArm (dt ctx s) : exec (.swpArm dt ctx) s = execSwpArm dt ctx s := rfl
theorem exec_swpCheckDone (dt ctx s) : exec (.swpCheckDone dt ctx) s = execSwpCheckDone dt ctx s := rfl
theorem exec_swpStart (dt ctx s) : exec (.swpStart dt ctx) s = execSwpStart dt ctx s := rfl
theorem exec_swpAbort (dt ctx s) : exec (.swpAbort dt ctx) s = execSwpAbort dt ctx s := rfl
theorem exec_swpPause (dt ctx s) : exec (.swpPause dt ctx) s = execSwpPause dt ctx s := rfl
theorem exec_swpResume (dt ctx s) : exec (.swpResume dt ctx) s = execSwpResume dt ctx s := rfl
theorem exec_swpRelease (dt ctx s) : exec (.swpRelease dt ctx) s = execSwpRelease dt ctx s := rfl
theorem exec_tiSwpStart (dt ctx s) : exec (.tiSwpStart dt ctx) s = execTiSwpStart dt ctx s := rfl
theorem exec_startTickReached (dt ctx s) : exec (.startTickReached dt ctx) s = execStartTickReached dt ctx s := rfl
theorem exec_dwellEnd (dt ctx s) : exec (.dwellEnd dt ctx) s = execDwellEnd dt ctx s := rfl
theorem exec_stepEnd (dt ctx s) : exec (.stepEnd dt ctx) s = execStepEnd dt ctx s := rfl
theorem exec_offPhaseEnd (dt ctx s) : exec (.offPhaseEnd dt ctx) s = execOffPhaseEnd dt ctx s := rfl
theorem exec_tiSwpStep (dt ctx s) : exec (.tiSwpStep dt ctx) s = execTiSwpStep dt ctx s := rfl
theorem exec_tiSwpAbort (dt ctx s) : exec (.tiSwpAbort dt ctx) s = execTiSwpAbort dt ctx s := rfl
theorem exec_tiSwpBrk (dt ctx s) : exec (.tiSwpBrk dt ctx) s = execTiSwpBrk dt ctx s := rfl
theorem exec_pauseMaxExpired (dt ctx s) : exec (.pauseMaxExpired dt ctx) s = execPauseMaxExpired dt ctx s := rfl
theorem exec_trgTmoExpired (dt ctx s) : exec (.trgTmoExpired dt ctx) s = execTrgTmoExpired dt ctx s := rfl
theorem exec_stepBankWindowWrite (dt path bank word value ecc s) : exec (.stepBankWindowWrite dt path bank word value ecc) s = execStepBankWindowWrite dt path bank word value ecc s := rfl
theorem exec_markAccepted (dt s) : exec (.markAccepted dt) s = execMarkAccepted dt s := rfl
theorem exec_mclkMissing (dt s) : exec (.mclkMissing dt) s = execMclkMissing dt s := rfl
theorem exec_mclkPresent (dt s) : exec (.mclkPresent dt) s = execMclkPresent dt s := rfl
theorem exec_markLoss (dt s) : exec (.markLoss dt) s = execMarkLoss dt s := rfl
theorem exec_holdoverExpired (dt s) : exec (.holdoverExpired dt) s = execHoldoverExpired dt s := rfl
theorem exec_acquireTimeout (dt s) : exec (.acquireTimeout dt) s = execAcquireTimeout dt s := rfl
theorem exec_loadNextMark (dt s) : exec (.loadNextMark dt) s = execLoadNextMark dt s := rfl
theorem exec_loadAfterSec (dt s) : exec (.loadAfterSec dt) s = execLoadAfterSec dt s := rfl
theorem exec_loadCancel (dt s) : exec (.loadCancel dt) s = execLoadCancel dt s := rfl
theorem exec_snapshot (dt s) : exec (.snapshot dt) s = execSnapshot dt s := rfl
theorem exec_tiPhsSnap (dt s) : exec (.tiPhsSnap dt) s = execTiPhsSnap dt s := rfl
theorem exec_machEnClear (dt s) : exec (.machEnClear dt) s = execMachEnClear dt s := rfl
theorem exec_mainsEdge (dt s) : exec (.mainsEdge dt) s = execMainsEdge dt s := rfl
theorem exec_mainsLoss (dt s) : exec (.mainsLoss dt) s = execMainsLoss dt s := rfl
theorem exec_alarmFire (dt idx s) : exec (.alarmFire dt idx) s = execAlarmFire dt idx s := rfl
theorem exec_almWrite (dt path s) : exec (.almWrite dt path) s = execAlmWrite dt path s := rfl
theorem exec_almRead (dt path s) : exec (.almRead dt path) s = execAlmRead dt path s := rfl
theorem exec_almDisable (dt path s) : exec (.almDisable dt path) s = execAlmDisable dt path s := rfl
theorem exec_ppsCapture (dt s) : exec (.ppsCapture dt) s = execPpsCapture dt s := rfl
theorem exec_guardTrip (dt ch cmp s) : exec (.guardTrip dt ch cmp) s = execGuardTrip dt ch cmp s := rfl
theorem exec_watchTrip (dt ch cmp s) : exec (.watchTrip dt ch cmp) s = execWatchTrip dt ch cmp s := rfl
theorem exec_latchHostClear (dt path ch value tripped s) : exec (.latchHostClear dt path ch value tripped) s = execLatchHostClear dt path ch value tripped s := rfl
theorem exec_puRelease (dt ch cmp s) : exec (.puRelease dt ch cmp) s = execPuRelease dt ch cmp s := rfl
theorem exec_rbNow (dt ch s) : exec (.rbNow dt ch) s = execRbNow dt ch s := rfl
theorem exec_refadcConversion (dt conv s) : exec (.refadcConversion dt conv) s = execRefadcConversion dt conv s := rfl
theorem exec_calFullRunRequest (dt ch s) : exec (.calFullRunRequest dt ch) s = execCalFullRunRequest dt ch s := rfl
theorem exec_calGainRunRequest (dt ch s) : exec (.calGainRunRequest dt ch) s = execCalGainRunRequest dt ch s := rfl
theorem exec_calSave (dt ch s) : exec (.calSave dt ch) s = execCalSave dt ch s := rfl
theorem exec_calAbort (dt s) : exec (.calAbort dt) s = execCalAbort dt s := rfl
theorem exec_calReload (dt ch s) : exec (.calReload dt ch) s = execCalReload dt ch s := rfl
theorem exec_temperatureTrigger (dt s) : exec (.temperatureTrigger dt) s = execTemperatureTrigger dt s := rfl
theorem exec_tiCalGo (dt s) : exec (.tiCalGo dt) s = execTiCalGo dt s := rfl
theorem exec_calRunStart (dt s) : exec (.calRunStart dt) s = execCalRunStart dt s := rfl
theorem exec_routeAckTimeout (dt s) : exec (.routeAckTimeout dt) s = execRouteAckTimeout dt s := rfl
theorem exec_calTmoExpired (dt s) : exec (.calTmoExpired dt) s = execCalTmoExpired dt s := rfl
theorem exec_calStoreConfirmed (dt s) : exec (.calStoreConfirmed dt) s = execCalStoreConfirmed dt s := rfl
theorem exec_uplinkIdleFrame (dt ch frame delay onTick s) : exec (.uplinkIdleFrame dt ch frame delay onTick) s = execUplinkIdleFrame dt ch frame delay onTick s := rfl
theorem exec_descriptorFrame (dt ch frame s) : exec (.descriptorFrame dt ch frame) s = execDescriptorFrame dt ch frame s := rfl
theorem exec_mgmtRespFrame (dt ch frame s) : exec (.mgmtRespFrame dt ch frame) s = execMgmtRespFrame dt ch frame s := rfl
theorem exec_levelFrameSend (dt ch s) : exec (.levelFrameSend dt ch) s = execLevelFrameSend dt ch s := rfl
theorem exec_lnkRetrain (dt ch s) : exec (.lnkRetrain dt ch) s = execLnkRetrain dt ch s := rfl
theorem exec_lnkReenum (dt ch s) : exec (.lnkReenum dt ch) s = execLnkReenum dt ch s := rfl
theorem exec_elasticSlip (dt ch s) : exec (.elasticSlip dt ch) s = execElasticSlip dt ch s := rfl
theorem exec_headAbsent (dt ch s) : exec (.headAbsent dt ch) s = execHeadAbsent dt ch s := rfl
theorem exec_linkEnClear (dt ch s) : exec (.linkEnClear dt ch) s = execLinkEnClear dt ch s := rfl
theorem exec_hmwSend (dt ch s) : exec (.hmwSend dt ch) s = execHmwSend dt ch s := rfl
theorem exec_mgmtTimeout (dt ch s) : exec (.mgmtTimeout dt ch) s = execMgmtTimeout dt ch s := rfl
theorem exec_errorLineReport (dt source cause s) : exec (.errorLineReport dt source cause) s = execErrorLineReport dt source cause s := rfl
theorem exec_hearthWindowExpiry (dt source s) : exec (.hearthWindowExpiry dt source) s = execHearthWindowExpiry dt source s := rfl
theorem exec_recordServe (dt s) : exec (.recordServe dt) s = execRecordServe dt s := rfl
theorem exec_hrtPop (dt s) : exec (.hrtPop dt) s = execHrtPop dt s := rfl
theorem exec_hrtFirstArm (dt s) : exec (.hrtFirstArm dt) s = execHrtFirstArm dt s := rfl
theorem exec_hrtClrLost (dt s) : exec (.hrtClrLost dt) s = execHrtClrLost dt s := rfl
theorem exec_hrtSrcWriteCfg (dt path s) : exec (.hrtSrcWriteCfg dt path) s = execHrtSrcWriteCfg dt path s := rfl
theorem exec_hrtSrcRead (dt path s) : exec (.hrtSrcRead dt path) s = execHrtSrcRead dt path s := rfl
theorem exec_forceSet (dt path s) : exec (.forceSet dt path) s = execForceSet dt path s := rfl
theorem exec_forceClear (dt path s) : exec (.forceClear dt path) s = execForceClear dt path s := rfl
theorem exec_hostRelease (dt path s) : exec (.hostRelease dt path) s = execHostRelease dt path s := rfl
theorem exec_clearOccCount (dt path s) : exec (.clearOccCount dt path) s = execClearOccCount dt path s := rfl
theorem exec_tmrVote (dt s) : exec (.tmrVote dt) s = execTmrVote dt s := rfl
theorem exec_cfgCheckStaging (dt path s) : exec (.cfgCheckStaging dt path) s = execCfgCheckStaging dt path s := rfl
theorem exec_cfgApplyStaging (dt path wing s) : exec (.cfgApplyStaging dt path wing) s = execCfgApplyStaging dt path wing s := rfl
theorem exec_cfgApplySlot (dt path wing slot s) : exec (.cfgApplySlot dt path wing slot) s = execCfgApplySlot dt path wing slot s := rfl
theorem exec_cfgStoreSlot (dt path slot s) : exec (.cfgStoreSlot dt path slot) s = execCfgStoreSlot dt path slot s := rfl
theorem exec_cfgStoreFoundation (dt path s) : exec (.cfgStoreFoundation dt path) s = execCfgStoreFoundation dt path s := rfl
theorem exec_cfgActivateKeeper (dt path s) : exec (.cfgActivateKeeper dt path) s = execCfgActivateKeeper dt path s := rfl
theorem exec_cfgAbort (dt path s) : exec (.cfgAbort dt path) s = execCfgAbort dt path s := rfl
theorem exec_foundationCommit (dt s) : exec (.foundationCommit dt) s = execFoundationCommit dt s := rfl
theorem exec_overlayApplyA (dt s) : exec (.overlayApplyA dt) s = execOverlayApplyA dt s := rfl
theorem exec_keeperReady (dt s) : exec (.keeperReady dt) s = execKeeperReady dt s := rfl
theorem exec_keeperReadyTimeout (dt s) : exec (.keeperReadyTimeout dt) s = execKeeperReadyTimeout dt s := rfl
theorem exec_scrubRead (dt region index differs refBad ends s) : exec (.scrubRead dt region index differs refBad ends) s = execScrubRead dt region index differs refBad ends s := rfl
theorem exec_panOwnWrite (dt path n value s) : exec (.panOwnWrite dt path n value) s = execPanOwnWrite dt path n value s := rfl
theorem exec_ownDrainAck (dt bank s) : exec (.ownDrainAck dt bank) s = execOwnDrainAck dt bank s := rfl
theorem exec_pantryWindowRead (dt path bank word high ecc s) : exec (.pantryWindowRead dt path bank word high ecc) s = execPantryWindowRead dt path bank word high ecc s := rfl
theorem exec_pantryWindowWrite (dt path bank word value ecc other s) : exec (.pantryWindowWrite dt path bank word value ecc other) s = execPantryWindowWrite dt path bank word value ecc other s := rfl
theorem exec_patrolRead (dt bank ecc s) : exec (.patrolRead dt bank ecc) s = execPatrolRead dt bank ecc s := rfl
theorem exec_panRemapRow (dt path bank row s) : exec (.panRemapRow dt path bank row) s = execPanRemapRow dt path bank row s := rfl
theorem exec_rowRemapDone (dt bank s) : exec (.rowRemapDone dt bank) s = execRowRemapDone dt bank s := rfl
theorem exec_panMigrateBank (dt path bank s) : exec (.panMigrateBank dt path bank) s = execPanMigrateBank dt path bank s := rfl
theorem exec_bankFence (dt bank s) : exec (.bankFence dt bank) s = execBankFence dt bank s := rfl
theorem exec_migrationDone (dt bank s) : exec (.migrationDone dt bank) s = execMigrationDone dt bank s := rfl
theorem exec_panFullBist (dt path bank s) : exec (.panFullBist dt path bank) s = execPanFullBist dt path bank s := rfl
theorem exec_fullBistDone (dt rows s) : exec (.fullBistDone dt rows) s = execFullBistDone dt rows s := rfl
theorem exec_onlineBistBorrow (dt fails s) : exec (.onlineBistBorrow dt fails) s = execOnlineBistBorrow dt fails s := rfl
theorem exec_chutePush (dt chute unit word s) : exec (.chutePush dt chute unit word) s = execChutePush dt chute unit word s := rfl
theorem exec_chutePop (dt chute unit ecc s) : exec (.chutePop dt chute unit ecc) s = execChutePop dt chute unit ecc s := rfl
theorem exec_chuFlush (dt chute s) : exec (.chuFlush dt chute) s = execChuFlush dt chute s := rfl
theorem exec_pointerCheckFail (dt chute w w2 r r2 s) : exec (.pointerCheckFail dt chute w w2 r r2) s = execPointerCheckFail dt chute w w2 r r2 s := rfl
theorem exec_chuteStale (dt chute s) : exec (.chuteStale dt chute) s = execChuteStale dt chute s := rfl
theorem exec_hallwayEvent (dt producer half s) : exec (.hallwayEvent dt producer half) s = execHallwayEvent dt producer half s := rfl
theorem exec_rateWindowExpiry (dt chan s) : exec (.rateWindowExpiry dt chan) s = execRateWindowExpiry dt chan s := rfl
theorem exec_refractoryEnd (dt chan s) : exec (.refractoryEnd dt chan) s = execRefractoryEnd dt chan s := rfl
theorem exec_hwyFire (dt mask s) : exec (.hwyFire dt mask) s = execHwyFire dt mask s := rfl
theorem exec_hwyRouteWrite (dt path s) : exec (.hwyRouteWrite dt path) s = execHwyRouteWrite dt path s := rfl
theorem exec_hwyRouteRead (dt path s) : exec (.hwyRouteRead dt path) s = execHwyRouteRead dt path s := rfl
theorem exec_hwyClearCounts (dt path s) : exec (.hwyClearCounts dt path) s = execHwyClearCounts dt path s := rfl
theorem exec_hwyTiClr (dt path s) : exec (.hwyTiClr dt path) s = execHwyTiClr dt path s := rfl
theorem exec_descriptorSetLoad (dt s) : exec (.descriptorSetLoad dt) s = execDescriptorSetLoad dt s := rfl
theorem exec_descriptorBoundary (dt engine s) : exec (.descriptorBoundary dt engine) s = execDescriptorBoundary dt engine s := rfl
theorem exec_heldWordsTimeout (dt engine s) : exec (.heldWordsTimeout dt engine) s = execHeldWordsTimeout dt engine s := rfl
theorem exec_studyPop (dt engine ecc s) : exec (.studyPop dt engine ecc) s = execStudyPop dt engine ecc s := rfl
theorem exec_kernelStart (dt engine flushAt s) : exec (.kernelStart dt engine flushAt) s = execKernelStart dt engine flushAt s := rfl
theorem exec_kernelEnd (dt engine flushAt s) : exec (.kernelEnd dt engine flushAt) s = execKernelEnd dt engine flushAt s := rfl
theorem exec_tiStdClose (dt engine flushAt s) : exec (.tiStdClose dt engine flushAt) s = execTiStdClose dt engine flushAt s := rfl
theorem exec_tiStdReset (dt engine flushAt s) : exec (.tiStdReset dt engine flushAt) s = execTiStdReset dt engine flushAt s := rfl
theorem exec_studyFence (dt engine s) : exec (.studyFence dt engine) s = execStudyFence dt engine s := rfl
theorem exec_portBlockLock (dt port s) : exec (.portBlockLock dt port) s = execPortBlockLock dt port s := rfl
theorem exec_speedTryExpiry (dt port s) : exec (.speedTryExpiry dt port) s = execSpeedTryExpiry dt port s := rfl
theorem exec_networkHousekeepingFrame (dt port vid f s) : exec (.networkHousekeepingFrame dt port vid f) s = execNetworkHousekeepingFrame dt port vid f s := rfl
theorem exec_claondeaMessage (dt port datagram s) : exec (.claondeaMessage dt port datagram) s = execClaondeaMessage dt port datagram s := rfl
theorem exec_ping (dt port s) : exec (.ping dt port) s = execPing dt port s := rfl
theorem exec_regRead (dt port eccs s) : exec (.regRead dt port eccs) s = execRegRead dt port eccs s := rfl
theorem exec_regWrite (dt port eccs s) : exec (.regWrite dt port eccs) s = execRegWrite dt port eccs s := rfl
theorem exec_blkRead (dt port eccs s) : exec (.blkRead dt port eccs) s = execBlkRead dt port eccs s := rfl
theorem exec_blkWrite (dt port eccs s) : exec (.blkWrite dt port eccs) s = execBlkWrite dt port eccs s := rfl
theorem exec_ovlLoad (dt port s) : exec (.ovlLoad dt port) s = execOvlLoad dt port s := rfl
theorem exec_sweepLoad (dt port s) : exec (.sweepLoad dt port) s = execSweepLoad dt port s := rfl
theorem exec_streamSub (dt port s) : exec (.streamSub dt port) s = execStreamSub dt port s := rfl
theorem exec_eventSub (dt port s) : exec (.eventSub dt port) s = execEventSub dt port s := rfl
theorem exec_eventFire (dt port s) : exec (.eventFire dt port) s = execEventFire dt port s := rfl
theorem exec_mcStart (dt port s) : exec (.mcStart dt port) s = execMcStart dt port s := rfl
theorem exec_eventNotifyAck (dt sub s) : exec (.eventNotifyAck dt sub) s = execEventNotifyAck dt sub s := rfl
theorem exec_responseHandover (dt port s) : exec (.responseHandover dt port) s = execResponseHandover dt port s := rfl
theorem exec_streamDataSend (dt sub chute s) : exec (.streamDataSend dt sub chute) s = execStreamDataSend dt sub chute s := rfl
theorem exec_streamItemCopy (dt chute ecc s) : exec (.streamItemCopy dt chute ecc) s = execStreamItemCopy dt chute ecc s := rfl
theorem exec_eventNotify (dt sub s) : exec (.eventNotify dt sub) s = execEventNotify dt sub s := rfl
theorem exec_notifyResend (dt sub s) : exec (.notifyResend dt sub) s = execNotifyResend dt sub s := rfl
theorem exec_ptpMessage (dt msg s) : exec (.ptpMessage dt msg) s = execPtpMessage dt msg s := rfl
theorem exec_announceTimeout (dt s) : exec (.announceTimeout dt) s = execAnnounceTimeout dt s := rfl
theorem exec_failover (dt port s) : exec (.failover dt port) s = execFailover dt port s := rfl
theorem exec_failback (dt path s) : exec (.failback dt path) s = execFailback dt path s := rfl
theorem exec_clrSessions (dt path s) : exec (.clrSessions dt path) s = execClrSessions dt path s := rfl
theorem exec_sideDoorRead (dt bytes eccs late s) : exec (.sideDoorRead dt bytes eccs late) s = execSideDoorRead dt bytes eccs late s := rfl
theorem exec_sideDoorWrite (dt bytes eccs late s) : exec (.sideDoorWrite dt bytes eccs late) s = execSideDoorWrite dt bytes eccs late s := rfl
theorem exec_sideDoorStatus (dt bytes s) : exec (.sideDoorStatus dt bytes) s = execSideDoorStatus dt bytes s := rfl
theorem exec_sideDoorBadCmd (dt bytes s) : exec (.sideDoorBadCmd dt bytes) s = execSideDoorBadCmd dt bytes s := rfl
theorem exec_frameErr (dt s) : exec (.frameErr dt) s = execFrameErr dt s := rfl
theorem exec_kprDoorRing (dt path s) : exec (.kprDoorRing dt path) s = execKprDoorRing dt path s := rfl
theorem exec_info (dt s) : exec (.info dt) s = execInfo dt s := rfl
theorem exec_imgLoad (dt s) : exec (.imgLoad dt) s = execImgLoad dt s := rfl
theorem exec_fuseKey (dt verifies s) : exec (.fuseKey dt verifies) s = execFuseKey dt verifies s := rfl
theorem exec_fuseRevoke (dt verifies s) : exec (.fuseRevoke dt verifies) s = execFuseRevoke dt verifies s := rfl
theorem exec_fuseMinver (dt verifies s) : exec (.fuseMinver dt verifies) s = execFuseMinver dt verifies s := rfl
theorem exec_fuseSecure (dt verifies s) : exec (.fuseSecure dt verifies) s = execFuseSecure dt verifies s := rfl
theorem exec_histRead (dt s) : exec (.histRead dt) s = execHistRead dt s := rfl
theorem exec_mailboxTimeout (dt s) : exec (.mailboxTimeout dt) s = execMailboxTimeout dt s := rfl
theorem exec_mailboxCommandEnd (dt s) : exec (.mailboxCommandEnd dt) s = execMailboxCommandEnd dt s := rfl
theorem exec_keeperWdog (dt s) : exec (.keeperWdog dt) s = execKeeperWdog dt s := rfl
theorem exec_cellarMount (dt part s) : exec (.cellarMount dt part) s = execCellarMount dt part s := rfl
theorem exec_unitStore (dt outs s) : exec (.unitStore dt outs) s = execUnitStore dt outs s := rfl
theorem exec_unitRead (dt outs s) : exec (.unitRead dt outs) s = execUnitRead dt outs s := rfl
theorem exec_journalAppend (dt outs s) : exec (.journalAppend dt outs) s = execJournalAppend dt outs s := rfl
theorem exec_journalCompaction (dt outs s) : exec (.journalCompaction dt outs) s = execJournalCompaction dt outs s := rfl
theorem exec_historyPageWrite (dt outs s) : exec (.historyPageWrite dt outs) s = execHistoryPageWrite dt outs s := rfl
theorem exec_histFlushTimer (dt s) : exec (.histFlushTimer dt) s = execHistFlushTimer dt s := rfl
theorem exec_nandOpTimeout (dt s) : exec (.nandOpTimeout dt) s = execNandOpTimeout dt s := rfl
theorem exec_blockRefresh (dt outs s) : exec (.blockRefresh dt outs) s = execBlockRefresh dt outs s := rfl
theorem exec_retentionScanRead (dt outs s) : exec (.retentionScanRead dt outs) s = execRetentionScanRead dt outs s := rfl
theorem exec_wearMigration (dt outs s) : exec (.wearMigration dt outs) s = execWearMigration dt outs s := rfl
theorem exec_celRetentionPass (dt path s) : exec (.celRetentionPass dt path) s = execCelRetentionPass dt path s := rfl
theorem exec_celFlushHistory (dt path s) : exec (.celFlushHistory dt path) s = execCelFlushHistory dt path s := rfl
theorem exec_celRefreshBlock (dt path block s) : exec (.celRefreshBlock dt path block) s = execCelRefreshBlock dt path block s := rfl
theorem exec_celMarkBad (dt path block s) : exec (.celMarkBad dt path block) s = execCelMarkBad dt path block s := rfl
theorem exec_cellarFence (dt s) : exec (.cellarFence dt) s = execCellarFence dt s := rfl
theorem exec_supplyFault (dt supply low s) : exec (.supplyFault dt supply low) s = execSupplyFault dt supply low s := rfl
theorem exec_hrefLost (dt pll s) : exec (.hrefLost dt pll) s = execHrefLost dt pll s := rfl
theorem exec_resetN (dt s) : exec (.resetN dt) s = execResetN dt s := rfl
theorem exec_glbRstWrite (dt path value s) : exec (.glbRstWrite dt path value) s = execGlbRstWrite dt path value s := rfl
theorem exec_deviceResetRelease (dt bootSel s) : exec (.deviceResetRelease dt bootSel) s = execDeviceResetRelease dt bootSel s := rfl
theorem exec_bootGo (dt path s) : exec (.bootGo dt path) s = execBootGo dt path s := rfl
theorem exec_bootStore (dt path s) : exec (.bootStore dt path) s = execBootStore dt path s := rfl
theorem exec_keeperStart (dt s) : exec (.keeperStart dt) s = execKeeperStart dt s := rfl
theorem exec_glbModeReq (dt path value s) : exec (.glbModeReq dt path value) s = execGlbModeReq dt path value s := rfl
theorem exec_tiWake (dt wing s) : exec (.tiWake dt wing) s = execTiWake dt wing s := rfl
theorem exec_hrtSafeRequest (dt wings now s) : exec (.hrtSafeRequest dt wings now) s = execHrtSafeRequest dt wings now s := rfl
theorem exec_modeEntry (dt wing s) : exec (.modeEntry dt wing) s = execModeEntry dt wing s := rfl
theorem exec_safeEntry (dt wing s) : exec (.safeEntry dt wing) s = execSafeEntry dt wing s := rfl
theorem exec_sleepEntry (dt wing s) : exec (.sleepEntry dt wing) s = execSleepEntry dt wing s := rfl
theorem exec_wingWake (dt wing s) : exec (.wingWake dt wing) s = execWingWake dt wing s := rfl
theorem exec_jtagUpdateIr (dt on cells s) : exec (.jtagUpdateIr dt on cells) s = execJtagUpdateIr dt on cells s := rfl
theorem exec_stairwellFence (dt s) : exec (.stairwellFence dt) s = execStairwellFence dt s := rfl
theorem exec_calSequencerFence (dt s) : exec (.calSequencerFence dt) s = execCalSequencerFence dt s := rfl
theorem exec_cfgEngineFence (dt s) : exec (.cfgEngineFence dt) s = execCfgEngineFence dt s := rfl
theorem exec_supplyReturn (dt supply s) : exec (.supplyReturn dt supply) s = execSupplyReturn dt supply s := rfl
theorem exec_hrefReturn (dt s) : exec (.hrefReturn dt) s = execHrefReturn dt s := rfl
theorem exec_comparatorRelease (dt ch cmp s) : exec (.comparatorRelease dt ch cmp) s = execComparatorRelease dt ch cmp s := rfl
theorem exec_portLinkDown (dt port s) : exec (.portLinkDown dt port) s = execPortLinkDown dt port s := rfl
theorem exec_keeperFence (dt s) : exec (.keeperFence dt) s = execKeeperFence dt s := rfl
theorem exec_sideDoorFence (dt s) : exec (.sideDoorFence dt) s = execSideDoorFence dt s := rfl
theorem exec_keeperFault (dt s) : exec (.keeperFault dt) s = execKeeperFault dt s := rfl
theorem exec_nandOperationDone (dt out s) : exec (.nandOperationDone dt out) s = execNandOperationDone dt out s := rfl
theorem exec_calWaitExpiry (dt s) : exec (.calWaitExpiry dt) s = execCalWaitExpiry dt s := rfl
theorem exec_armingGateRise (dt ch s) : exec (.armingGateRise dt ch) s = execArmingGateRise dt ch s := rfl
theorem exec_bootStandbyEntry (dt s) : exec (.bootStandbyEntry dt) s = execBootStandbyEntry dt s := rfl

/-! ### Every command ends settled -/

theorem settles_registerWrite (dt path addr value s) : Settles (execRegisterWrite dt path addr value s) := by unfold execRegisterWrite; exact State.live_next s _ _
theorem settles_pairLowRead (dt path addr s) : Settles (execPairLowRead dt path addr s) := by unfold execPairLowRead; exact State.live_next s _ _
theorem settles_pairLowWrite (dt path addr value s) : Settles (execPairLowWrite dt path addr value s) := by unfold execPairLowWrite; exact State.live_next s _ _
theorem settles_pairHighWrite (dt path addr value s) : Settles (execPairHighWrite dt path addr value s) := by unfold execPairHighWrite; exact State.live_next s _ _
theorem settles_measLastVLoRead (dt path ch s) : Settles (execMeasLastVLoRead dt path ch s) := by unfold execMeasLastVLoRead; exact State.live_next s _ _
theorem settles_markHtickLoRead (dt path s) : Settles (execMarkHtickLoRead dt path s) := by unfold execMarkHtickLoRead; exact State.live_next s _ _
theorem settles_ppsHtickLoRead (dt path s) : Settles (execPpsHtickLoRead dt path s) := by unfold execPpsHtickLoRead; exact State.live_next s _ _
theorem settles_hrtRecSrcRead (dt path s) : Settles (execHrtRecSrcRead dt path s) := by unfold execHrtRecSrcRead; exact State.live_next s _ _
theorem settles_todSecLoRead (dt path s) : Settles (execTodSecLoRead dt path s) := by unfold execTodSecLoRead; exact State.live_next s _ _
theorem settles_w1cFlagClear (dt path addr value s) : Settles (execW1cFlagClear dt path addr value s) := by unfold execW1cFlagClear; exact State.live_next s _ _
theorem settles_powerOnResetRelease (dt bootSel s) : Settles (execPowerOnResetRelease dt bootSel s) := by unfold execPowerOnResetRelease; exact State.power_next s _ _
theorem settles_periodBoundary (dt ch tripped s) : Settles (execPeriodBoundary dt ch tripped s) := by unfold execPeriodBoundary; exact State.live_next s _ _
theorem settles_compMaxReached (dt ch s) : Settles (execCompMaxReached dt ch s) := by unfold execCompMaxReached; exact State.live_next s _ _
theorem settles_arm (dt ch s) : Settles (execArm dt ch s) := by unfold execArm State.hosted; exact State.live_next s _ _
theorem settles_softQuench (dt ch s) : Settles (execSoftQuench dt ch s) := by unfold execSoftQuench State.hosted; exact State.live_next s _ _
theorem settles_hardQuench (dt ch s) : Settles (execHardQuench dt ch s) := by unfold execHardQuench State.hosted; exact State.live_next s _ _
theorem settles_wngArm (dt wing mask s) : Settles (execWngArm dt wing mask s) := by unfold execWngArm State.hosted; exact State.live_next s _ _
theorem settles_wngQuench (dt wing soft hard s) : Settles (execWngQuench dt wing soft hard s) := by unfold execWngQuench State.hosted; exact State.live_next s _ _
theorem settles_armTimeout (dt ch s) : Settles (execArmTimeout dt ch s) := by unfold execArmTimeout; exact State.live_next s _ _
theorem settles_holdExpired (dt ch s) : Settles (execHoldExpired dt ch s) := by unfold execHoldExpired; exact State.live_next s _ _
theorem settles_tiTakeover (dt ch s) : Settles (execTiTakeover dt ch s) := by unfold execTiTakeover; exact State.live_next s _ _
theorem settles_tiNospare (dt ch s) : Settles (execTiNospare dt ch s) := by unfold execTiNospare; exact State.live_next s _ _
theorem settles_rampdownFrame (dt ch s) : Settles (execRampdownFrame dt ch s) := by unfold execRampdownFrame; exact State.live_next s _ _
theorem settles_channelFence (dt ch s) : Settles (execChannelFence dt ch s) := by unfold execChannelFence; exact State.live_next s _ _
theorem settles_headReady (dt ch s) : Settles (execHeadReady dt ch s) := by unfold execHeadReady; exact State.live_next s _ _
theorem settles_gpgFire (dt ch s) : Settles (execGpgFire dt ch s) := by unfold execGpgFire State.hosted; exact State.live_next s _ _
theorem settles_gpgStop (dt ch s) : Settles (execGpgStop dt ch s) := by unfold execGpgStop State.hosted; exact State.live_next s _ _
theorem settles_tiPulseTrigger (dt ch s) : Settles (execTiPulseTrigger dt ch s) := by unfold execTiPulseTrigger; exact State.live_next s _ _
theorem settles_pulseStart (dt ch s) : Settles (execPulseStart dt ch s) := by unfold execPulseStart; exact State.live_next s _ _
theorem settles_pulseEnd (dt ch s) : Settles (execPulseEnd dt ch s) := by unfold execPulseEnd; exact State.live_next s _ _
theorem settles_loopPassStart (dt ch upsets s) : Settles (execLoopPassStart dt ch upsets s) := by unfold execLoopPassStart; exact State.live_next s _ _
theorem settles_outputLatch (dt ch s) : Settles (execOutputLatch dt ch s) := by unfold execOutputLatch; exact State.live_next s _ _
theorem settles_templateReplacementRequest (dt ch template s) : Settles (execTemplateReplacementRequest dt ch template s) := by unfold execTemplateReplacementRequest State.hosted; exact State.live_next s _ _
theorem settles_templateLoadDone (dt ch s) : Settles (execTemplateLoadDone dt ch s) := by unfold execTemplateLoadDone; exact State.live_next s _ _
theorem settles_tileFence (dt tile s) : Settles (execTileFence dt tile s) := by unfold execTileFence; exact State.live_next s _ _
theorem settles_spareReady (dt ch s) : Settles (execSpareReady dt ch s) := by unfold execSpareReady; exact State.live_next s _ _
theorem settles_trkaTimeout (dt wing s) : Settles (execTrkaTimeout dt wing s) := by unfold execTrkaTimeout; exact State.live_next s _ _
theorem settles_trkpEdge (dt wing falling s) : Settles (execTrkpEdge dt wing falling s) := by unfold execTrkpEdge; exact State.live_next s _ _
theorem settles_trkpGateEnd (dt wing s) : Settles (execTrkpGateEnd dt wing s) := by unfold execTrkpGateEnd; exact State.live_next s _ _
theorem settles_trkpTimeout (dt wing s) : Settles (execTrkpTimeout dt wing s) := by unfold execTrkpTimeout; exact State.live_next s _ _
theorem settles_sampleFrame (dt ch frame s) : Settles (execSampleFrame dt ch frame s) := by unfold execSampleFrame; exact State.live_next s _ _
theorem settles_arrivalEdgeMissing (dt ch s) : Settles (execArrivalEdgeMissing dt ch s) := by unfold execArrivalEdgeMissing; exact State.live_next s _ _
theorem settles_apertureOpen (dt ch s) : Settles (execApertureOpen dt ch s) := by unfold execApertureOpen; exact State.live_next s _ _
theorem settles_apStartCmd (dt ch s) : Settles (execApStartCmd dt ch s) := by unfold execApStartCmd State.hosted; exact State.live_next s _ _
theorem settles_apStopCmd (dt ch s) : Settles (execApStopCmd dt ch s) := by unfold execApStopCmd State.hosted; exact State.live_next s _ _
theorem settles_tiAperture (dt ch s) : Settles (execTiAperture dt ch s) := by unfold execTiAperture; exact State.live_next s _ _
theorem settles_recordPush (dt ch flushAt s) : Settles (execRecordPush dt ch flushAt s) := by unfold execRecordPush; exact State.live_next s _ _
theorem settles_recordRepush (dt ch flushAt s) : Settles (execRecordRepush dt ch flushAt s) := by unfold execRecordRepush; exact State.live_next s _ _
theorem settles_secTimeout (dt ch s) : Settles (execSecTimeout dt ch s) := by unfold execSecTimeout; exact State.live_next s _ _
theorem settles_swpArm (dt ctx s) : Settles (execSwpArm dt ctx s) := by unfold execSwpArm State.hosted; exact State.live_next s _ _
theorem settles_swpCheckDone (dt ctx s) : Settles (execSwpCheckDone dt ctx s) := by unfold execSwpCheckDone; exact State.live_next s _ _
theorem settles_swpStart (dt ctx s) : Settles (execSwpStart dt ctx s) := by unfold execSwpStart State.hosted; exact State.live_next s _ _
theorem settles_swpAbort (dt ctx s) : Settles (execSwpAbort dt ctx s) := by unfold execSwpAbort State.hosted; exact State.live_next s _ _
theorem settles_swpPause (dt ctx s) : Settles (execSwpPause dt ctx s) := by unfold execSwpPause State.hosted; exact State.live_next s _ _
theorem settles_swpResume (dt ctx s) : Settles (execSwpResume dt ctx s) := by unfold execSwpResume State.hosted; exact State.live_next s _ _
theorem settles_swpRelease (dt ctx s) : Settles (execSwpRelease dt ctx s) := by unfold execSwpRelease State.hosted; exact State.live_next s _ _
theorem settles_tiSwpStart (dt ctx s) : Settles (execTiSwpStart dt ctx s) := by unfold execTiSwpStart; exact State.live_next s _ _
theorem settles_startTickReached (dt ctx s) : Settles (execStartTickReached dt ctx s) := by unfold execStartTickReached; exact State.live_next s _ _
theorem settles_dwellEnd (dt ctx s) : Settles (execDwellEnd dt ctx s) := by unfold execDwellEnd; exact State.live_next s _ _
theorem settles_stepEnd (dt ctx s) : Settles (execStepEnd dt ctx s) := by unfold execStepEnd; exact State.live_next s _ _
theorem settles_offPhaseEnd (dt ctx s) : Settles (execOffPhaseEnd dt ctx s) := by unfold execOffPhaseEnd; exact State.live_next s _ _
theorem settles_tiSwpStep (dt ctx s) : Settles (execTiSwpStep dt ctx s) := by unfold execTiSwpStep; exact State.live_next s _ _
theorem settles_tiSwpAbort (dt ctx s) : Settles (execTiSwpAbort dt ctx s) := by unfold execTiSwpAbort; exact State.live_next s _ _
theorem settles_tiSwpBrk (dt ctx s) : Settles (execTiSwpBrk dt ctx s) := by unfold execTiSwpBrk; exact State.live_next s _ _
theorem settles_pauseMaxExpired (dt ctx s) : Settles (execPauseMaxExpired dt ctx s) := by unfold execPauseMaxExpired; exact State.live_next s _ _
theorem settles_trgTmoExpired (dt ctx s) : Settles (execTrgTmoExpired dt ctx s) := by unfold execTrgTmoExpired; exact State.live_next s _ _
theorem settles_stepBankWindowWrite (dt path bank word value ecc s) : Settles (execStepBankWindowWrite dt path bank word value ecc s) := by unfold execStepBankWindowWrite; exact State.live_next s _ _
theorem settles_markAccepted (dt s) : Settles (execMarkAccepted dt s) := by unfold execMarkAccepted; exact State.live_next s _ _
theorem settles_mclkMissing (dt s) : Settles (execMclkMissing dt s) := by unfold execMclkMissing; exact State.live_next s _ _
theorem settles_mclkPresent (dt s) : Settles (execMclkPresent dt s) := by unfold execMclkPresent; exact State.live_next s _ _
theorem settles_markLoss (dt s) : Settles (execMarkLoss dt s) := by unfold execMarkLoss; exact State.live_next s _ _
theorem settles_holdoverExpired (dt s) : Settles (execHoldoverExpired dt s) := by unfold execHoldoverExpired; exact State.live_next s _ _
theorem settles_acquireTimeout (dt s) : Settles (execAcquireTimeout dt s) := by unfold execAcquireTimeout; exact State.live_next s _ _
theorem settles_loadNextMark (dt s) : Settles (execLoadNextMark dt s) := by unfold execLoadNextMark State.hosted; exact State.live_next s _ _
theorem settles_loadAfterSec (dt s) : Settles (execLoadAfterSec dt s) := by unfold execLoadAfterSec State.hosted; exact State.live_next s _ _
theorem settles_loadCancel (dt s) : Settles (execLoadCancel dt s) := by unfold execLoadCancel State.hosted; exact State.live_next s _ _
theorem settles_snapshot (dt s) : Settles (execSnapshot dt s) := by unfold execSnapshot State.hosted; exact State.live_next s _ _
theorem settles_tiPhsSnap (dt s) : Settles (execTiPhsSnap dt s) := by unfold execTiPhsSnap; exact State.live_next s _ _
theorem settles_machEnClear (dt s) : Settles (execMachEnClear dt s) := by unfold execMachEnClear State.hosted; exact State.live_next s _ _
theorem settles_mainsEdge (dt s) : Settles (execMainsEdge dt s) := by unfold execMainsEdge; exact State.live_next s _ _
theorem settles_mainsLoss (dt s) : Settles (execMainsLoss dt s) := by unfold execMainsLoss; exact State.live_next s _ _
theorem settles_alarmFire (dt idx s) : Settles (execAlarmFire dt idx s) := by unfold execAlarmFire; exact State.live_next s _ _
theorem settles_almWrite (dt path s) : Settles (execAlmWrite dt path s) := by unfold execAlmWrite; exact State.live_next s _ _
theorem settles_almRead (dt path s) : Settles (execAlmRead dt path s) := by unfold execAlmRead; exact State.live_next s _ _
theorem settles_almDisable (dt path s) : Settles (execAlmDisable dt path s) := by unfold execAlmDisable; exact State.live_next s _ _
theorem settles_ppsCapture (dt s) : Settles (execPpsCapture dt s) := by unfold execPpsCapture; exact State.live_next s _ _
theorem settles_guardTrip (dt ch cmp s) : Settles (execGuardTrip dt ch cmp s) := by unfold execGuardTrip; exact State.live_next s _ _
theorem settles_watchTrip (dt ch cmp s) : Settles (execWatchTrip dt ch cmp s) := by unfold execWatchTrip; exact State.live_next s _ _
theorem settles_latchHostClear (dt path ch value tripped s) : Settles (execLatchHostClear dt path ch value tripped s) := by unfold execLatchHostClear; exact State.live_next s _ _
theorem settles_puRelease (dt ch cmp s) : Settles (execPuRelease dt ch cmp s) := by unfold execPuRelease; exact State.live_next s _ _
theorem settles_rbNow (dt ch s) : Settles (execRbNow dt ch s) := by unfold execRbNow State.hosted; exact State.live_next s _ _
theorem settles_refadcConversion (dt conv s) : Settles (execRefadcConversion dt conv s) := by unfold execRefadcConversion; exact State.live_next s _ _
theorem settles_calFullRunRequest (dt ch s) : Settles (execCalFullRunRequest dt ch s) := by unfold execCalFullRunRequest State.hosted; exact State.live_next s _ _
theorem settles_calGainRunRequest (dt ch s) : Settles (execCalGainRunRequest dt ch s) := by unfold execCalGainRunRequest State.hosted; exact State.live_next s _ _
theorem settles_calSave (dt ch s) : Settles (execCalSave dt ch s) := by unfold execCalSave State.hosted; exact State.live_next s _ _
theorem settles_calAbort (dt s) : Settles (execCalAbort dt s) := by unfold execCalAbort State.hosted; exact State.live_next s _ _
theorem settles_calReload (dt ch s) : Settles (execCalReload dt ch s) := by unfold execCalReload State.hosted; exact State.live_next s _ _
theorem settles_temperatureTrigger (dt s) : Settles (execTemperatureTrigger dt s) := by unfold execTemperatureTrigger; exact State.live_next s _ _
theorem settles_tiCalGo (dt s) : Settles (execTiCalGo dt s) := by unfold execTiCalGo; exact State.live_next s _ _
theorem settles_calRunStart (dt s) : Settles (execCalRunStart dt s) := by unfold execCalRunStart; exact State.live_next s _ _
theorem settles_routeAckTimeout (dt s) : Settles (execRouteAckTimeout dt s) := by unfold execRouteAckTimeout; exact State.live_next s _ _
theorem settles_calTmoExpired (dt s) : Settles (execCalTmoExpired dt s) := by unfold execCalTmoExpired; exact State.live_next s _ _
theorem settles_calStoreConfirmed (dt s) : Settles (execCalStoreConfirmed dt s) := by unfold execCalStoreConfirmed; exact State.live_next s _ _
theorem settles_uplinkIdleFrame (dt ch frame delay onTick s) : Settles (execUplinkIdleFrame dt ch frame delay onTick s) := by unfold execUplinkIdleFrame; exact State.live_next s _ _
theorem settles_descriptorFrame (dt ch frame s) : Settles (execDescriptorFrame dt ch frame s) := by unfold execDescriptorFrame; exact State.live_next s _ _
theorem settles_mgmtRespFrame (dt ch frame s) : Settles (execMgmtRespFrame dt ch frame s) := by unfold execMgmtRespFrame; exact State.live_next s _ _
theorem settles_levelFrameSend (dt ch s) : Settles (execLevelFrameSend dt ch s) := by unfold execLevelFrameSend; exact State.live_next s _ _
theorem settles_lnkRetrain (dt ch s) : Settles (execLnkRetrain dt ch s) := by unfold execLnkRetrain State.hosted; exact State.live_next s _ _
theorem settles_lnkReenum (dt ch s) : Settles (execLnkReenum dt ch s) := by unfold execLnkReenum State.hosted; exact State.live_next s _ _
theorem settles_elasticSlip (dt ch s) : Settles (execElasticSlip dt ch s) := by unfold execElasticSlip; exact State.live_next s _ _
theorem settles_headAbsent (dt ch s) : Settles (execHeadAbsent dt ch s) := by unfold execHeadAbsent; exact State.live_next s _ _
theorem settles_linkEnClear (dt ch s) : Settles (execLinkEnClear dt ch s) := by unfold execLinkEnClear State.hosted; exact State.live_next s _ _
theorem settles_hmwSend (dt ch s) : Settles (execHmwSend dt ch s) := by unfold execHmwSend State.hosted; exact State.live_next s _ _
theorem settles_mgmtTimeout (dt ch s) : Settles (execMgmtTimeout dt ch s) := by unfold execMgmtTimeout; exact State.live_next s _ _
theorem settles_errorLineReport (dt source cause s) : Settles (execErrorLineReport dt source cause s) := by unfold execErrorLineReport; exact State.live_next s _ _
theorem settles_hearthWindowExpiry (dt source s) : Settles (execHearthWindowExpiry dt source s) := by unfold execHearthWindowExpiry; exact State.live_next s _ _
theorem settles_recordServe (dt s) : Settles (execRecordServe dt s) := by unfold execRecordServe; exact State.live_next s _ _
theorem settles_hrtPop (dt s) : Settles (execHrtPop dt s) := by unfold execHrtPop State.hosted; exact State.live_next s _ _
theorem settles_hrtFirstArm (dt s) : Settles (execHrtFirstArm dt s) := by unfold execHrtFirstArm State.hosted; exact State.live_next s _ _
theorem settles_hrtClrLost (dt s) : Settles (execHrtClrLost dt s) := by unfold execHrtClrLost State.hosted; exact State.live_next s _ _
theorem settles_hrtSrcWriteCfg (dt path s) : Settles (execHrtSrcWriteCfg dt path s) := by unfold execHrtSrcWriteCfg; exact State.live_next s _ _
theorem settles_hrtSrcRead (dt path s) : Settles (execHrtSrcRead dt path s) := by unfold execHrtSrcRead; exact State.live_next s _ _
theorem settles_forceSet (dt path s) : Settles (execForceSet dt path s) := by unfold execForceSet; exact State.live_next s _ _
theorem settles_forceClear (dt path s) : Settles (execForceClear dt path s) := by unfold execForceClear; exact State.live_next s _ _
theorem settles_hostRelease (dt path s) : Settles (execHostRelease dt path s) := by unfold execHostRelease; exact State.live_next s _ _
theorem settles_clearOccCount (dt path s) : Settles (execClearOccCount dt path s) := by unfold execClearOccCount; exact State.live_next s _ _
theorem settles_tmrVote (dt s) : Settles (execTmrVote dt s) := by unfold execTmrVote; exact State.live_next s _ _
theorem settles_cfgCheckStaging (dt path s) : Settles (execCfgCheckStaging dt path s) := by unfold execCfgCheckStaging; exact State.live_next s _ _
theorem settles_cfgApplyStaging (dt path wing s) : Settles (execCfgApplyStaging dt path wing s) := by unfold execCfgApplyStaging; exact State.live_next s _ _
theorem settles_cfgApplySlot (dt path wing slot s) : Settles (execCfgApplySlot dt path wing slot s) := by unfold execCfgApplySlot; exact State.live_next s _ _
theorem settles_cfgStoreSlot (dt path slot s) : Settles (execCfgStoreSlot dt path slot s) := by unfold execCfgStoreSlot; exact State.live_next s _ _
theorem settles_cfgStoreFoundation (dt path s) : Settles (execCfgStoreFoundation dt path s) := by unfold execCfgStoreFoundation; exact State.live_next s _ _
theorem settles_cfgActivateKeeper (dt path s) : Settles (execCfgActivateKeeper dt path s) := by unfold execCfgActivateKeeper; exact State.live_next s _ _
theorem settles_cfgAbort (dt path s) : Settles (execCfgAbort dt path s) := by unfold execCfgAbort; exact State.live_next s _ _
theorem settles_foundationCommit (dt s) : Settles (execFoundationCommit dt s) := by unfold execFoundationCommit; exact State.live_next s _ _
theorem settles_overlayApplyA (dt s) : Settles (execOverlayApplyA dt s) := by unfold execOverlayApplyA; exact State.live_next s _ _
theorem settles_keeperReady (dt s) : Settles (execKeeperReady dt s) := by unfold execKeeperReady; exact State.live_next s _ _
theorem settles_keeperReadyTimeout (dt s) : Settles (execKeeperReadyTimeout dt s) := by unfold execKeeperReadyTimeout; exact State.live_next s _ _
theorem settles_scrubRead (dt region index differs refBad ends s) : Settles (execScrubRead dt region index differs refBad ends s) := by unfold execScrubRead; exact State.live_next s _ _
theorem settles_panOwnWrite (dt path n value s) : Settles (execPanOwnWrite dt path n value s) := by unfold execPanOwnWrite; exact State.live_next s _ _
theorem settles_ownDrainAck (dt bank s) : Settles (execOwnDrainAck dt bank s) := by unfold execOwnDrainAck; exact State.live_next s _ _
theorem settles_pantryWindowRead (dt path bank word high ecc s) : Settles (execPantryWindowRead dt path bank word high ecc s) := by unfold execPantryWindowRead; exact State.live_next s _ _
theorem settles_pantryWindowWrite (dt path bank word value ecc other s) : Settles (execPantryWindowWrite dt path bank word value ecc other s) := by unfold execPantryWindowWrite; exact State.live_next s _ _
theorem settles_patrolRead (dt bank ecc s) : Settles (execPatrolRead dt bank ecc s) := by unfold execPatrolRead; exact State.live_next s _ _
theorem settles_panRemapRow (dt path bank row s) : Settles (execPanRemapRow dt path bank row s) := by unfold execPanRemapRow; exact State.live_next s _ _
theorem settles_rowRemapDone (dt bank s) : Settles (execRowRemapDone dt bank s) := by unfold execRowRemapDone; exact State.live_next s _ _
theorem settles_panMigrateBank (dt path bank s) : Settles (execPanMigrateBank dt path bank s) := by unfold execPanMigrateBank; exact State.live_next s _ _
theorem settles_bankFence (dt bank s) : Settles (execBankFence dt bank s) := by unfold execBankFence; exact State.live_next s _ _
theorem settles_migrationDone (dt bank s) : Settles (execMigrationDone dt bank s) := by unfold execMigrationDone; exact State.live_next s _ _
theorem settles_panFullBist (dt path bank s) : Settles (execPanFullBist dt path bank s) := by unfold execPanFullBist; exact State.live_next s _ _
theorem settles_fullBistDone (dt rows s) : Settles (execFullBistDone dt rows s) := by unfold execFullBistDone; exact State.live_next s _ _
theorem settles_onlineBistBorrow (dt fails s) : Settles (execOnlineBistBorrow dt fails s) := by unfold execOnlineBistBorrow; exact State.live_next s _ _
theorem settles_chutePush (dt chute unit word s) : Settles (execChutePush dt chute unit word s) := by unfold execChutePush; exact State.live_next s _ _
theorem settles_chutePop (dt chute unit ecc s) : Settles (execChutePop dt chute unit ecc s) := by unfold execChutePop; exact State.live_next s _ _
theorem settles_chuFlush (dt chute s) : Settles (execChuFlush dt chute s) := by unfold execChuFlush State.hosted; exact State.live_next s _ _
theorem settles_pointerCheckFail (dt chute w w2 r r2 s) : Settles (execPointerCheckFail dt chute w w2 r r2 s) := by unfold execPointerCheckFail; exact State.live_next s _ _
theorem settles_chuteStale (dt chute s) : Settles (execChuteStale dt chute s) := by unfold execChuteStale; exact State.live_next s _ _
theorem settles_hallwayEvent (dt producer half s) : Settles (execHallwayEvent dt producer half s) := by unfold execHallwayEvent; exact State.live_next s _ _
theorem settles_rateWindowExpiry (dt chan s) : Settles (execRateWindowExpiry dt chan s) := by unfold execRateWindowExpiry; exact State.live_next s _ _
theorem settles_refractoryEnd (dt chan s) : Settles (execRefractoryEnd dt chan s) := by unfold execRefractoryEnd; exact State.live_next s _ _
theorem settles_hwyFire (dt mask s) : Settles (execHwyFire dt mask s) := by unfold execHwyFire State.hosted; exact State.live_next s _ _
theorem settles_hwyRouteWrite (dt path s) : Settles (execHwyRouteWrite dt path s) := by unfold execHwyRouteWrite; exact State.live_next s _ _
theorem settles_hwyRouteRead (dt path s) : Settles (execHwyRouteRead dt path s) := by unfold execHwyRouteRead; exact State.live_next s _ _
theorem settles_hwyClearCounts (dt path s) : Settles (execHwyClearCounts dt path s) := by unfold execHwyClearCounts; exact State.live_next s _ _
theorem settles_hwyTiClr (dt path s) : Settles (execHwyTiClr dt path s) := by unfold execHwyTiClr; exact State.live_next s _ _
theorem settles_descriptorSetLoad (dt s) : Settles (execDescriptorSetLoad dt s) := by unfold execDescriptorSetLoad; exact State.live_next s _ _
theorem settles_descriptorBoundary (dt engine s) : Settles (execDescriptorBoundary dt engine s) := by unfold execDescriptorBoundary; exact State.live_next s _ _
theorem settles_heldWordsTimeout (dt engine s) : Settles (execHeldWordsTimeout dt engine s) := by unfold execHeldWordsTimeout; exact State.live_next s _ _
theorem settles_studyPop (dt engine ecc s) : Settles (execStudyPop dt engine ecc s) := by unfold execStudyPop; exact State.live_next s _ _
theorem settles_kernelStart (dt engine flushAt s) : Settles (execKernelStart dt engine flushAt s) := by unfold execKernelStart; exact State.live_next s _ _
theorem settles_kernelEnd (dt engine flushAt s) : Settles (execKernelEnd dt engine flushAt s) := by unfold execKernelEnd; exact State.live_next s _ _
theorem settles_tiStdClose (dt engine flushAt s) : Settles (execTiStdClose dt engine flushAt s) := by unfold execTiStdClose; exact State.live_next s _ _
theorem settles_tiStdReset (dt engine flushAt s) : Settles (execTiStdReset dt engine flushAt s) := by unfold execTiStdReset; exact State.live_next s _ _
theorem settles_studyFence (dt engine s) : Settles (execStudyFence dt engine s) := by unfold execStudyFence; exact State.live_next s _ _
theorem settles_portBlockLock (dt port s) : Settles (execPortBlockLock dt port s) := by unfold execPortBlockLock; exact State.live_next s _ _
theorem settles_speedTryExpiry (dt port s) : Settles (execSpeedTryExpiry dt port s) := by unfold execSpeedTryExpiry; exact State.live_next s _ _
theorem settles_networkHousekeepingFrame (dt port vid f s) : Settles (execNetworkHousekeepingFrame dt port vid f s) := by unfold execNetworkHousekeepingFrame; exact State.live_next s _ _
theorem settles_claondeaMessage (dt port datagram s) : Settles (execClaondeaMessage dt port datagram s) := by unfold execClaondeaMessage; exact State.live_next s _ _
theorem settles_ping (dt port s) : Settles (execPing dt port s) := by unfold execPing; exact State.live_next s _ _
theorem settles_regRead (dt port eccs s) : Settles (execRegRead dt port eccs s) := by unfold execRegRead; exact State.live_next s _ _
theorem settles_regWrite (dt port eccs s) : Settles (execRegWrite dt port eccs s) := by unfold execRegWrite; exact State.live_next s _ _
theorem settles_blkRead (dt port eccs s) : Settles (execBlkRead dt port eccs s) := by unfold execBlkRead; exact State.live_next s _ _
theorem settles_blkWrite (dt port eccs s) : Settles (execBlkWrite dt port eccs s) := by unfold execBlkWrite; exact State.live_next s _ _
theorem settles_ovlLoad (dt port s) : Settles (execOvlLoad dt port s) := by unfold execOvlLoad; exact State.live_next s _ _
theorem settles_sweepLoad (dt port s) : Settles (execSweepLoad dt port s) := by unfold execSweepLoad; exact State.live_next s _ _
theorem settles_streamSub (dt port s) : Settles (execStreamSub dt port s) := by unfold execStreamSub; exact State.live_next s _ _
theorem settles_eventSub (dt port s) : Settles (execEventSub dt port s) := by unfold execEventSub; exact State.live_next s _ _
theorem settles_eventFire (dt port s) : Settles (execEventFire dt port s) := by unfold execEventFire; exact State.live_next s _ _
theorem settles_mcStart (dt port s) : Settles (execMcStart dt port s) := by unfold execMcStart; exact State.live_next s _ _
theorem settles_eventNotifyAck (dt sub s) : Settles (execEventNotifyAck dt sub s) := by unfold execEventNotifyAck; exact State.live_next s _ _
theorem settles_responseHandover (dt port s) : Settles (execResponseHandover dt port s) := by unfold execResponseHandover; exact State.live_next s _ _
theorem settles_streamDataSend (dt sub chute s) : Settles (execStreamDataSend dt sub chute s) := by unfold execStreamDataSend; exact State.live_next s _ _
theorem settles_streamItemCopy (dt chute ecc s) : Settles (execStreamItemCopy dt chute ecc s) := by unfold execStreamItemCopy; exact State.live_next s _ _
theorem settles_eventNotify (dt sub s) : Settles (execEventNotify dt sub s) := by unfold execEventNotify; exact State.live_next s _ _
theorem settles_notifyResend (dt sub s) : Settles (execNotifyResend dt sub s) := by unfold execNotifyResend; exact State.live_next s _ _
theorem settles_ptpMessage (dt msg s) : Settles (execPtpMessage dt msg s) := by unfold execPtpMessage; exact State.live_next s _ _
theorem settles_announceTimeout (dt s) : Settles (execAnnounceTimeout dt s) := by unfold execAnnounceTimeout; exact State.live_next s _ _
theorem settles_failover (dt port s) : Settles (execFailover dt port s) := by unfold execFailover; exact State.live_next s _ _
theorem settles_failback (dt path s) : Settles (execFailback dt path s) := by unfold execFailback; exact State.live_next s _ _
theorem settles_clrSessions (dt path s) : Settles (execClrSessions dt path s) := by unfold execClrSessions; exact State.live_next s _ _
theorem settles_sideDoorRead (dt bytes eccs late s) : Settles (execSideDoorRead dt bytes eccs late s) := by unfold execSideDoorRead; exact State.live_next s _ _
theorem settles_sideDoorWrite (dt bytes eccs late s) : Settles (execSideDoorWrite dt bytes eccs late s) := by unfold execSideDoorWrite; exact State.live_next s _ _
theorem settles_sideDoorStatus (dt bytes s) : Settles (execSideDoorStatus dt bytes s) := by unfold execSideDoorStatus; exact State.live_next s _ _
theorem settles_sideDoorBadCmd (dt bytes s) : Settles (execSideDoorBadCmd dt bytes s) := by unfold execSideDoorBadCmd; exact State.live_next s _ _
theorem settles_frameErr (dt s) : Settles (execFrameErr dt s) := by unfold execFrameErr; exact State.live_next s _ _
theorem settles_kprDoorRing (dt path s) : Settles (execKprDoorRing dt path s) := by unfold execKprDoorRing; exact State.live_next s _ _
theorem settles_info (dt s) : Settles (execInfo dt s) := by unfold execInfo; exact State.live_next s _ _
theorem settles_imgLoad (dt s) : Settles (execImgLoad dt s) := by unfold execImgLoad; exact State.live_next s _ _
theorem settles_fuseKey (dt verifies s) : Settles (execFuseKey dt verifies s) := by unfold execFuseKey; exact State.live_next s _ _
theorem settles_fuseRevoke (dt verifies s) : Settles (execFuseRevoke dt verifies s) := by unfold execFuseRevoke; exact State.live_next s _ _
theorem settles_fuseMinver (dt verifies s) : Settles (execFuseMinver dt verifies s) := by unfold execFuseMinver; exact State.live_next s _ _
theorem settles_fuseSecure (dt verifies s) : Settles (execFuseSecure dt verifies s) := by unfold execFuseSecure; exact State.live_next s _ _
theorem settles_histRead (dt s) : Settles (execHistRead dt s) := by unfold execHistRead; exact State.live_next s _ _
theorem settles_mailboxTimeout (dt s) : Settles (execMailboxTimeout dt s) := by unfold execMailboxTimeout; exact State.live_next s _ _
theorem settles_mailboxCommandEnd (dt s) : Settles (execMailboxCommandEnd dt s) := by unfold execMailboxCommandEnd; exact State.live_next s _ _
theorem settles_keeperWdog (dt s) : Settles (execKeeperWdog dt s) := by unfold execKeeperWdog; exact State.live_next s _ _
theorem settles_cellarMount (dt part s) : Settles (execCellarMount dt part s) := by unfold execCellarMount; exact State.live_next s _ _
theorem settles_unitStore (dt outs s) : Settles (execUnitStore dt outs s) := by unfold execUnitStore; exact State.live_next s _ _
theorem settles_unitRead (dt outs s) : Settles (execUnitRead dt outs s) := by unfold execUnitRead; exact State.live_next s _ _
theorem settles_journalAppend (dt outs s) : Settles (execJournalAppend dt outs s) := by unfold execJournalAppend; exact State.live_next s _ _
theorem settles_journalCompaction (dt outs s) : Settles (execJournalCompaction dt outs s) := by unfold execJournalCompaction; exact State.live_next s _ _
theorem settles_historyPageWrite (dt outs s) : Settles (execHistoryPageWrite dt outs s) := by unfold execHistoryPageWrite; exact State.live_next s _ _
theorem settles_histFlushTimer (dt s) : Settles (execHistFlushTimer dt s) := by unfold execHistFlushTimer; exact State.live_next s _ _
theorem settles_nandOpTimeout (dt s) : Settles (execNandOpTimeout dt s) := by unfold execNandOpTimeout; exact State.live_next s _ _
theorem settles_blockRefresh (dt outs s) : Settles (execBlockRefresh dt outs s) := by unfold execBlockRefresh; exact State.live_next s _ _
theorem settles_retentionScanRead (dt outs s) : Settles (execRetentionScanRead dt outs s) := by unfold execRetentionScanRead; exact State.live_next s _ _
theorem settles_wearMigration (dt outs s) : Settles (execWearMigration dt outs s) := by unfold execWearMigration; exact State.live_next s _ _
theorem settles_celRetentionPass (dt path s) : Settles (execCelRetentionPass dt path s) := by unfold execCelRetentionPass; exact State.live_next s _ _
theorem settles_celFlushHistory (dt path s) : Settles (execCelFlushHistory dt path s) := by unfold execCelFlushHistory; exact State.live_next s _ _
theorem settles_celRefreshBlock (dt path block s) : Settles (execCelRefreshBlock dt path block s) := by unfold execCelRefreshBlock; exact State.live_next s _ _
theorem settles_celMarkBad (dt path block s) : Settles (execCelMarkBad dt path block s) := by unfold execCelMarkBad; exact State.live_next s _ _
theorem settles_cellarFence (dt s) : Settles (execCellarFence dt s) := by unfold execCellarFence; exact State.live_next s _ _
theorem settles_supplyFault (dt supply low s) : Settles (execSupplyFault dt supply low s) := by unfold execSupplyFault; exact State.power_next s _ _
theorem settles_hrefLost (dt pll s) : Settles (execHrefLost dt pll s) := by unfold execHrefLost; exact State.power_next s _ _
theorem settles_resetN (dt s) : Settles (execResetN dt s) := by unfold execResetN; exact State.power_next s _ _
theorem settles_glbRstWrite (dt path value s) : Settles (execGlbRstWrite dt path value s) := by unfold execGlbRstWrite; exact State.live_next s _ _
theorem settles_deviceResetRelease (dt bootSel s) : Settles (execDeviceResetRelease dt bootSel s) := by unfold execDeviceResetRelease; exact State.power_next s _ _
theorem settles_bootGo (dt path s) : Settles (execBootGo dt path s) := by unfold execBootGo; exact State.live_next s _ _
theorem settles_bootStore (dt path s) : Settles (execBootStore dt path s) := by unfold execBootStore; exact State.live_next s _ _
theorem settles_keeperStart (dt s) : Settles (execKeeperStart dt s) := by unfold execKeeperStart; exact State.live_next s _ _
theorem settles_glbModeReq (dt path value s) : Settles (execGlbModeReq dt path value s) := by unfold execGlbModeReq; exact State.live_next s _ _
theorem settles_tiWake (dt wing s) : Settles (execTiWake dt wing s) := by unfold execTiWake; exact State.live_next s _ _
theorem settles_hrtSafeRequest (dt wings now s) : Settles (execHrtSafeRequest dt wings now s) := by unfold execHrtSafeRequest; exact State.live_next s _ _
theorem settles_modeEntry (dt wing s) : Settles (execModeEntry dt wing s) := by unfold execModeEntry; exact State.live_next s _ _
theorem settles_safeEntry (dt wing s) : Settles (execSafeEntry dt wing s) := by unfold execSafeEntry; exact State.live_next s _ _
theorem settles_sleepEntry (dt wing s) : Settles (execSleepEntry dt wing s) := by unfold execSleepEntry; exact State.live_next s _ _
theorem settles_wingWake (dt wing s) : Settles (execWingWake dt wing s) := by unfold execWingWake; exact State.live_next s _ _
theorem settles_jtagUpdateIr (dt on cells s) : Settles (execJtagUpdateIr dt on cells s) := by unfold execJtagUpdateIr; exact State.power_next s _ _
theorem settles_stairwellFence (dt s) : Settles (execStairwellFence dt s) := by unfold execStairwellFence; exact State.live_next s _ _
theorem settles_calSequencerFence (dt s) : Settles (execCalSequencerFence dt s) := by unfold execCalSequencerFence; exact State.live_next s _ _
theorem settles_cfgEngineFence (dt s) : Settles (execCfgEngineFence dt s) := by unfold execCfgEngineFence; exact State.live_next s _ _
theorem settles_supplyReturn (dt supply s) : Settles (execSupplyReturn dt supply s) := by unfold execSupplyReturn; exact State.power_next s _ _
theorem settles_hrefReturn (dt s) : Settles (execHrefReturn dt s) := by unfold execHrefReturn; exact State.power_next s _ _
theorem settles_comparatorRelease (dt ch cmp s) : Settles (execComparatorRelease dt ch cmp s) := by unfold execComparatorRelease; exact State.live_next s _ _
theorem settles_portLinkDown (dt port s) : Settles (execPortLinkDown dt port s) := by unfold execPortLinkDown; exact State.live_next s _ _
theorem settles_keeperFence (dt s) : Settles (execKeeperFence dt s) := by unfold execKeeperFence; exact State.live_next s _ _
theorem settles_sideDoorFence (dt s) : Settles (execSideDoorFence dt s) := by unfold execSideDoorFence; exact State.live_next s _ _
theorem settles_keeperFault (dt s) : Settles (execKeeperFault dt s) := by unfold execKeeperFault; exact State.live_next s _ _
theorem settles_nandOperationDone (dt out s) : Settles (execNandOperationDone dt out s) := by unfold execNandOperationDone; exact State.live_next s _ _
theorem settles_calWaitExpiry (dt s) : Settles (execCalWaitExpiry dt s) := by unfold execCalWaitExpiry; exact State.live_next s _ _
theorem settles_armingGateRise (dt ch s) : Settles (execArmingGateRise dt ch s) := by unfold execArmingGateRise; exact State.live_next s _ _
theorem settles_bootStandbyEntry (dt s) : Settles (execBootStandbyEntry dt s) := by unfold execBootStandbyEntry; exact State.live_next s _ _

/-- Every command answers a next state whose pins follow it. -/
theorem exec_settles (c : Instr) (s : State) : Settles (exec c s) := by
  cases c with
  | registerWrite dt path addr value => rw [exec_registerWrite]; exact settles_registerWrite dt path addr value s
  | pairLowRead dt path addr => rw [exec_pairLowRead]; exact settles_pairLowRead dt path addr s
  | pairLowWrite dt path addr value => rw [exec_pairLowWrite]; exact settles_pairLowWrite dt path addr value s
  | pairHighWrite dt path addr value => rw [exec_pairHighWrite]; exact settles_pairHighWrite dt path addr value s
  | measLastVLoRead dt path ch => rw [exec_measLastVLoRead]; exact settles_measLastVLoRead dt path ch s
  | markHtickLoRead dt path => rw [exec_markHtickLoRead]; exact settles_markHtickLoRead dt path s
  | ppsHtickLoRead dt path => rw [exec_ppsHtickLoRead]; exact settles_ppsHtickLoRead dt path s
  | hrtRecSrcRead dt path => rw [exec_hrtRecSrcRead]; exact settles_hrtRecSrcRead dt path s
  | todSecLoRead dt path => rw [exec_todSecLoRead]; exact settles_todSecLoRead dt path s
  | w1cFlagClear dt path addr value => rw [exec_w1cFlagClear]; exact settles_w1cFlagClear dt path addr value s
  | powerOnResetRelease dt bootSel => rw [exec_powerOnResetRelease]; exact settles_powerOnResetRelease dt bootSel s
  | periodBoundary dt ch tripped => rw [exec_periodBoundary]; exact settles_periodBoundary dt ch tripped s
  | compMaxReached dt ch => rw [exec_compMaxReached]; exact settles_compMaxReached dt ch s
  | arm dt ch => rw [exec_arm]; exact settles_arm dt ch s
  | softQuench dt ch => rw [exec_softQuench]; exact settles_softQuench dt ch s
  | hardQuench dt ch => rw [exec_hardQuench]; exact settles_hardQuench dt ch s
  | wngArm dt wing mask => rw [exec_wngArm]; exact settles_wngArm dt wing mask s
  | wngQuench dt wing soft hard => rw [exec_wngQuench]; exact settles_wngQuench dt wing soft hard s
  | armTimeout dt ch => rw [exec_armTimeout]; exact settles_armTimeout dt ch s
  | holdExpired dt ch => rw [exec_holdExpired]; exact settles_holdExpired dt ch s
  | tiTakeover dt ch => rw [exec_tiTakeover]; exact settles_tiTakeover dt ch s
  | tiNospare dt ch => rw [exec_tiNospare]; exact settles_tiNospare dt ch s
  | rampdownFrame dt ch => rw [exec_rampdownFrame]; exact settles_rampdownFrame dt ch s
  | channelFence dt ch => rw [exec_channelFence]; exact settles_channelFence dt ch s
  | headReady dt ch => rw [exec_headReady]; exact settles_headReady dt ch s
  | gpgFire dt ch => rw [exec_gpgFire]; exact settles_gpgFire dt ch s
  | gpgStop dt ch => rw [exec_gpgStop]; exact settles_gpgStop dt ch s
  | tiPulseTrigger dt ch => rw [exec_tiPulseTrigger]; exact settles_tiPulseTrigger dt ch s
  | pulseStart dt ch => rw [exec_pulseStart]; exact settles_pulseStart dt ch s
  | pulseEnd dt ch => rw [exec_pulseEnd]; exact settles_pulseEnd dt ch s
  | loopPassStart dt ch upsets => rw [exec_loopPassStart]; exact settles_loopPassStart dt ch upsets s
  | outputLatch dt ch => rw [exec_outputLatch]; exact settles_outputLatch dt ch s
  | templateReplacementRequest dt ch template => rw [exec_templateReplacementRequest]; exact settles_templateReplacementRequest dt ch template s
  | templateLoadDone dt ch => rw [exec_templateLoadDone]; exact settles_templateLoadDone dt ch s
  | tileFence dt tile => rw [exec_tileFence]; exact settles_tileFence dt tile s
  | spareReady dt ch => rw [exec_spareReady]; exact settles_spareReady dt ch s
  | trkaTimeout dt wing => rw [exec_trkaTimeout]; exact settles_trkaTimeout dt wing s
  | trkpEdge dt wing falling => rw [exec_trkpEdge]; exact settles_trkpEdge dt wing falling s
  | trkpGateEnd dt wing => rw [exec_trkpGateEnd]; exact settles_trkpGateEnd dt wing s
  | trkpTimeout dt wing => rw [exec_trkpTimeout]; exact settles_trkpTimeout dt wing s
  | sampleFrame dt ch frame => rw [exec_sampleFrame]; exact settles_sampleFrame dt ch frame s
  | arrivalEdgeMissing dt ch => rw [exec_arrivalEdgeMissing]; exact settles_arrivalEdgeMissing dt ch s
  | apertureOpen dt ch => rw [exec_apertureOpen]; exact settles_apertureOpen dt ch s
  | apStartCmd dt ch => rw [exec_apStartCmd]; exact settles_apStartCmd dt ch s
  | apStopCmd dt ch => rw [exec_apStopCmd]; exact settles_apStopCmd dt ch s
  | tiAperture dt ch => rw [exec_tiAperture]; exact settles_tiAperture dt ch s
  | recordPush dt ch flushAt => rw [exec_recordPush]; exact settles_recordPush dt ch flushAt s
  | recordRepush dt ch flushAt => rw [exec_recordRepush]; exact settles_recordRepush dt ch flushAt s
  | secTimeout dt ch => rw [exec_secTimeout]; exact settles_secTimeout dt ch s
  | swpArm dt ctx => rw [exec_swpArm]; exact settles_swpArm dt ctx s
  | swpCheckDone dt ctx => rw [exec_swpCheckDone]; exact settles_swpCheckDone dt ctx s
  | swpStart dt ctx => rw [exec_swpStart]; exact settles_swpStart dt ctx s
  | swpAbort dt ctx => rw [exec_swpAbort]; exact settles_swpAbort dt ctx s
  | swpPause dt ctx => rw [exec_swpPause]; exact settles_swpPause dt ctx s
  | swpResume dt ctx => rw [exec_swpResume]; exact settles_swpResume dt ctx s
  | swpRelease dt ctx => rw [exec_swpRelease]; exact settles_swpRelease dt ctx s
  | tiSwpStart dt ctx => rw [exec_tiSwpStart]; exact settles_tiSwpStart dt ctx s
  | startTickReached dt ctx => rw [exec_startTickReached]; exact settles_startTickReached dt ctx s
  | dwellEnd dt ctx => rw [exec_dwellEnd]; exact settles_dwellEnd dt ctx s
  | stepEnd dt ctx => rw [exec_stepEnd]; exact settles_stepEnd dt ctx s
  | offPhaseEnd dt ctx => rw [exec_offPhaseEnd]; exact settles_offPhaseEnd dt ctx s
  | tiSwpStep dt ctx => rw [exec_tiSwpStep]; exact settles_tiSwpStep dt ctx s
  | tiSwpAbort dt ctx => rw [exec_tiSwpAbort]; exact settles_tiSwpAbort dt ctx s
  | tiSwpBrk dt ctx => rw [exec_tiSwpBrk]; exact settles_tiSwpBrk dt ctx s
  | pauseMaxExpired dt ctx => rw [exec_pauseMaxExpired]; exact settles_pauseMaxExpired dt ctx s
  | trgTmoExpired dt ctx => rw [exec_trgTmoExpired]; exact settles_trgTmoExpired dt ctx s
  | stepBankWindowWrite dt path bank word value ecc => rw [exec_stepBankWindowWrite]; exact settles_stepBankWindowWrite dt path bank word value ecc s
  | markAccepted dt => rw [exec_markAccepted]; exact settles_markAccepted dt s
  | mclkMissing dt => rw [exec_mclkMissing]; exact settles_mclkMissing dt s
  | mclkPresent dt => rw [exec_mclkPresent]; exact settles_mclkPresent dt s
  | markLoss dt => rw [exec_markLoss]; exact settles_markLoss dt s
  | holdoverExpired dt => rw [exec_holdoverExpired]; exact settles_holdoverExpired dt s
  | acquireTimeout dt => rw [exec_acquireTimeout]; exact settles_acquireTimeout dt s
  | loadNextMark dt => rw [exec_loadNextMark]; exact settles_loadNextMark dt s
  | loadAfterSec dt => rw [exec_loadAfterSec]; exact settles_loadAfterSec dt s
  | loadCancel dt => rw [exec_loadCancel]; exact settles_loadCancel dt s
  | snapshot dt => rw [exec_snapshot]; exact settles_snapshot dt s
  | tiPhsSnap dt => rw [exec_tiPhsSnap]; exact settles_tiPhsSnap dt s
  | machEnClear dt => rw [exec_machEnClear]; exact settles_machEnClear dt s
  | mainsEdge dt => rw [exec_mainsEdge]; exact settles_mainsEdge dt s
  | mainsLoss dt => rw [exec_mainsLoss]; exact settles_mainsLoss dt s
  | alarmFire dt idx => rw [exec_alarmFire]; exact settles_alarmFire dt idx s
  | almWrite dt path => rw [exec_almWrite]; exact settles_almWrite dt path s
  | almRead dt path => rw [exec_almRead]; exact settles_almRead dt path s
  | almDisable dt path => rw [exec_almDisable]; exact settles_almDisable dt path s
  | ppsCapture dt => rw [exec_ppsCapture]; exact settles_ppsCapture dt s
  | guardTrip dt ch cmp => rw [exec_guardTrip]; exact settles_guardTrip dt ch cmp s
  | watchTrip dt ch cmp => rw [exec_watchTrip]; exact settles_watchTrip dt ch cmp s
  | latchHostClear dt path ch value tripped => rw [exec_latchHostClear]; exact settles_latchHostClear dt path ch value tripped s
  | puRelease dt ch cmp => rw [exec_puRelease]; exact settles_puRelease dt ch cmp s
  | rbNow dt ch => rw [exec_rbNow]; exact settles_rbNow dt ch s
  | refadcConversion dt conv => rw [exec_refadcConversion]; exact settles_refadcConversion dt conv s
  | calFullRunRequest dt ch => rw [exec_calFullRunRequest]; exact settles_calFullRunRequest dt ch s
  | calGainRunRequest dt ch => rw [exec_calGainRunRequest]; exact settles_calGainRunRequest dt ch s
  | calSave dt ch => rw [exec_calSave]; exact settles_calSave dt ch s
  | calAbort dt => rw [exec_calAbort]; exact settles_calAbort dt s
  | calReload dt ch => rw [exec_calReload]; exact settles_calReload dt ch s
  | temperatureTrigger dt => rw [exec_temperatureTrigger]; exact settles_temperatureTrigger dt s
  | tiCalGo dt => rw [exec_tiCalGo]; exact settles_tiCalGo dt s
  | calRunStart dt => rw [exec_calRunStart]; exact settles_calRunStart dt s
  | routeAckTimeout dt => rw [exec_routeAckTimeout]; exact settles_routeAckTimeout dt s
  | calTmoExpired dt => rw [exec_calTmoExpired]; exact settles_calTmoExpired dt s
  | calStoreConfirmed dt => rw [exec_calStoreConfirmed]; exact settles_calStoreConfirmed dt s
  | uplinkIdleFrame dt ch frame delay onTick => rw [exec_uplinkIdleFrame]; exact settles_uplinkIdleFrame dt ch frame delay onTick s
  | descriptorFrame dt ch frame => rw [exec_descriptorFrame]; exact settles_descriptorFrame dt ch frame s
  | mgmtRespFrame dt ch frame => rw [exec_mgmtRespFrame]; exact settles_mgmtRespFrame dt ch frame s
  | levelFrameSend dt ch => rw [exec_levelFrameSend]; exact settles_levelFrameSend dt ch s
  | lnkRetrain dt ch => rw [exec_lnkRetrain]; exact settles_lnkRetrain dt ch s
  | lnkReenum dt ch => rw [exec_lnkReenum]; exact settles_lnkReenum dt ch s
  | elasticSlip dt ch => rw [exec_elasticSlip]; exact settles_elasticSlip dt ch s
  | headAbsent dt ch => rw [exec_headAbsent]; exact settles_headAbsent dt ch s
  | linkEnClear dt ch => rw [exec_linkEnClear]; exact settles_linkEnClear dt ch s
  | hmwSend dt ch => rw [exec_hmwSend]; exact settles_hmwSend dt ch s
  | mgmtTimeout dt ch => rw [exec_mgmtTimeout]; exact settles_mgmtTimeout dt ch s
  | errorLineReport dt source cause => rw [exec_errorLineReport]; exact settles_errorLineReport dt source cause s
  | hearthWindowExpiry dt source => rw [exec_hearthWindowExpiry]; exact settles_hearthWindowExpiry dt source s
  | recordServe dt => rw [exec_recordServe]; exact settles_recordServe dt s
  | hrtPop dt => rw [exec_hrtPop]; exact settles_hrtPop dt s
  | hrtFirstArm dt => rw [exec_hrtFirstArm]; exact settles_hrtFirstArm dt s
  | hrtClrLost dt => rw [exec_hrtClrLost]; exact settles_hrtClrLost dt s
  | hrtSrcWriteCfg dt path => rw [exec_hrtSrcWriteCfg]; exact settles_hrtSrcWriteCfg dt path s
  | hrtSrcRead dt path => rw [exec_hrtSrcRead]; exact settles_hrtSrcRead dt path s
  | forceSet dt path => rw [exec_forceSet]; exact settles_forceSet dt path s
  | forceClear dt path => rw [exec_forceClear]; exact settles_forceClear dt path s
  | hostRelease dt path => rw [exec_hostRelease]; exact settles_hostRelease dt path s
  | clearOccCount dt path => rw [exec_clearOccCount]; exact settles_clearOccCount dt path s
  | tmrVote dt => rw [exec_tmrVote]; exact settles_tmrVote dt s
  | cfgCheckStaging dt path => rw [exec_cfgCheckStaging]; exact settles_cfgCheckStaging dt path s
  | cfgApplyStaging dt path wing => rw [exec_cfgApplyStaging]; exact settles_cfgApplyStaging dt path wing s
  | cfgApplySlot dt path wing slot => rw [exec_cfgApplySlot]; exact settles_cfgApplySlot dt path wing slot s
  | cfgStoreSlot dt path slot => rw [exec_cfgStoreSlot]; exact settles_cfgStoreSlot dt path slot s
  | cfgStoreFoundation dt path => rw [exec_cfgStoreFoundation]; exact settles_cfgStoreFoundation dt path s
  | cfgActivateKeeper dt path => rw [exec_cfgActivateKeeper]; exact settles_cfgActivateKeeper dt path s
  | cfgAbort dt path => rw [exec_cfgAbort]; exact settles_cfgAbort dt path s
  | foundationCommit dt => rw [exec_foundationCommit]; exact settles_foundationCommit dt s
  | overlayApplyA dt => rw [exec_overlayApplyA]; exact settles_overlayApplyA dt s
  | keeperReady dt => rw [exec_keeperReady]; exact settles_keeperReady dt s
  | keeperReadyTimeout dt => rw [exec_keeperReadyTimeout]; exact settles_keeperReadyTimeout dt s
  | scrubRead dt region index differs refBad ends => rw [exec_scrubRead]; exact settles_scrubRead dt region index differs refBad ends s
  | panOwnWrite dt path n value => rw [exec_panOwnWrite]; exact settles_panOwnWrite dt path n value s
  | ownDrainAck dt bank => rw [exec_ownDrainAck]; exact settles_ownDrainAck dt bank s
  | pantryWindowRead dt path bank word high ecc => rw [exec_pantryWindowRead]; exact settles_pantryWindowRead dt path bank word high ecc s
  | pantryWindowWrite dt path bank word value ecc other => rw [exec_pantryWindowWrite]; exact settles_pantryWindowWrite dt path bank word value ecc other s
  | patrolRead dt bank ecc => rw [exec_patrolRead]; exact settles_patrolRead dt bank ecc s
  | panRemapRow dt path bank row => rw [exec_panRemapRow]; exact settles_panRemapRow dt path bank row s
  | rowRemapDone dt bank => rw [exec_rowRemapDone]; exact settles_rowRemapDone dt bank s
  | panMigrateBank dt path bank => rw [exec_panMigrateBank]; exact settles_panMigrateBank dt path bank s
  | bankFence dt bank => rw [exec_bankFence]; exact settles_bankFence dt bank s
  | migrationDone dt bank => rw [exec_migrationDone]; exact settles_migrationDone dt bank s
  | panFullBist dt path bank => rw [exec_panFullBist]; exact settles_panFullBist dt path bank s
  | fullBistDone dt rows => rw [exec_fullBistDone]; exact settles_fullBistDone dt rows s
  | onlineBistBorrow dt fails => rw [exec_onlineBistBorrow]; exact settles_onlineBistBorrow dt fails s
  | chutePush dt chute unit word => rw [exec_chutePush]; exact settles_chutePush dt chute unit word s
  | chutePop dt chute unit ecc => rw [exec_chutePop]; exact settles_chutePop dt chute unit ecc s
  | chuFlush dt chute => rw [exec_chuFlush]; exact settles_chuFlush dt chute s
  | pointerCheckFail dt chute w w2 r r2 => rw [exec_pointerCheckFail]; exact settles_pointerCheckFail dt chute w w2 r r2 s
  | chuteStale dt chute => rw [exec_chuteStale]; exact settles_chuteStale dt chute s
  | hallwayEvent dt producer half => rw [exec_hallwayEvent]; exact settles_hallwayEvent dt producer half s
  | rateWindowExpiry dt chan => rw [exec_rateWindowExpiry]; exact settles_rateWindowExpiry dt chan s
  | refractoryEnd dt chan => rw [exec_refractoryEnd]; exact settles_refractoryEnd dt chan s
  | hwyFire dt mask => rw [exec_hwyFire]; exact settles_hwyFire dt mask s
  | hwyRouteWrite dt path => rw [exec_hwyRouteWrite]; exact settles_hwyRouteWrite dt path s
  | hwyRouteRead dt path => rw [exec_hwyRouteRead]; exact settles_hwyRouteRead dt path s
  | hwyClearCounts dt path => rw [exec_hwyClearCounts]; exact settles_hwyClearCounts dt path s
  | hwyTiClr dt path => rw [exec_hwyTiClr]; exact settles_hwyTiClr dt path s
  | descriptorSetLoad dt => rw [exec_descriptorSetLoad]; exact settles_descriptorSetLoad dt s
  | descriptorBoundary dt engine => rw [exec_descriptorBoundary]; exact settles_descriptorBoundary dt engine s
  | heldWordsTimeout dt engine => rw [exec_heldWordsTimeout]; exact settles_heldWordsTimeout dt engine s
  | studyPop dt engine ecc => rw [exec_studyPop]; exact settles_studyPop dt engine ecc s
  | kernelStart dt engine flushAt => rw [exec_kernelStart]; exact settles_kernelStart dt engine flushAt s
  | kernelEnd dt engine flushAt => rw [exec_kernelEnd]; exact settles_kernelEnd dt engine flushAt s
  | tiStdClose dt engine flushAt => rw [exec_tiStdClose]; exact settles_tiStdClose dt engine flushAt s
  | tiStdReset dt engine flushAt => rw [exec_tiStdReset]; exact settles_tiStdReset dt engine flushAt s
  | studyFence dt engine => rw [exec_studyFence]; exact settles_studyFence dt engine s
  | portBlockLock dt port => rw [exec_portBlockLock]; exact settles_portBlockLock dt port s
  | speedTryExpiry dt port => rw [exec_speedTryExpiry]; exact settles_speedTryExpiry dt port s
  | networkHousekeepingFrame dt port vid f => rw [exec_networkHousekeepingFrame]; exact settles_networkHousekeepingFrame dt port vid f s
  | claondeaMessage dt port datagram => rw [exec_claondeaMessage]; exact settles_claondeaMessage dt port datagram s
  | ping dt port => rw [exec_ping]; exact settles_ping dt port s
  | regRead dt port eccs => rw [exec_regRead]; exact settles_regRead dt port eccs s
  | regWrite dt port eccs => rw [exec_regWrite]; exact settles_regWrite dt port eccs s
  | blkRead dt port eccs => rw [exec_blkRead]; exact settles_blkRead dt port eccs s
  | blkWrite dt port eccs => rw [exec_blkWrite]; exact settles_blkWrite dt port eccs s
  | ovlLoad dt port => rw [exec_ovlLoad]; exact settles_ovlLoad dt port s
  | sweepLoad dt port => rw [exec_sweepLoad]; exact settles_sweepLoad dt port s
  | streamSub dt port => rw [exec_streamSub]; exact settles_streamSub dt port s
  | eventSub dt port => rw [exec_eventSub]; exact settles_eventSub dt port s
  | eventFire dt port => rw [exec_eventFire]; exact settles_eventFire dt port s
  | mcStart dt port => rw [exec_mcStart]; exact settles_mcStart dt port s
  | eventNotifyAck dt sub => rw [exec_eventNotifyAck]; exact settles_eventNotifyAck dt sub s
  | responseHandover dt port => rw [exec_responseHandover]; exact settles_responseHandover dt port s
  | streamDataSend dt sub chute => rw [exec_streamDataSend]; exact settles_streamDataSend dt sub chute s
  | streamItemCopy dt chute ecc => rw [exec_streamItemCopy]; exact settles_streamItemCopy dt chute ecc s
  | eventNotify dt sub => rw [exec_eventNotify]; exact settles_eventNotify dt sub s
  | notifyResend dt sub => rw [exec_notifyResend]; exact settles_notifyResend dt sub s
  | ptpMessage dt msg => rw [exec_ptpMessage]; exact settles_ptpMessage dt msg s
  | announceTimeout dt => rw [exec_announceTimeout]; exact settles_announceTimeout dt s
  | failover dt port => rw [exec_failover]; exact settles_failover dt port s
  | failback dt path => rw [exec_failback]; exact settles_failback dt path s
  | clrSessions dt path => rw [exec_clrSessions]; exact settles_clrSessions dt path s
  | sideDoorRead dt bytes eccs late => rw [exec_sideDoorRead]; exact settles_sideDoorRead dt bytes eccs late s
  | sideDoorWrite dt bytes eccs late => rw [exec_sideDoorWrite]; exact settles_sideDoorWrite dt bytes eccs late s
  | sideDoorStatus dt bytes => rw [exec_sideDoorStatus]; exact settles_sideDoorStatus dt bytes s
  | sideDoorBadCmd dt bytes => rw [exec_sideDoorBadCmd]; exact settles_sideDoorBadCmd dt bytes s
  | frameErr dt => rw [exec_frameErr]; exact settles_frameErr dt s
  | kprDoorRing dt path => rw [exec_kprDoorRing]; exact settles_kprDoorRing dt path s
  | info dt => rw [exec_info]; exact settles_info dt s
  | imgLoad dt => rw [exec_imgLoad]; exact settles_imgLoad dt s
  | fuseKey dt verifies => rw [exec_fuseKey]; exact settles_fuseKey dt verifies s
  | fuseRevoke dt verifies => rw [exec_fuseRevoke]; exact settles_fuseRevoke dt verifies s
  | fuseMinver dt verifies => rw [exec_fuseMinver]; exact settles_fuseMinver dt verifies s
  | fuseSecure dt verifies => rw [exec_fuseSecure]; exact settles_fuseSecure dt verifies s
  | histRead dt => rw [exec_histRead]; exact settles_histRead dt s
  | mailboxTimeout dt => rw [exec_mailboxTimeout]; exact settles_mailboxTimeout dt s
  | mailboxCommandEnd dt => rw [exec_mailboxCommandEnd]; exact settles_mailboxCommandEnd dt s
  | keeperWdog dt => rw [exec_keeperWdog]; exact settles_keeperWdog dt s
  | cellarMount dt part => rw [exec_cellarMount]; exact settles_cellarMount dt part s
  | unitStore dt outs => rw [exec_unitStore]; exact settles_unitStore dt outs s
  | unitRead dt outs => rw [exec_unitRead]; exact settles_unitRead dt outs s
  | journalAppend dt outs => rw [exec_journalAppend]; exact settles_journalAppend dt outs s
  | journalCompaction dt outs => rw [exec_journalCompaction]; exact settles_journalCompaction dt outs s
  | historyPageWrite dt outs => rw [exec_historyPageWrite]; exact settles_historyPageWrite dt outs s
  | histFlushTimer dt => rw [exec_histFlushTimer]; exact settles_histFlushTimer dt s
  | nandOpTimeout dt => rw [exec_nandOpTimeout]; exact settles_nandOpTimeout dt s
  | blockRefresh dt outs => rw [exec_blockRefresh]; exact settles_blockRefresh dt outs s
  | retentionScanRead dt outs => rw [exec_retentionScanRead]; exact settles_retentionScanRead dt outs s
  | wearMigration dt outs => rw [exec_wearMigration]; exact settles_wearMigration dt outs s
  | celRetentionPass dt path => rw [exec_celRetentionPass]; exact settles_celRetentionPass dt path s
  | celFlushHistory dt path => rw [exec_celFlushHistory]; exact settles_celFlushHistory dt path s
  | celRefreshBlock dt path block => rw [exec_celRefreshBlock]; exact settles_celRefreshBlock dt path block s
  | celMarkBad dt path block => rw [exec_celMarkBad]; exact settles_celMarkBad dt path block s
  | cellarFence dt => rw [exec_cellarFence]; exact settles_cellarFence dt s
  | supplyFault dt supply low => rw [exec_supplyFault]; exact settles_supplyFault dt supply low s
  | hrefLost dt pll => rw [exec_hrefLost]; exact settles_hrefLost dt pll s
  | resetN dt => rw [exec_resetN]; exact settles_resetN dt s
  | glbRstWrite dt path value => rw [exec_glbRstWrite]; exact settles_glbRstWrite dt path value s
  | deviceResetRelease dt bootSel => rw [exec_deviceResetRelease]; exact settles_deviceResetRelease dt bootSel s
  | bootGo dt path => rw [exec_bootGo]; exact settles_bootGo dt path s
  | bootStore dt path => rw [exec_bootStore]; exact settles_bootStore dt path s
  | keeperStart dt => rw [exec_keeperStart]; exact settles_keeperStart dt s
  | glbModeReq dt path value => rw [exec_glbModeReq]; exact settles_glbModeReq dt path value s
  | tiWake dt wing => rw [exec_tiWake]; exact settles_tiWake dt wing s
  | hrtSafeRequest dt wings now => rw [exec_hrtSafeRequest]; exact settles_hrtSafeRequest dt wings now s
  | modeEntry dt wing => rw [exec_modeEntry]; exact settles_modeEntry dt wing s
  | safeEntry dt wing => rw [exec_safeEntry]; exact settles_safeEntry dt wing s
  | sleepEntry dt wing => rw [exec_sleepEntry]; exact settles_sleepEntry dt wing s
  | wingWake dt wing => rw [exec_wingWake]; exact settles_wingWake dt wing s
  | jtagUpdateIr dt on cells => rw [exec_jtagUpdateIr]; exact settles_jtagUpdateIr dt on cells s
  | stairwellFence dt => rw [exec_stairwellFence]; exact settles_stairwellFence dt s
  | calSequencerFence dt => rw [exec_calSequencerFence]; exact settles_calSequencerFence dt s
  | cfgEngineFence dt => rw [exec_cfgEngineFence]; exact settles_cfgEngineFence dt s
  | supplyReturn dt supply => rw [exec_supplyReturn]; exact settles_supplyReturn dt supply s
  | hrefReturn dt => rw [exec_hrefReturn]; exact settles_hrefReturn dt s
  | comparatorRelease dt ch cmp => rw [exec_comparatorRelease]; exact settles_comparatorRelease dt ch cmp s
  | portLinkDown dt port => rw [exec_portLinkDown]; exact settles_portLinkDown dt port s
  | keeperFence dt => rw [exec_keeperFence]; exact settles_keeperFence dt s
  | sideDoorFence dt => rw [exec_sideDoorFence]; exact settles_sideDoorFence dt s
  | keeperFault dt => rw [exec_keeperFault]; exact settles_keeperFault dt s
  | nandOperationDone dt out => rw [exec_nandOperationDone]; exact settles_nandOperationDone dt out s
  | calWaitExpiry dt => rw [exec_calWaitExpiry]; exact settles_calWaitExpiry dt s
  | armingGateRise dt ch => rw [exec_armingGateRise]; exact settles_armingGateRise dt ch s
  | bootStandbyEntry dt => rw [exec_bootStandbyEntry]; exact settles_bootStandbyEntry dt s

/-- A step from a state with a command waiting ends settled. -/
theorem step_settles (s : State) (h : s.pending ≠ []) : Settles (step s) := by
  unfold step
  split
  · contradiction
  · exact exec_settles _ _

end Sys2Proof.Machine
end

