-- ==== Sys2Proof/Tests/Slice0.lean ====
section
/-!
SUPPORT. Witnesses that the hypotheses of the statements can be met, one for each clause; that each well-formedness
check refuses an ill-formed command; and small tests of single commands against the spec's numbers.
-/

open Sys2Proof Sys2Proof.Machine

section

set_option maxRecDepth 20000
set_option Elab.async false

/-- A frame with the type byte and payload given, filled up with zeros, and its CRC-16 (R270). -/
def tFrame (ty : Byte) (pl : List Byte) : Frame :=
  let b := (ty :: pl ++ List.replicate 28 0#8).take 29
  ⟨true, b ++ beBytes 2 (crc16 b)⟩

/-- The payload of a sample: V, I_p, I_s and the status word; the sequence number follows the temperature (R279). -/
def tSample (v i : Nat) (st tmp sq : Nat) : List Byte := leBytes 4 v ++ leBytes 4 i ++ leBytes 4 0 ++ leBytes 4 st ++ leBytes 2 tmp ++ leBytes 2 sq

/-- A descriptor without ranges that passes the checks of R289: magic, version 1, over-range factor 1.0, all quadrants, CRC-32C. -/
def tDesc : List Byte :=
  let b := [0x44#8, 0x4B#8, 0x48#8, 0x44#8, 1#8, 0#8] ++ List.replicate 16 0#8 ++ [15#8, 0#8] ++ leBytes 4 0x3F800000 ++ List.replicate 700 0#8
  b ++ leBytes 4 (crc32c b).toNat ++ List.replicate 24 0#8


/-- A record of an image: type, no flags, length, payload, CRC-32C (R332). -/
def tRec (typ : Nat) (pl : List Byte) : List Byte :=
  let b := leBytes 2 typ ++ leBytes 2 0 ++ leBytes 4 pl.length ++ pl
  b ++ leBytes 4 (crc32c b).toNat

/-- An image with version 1 and build 7: header, the records given, END (R330, R331). -/
def tImg (magic wing mode base : Nat) (recs : List (List Byte)) : List Byte :=
  let body := recs.flatten ++ tRec 1 []
  let h := leBytes 4 magic ++ leBytes 2 1 ++ leBytes 2 0x30 ++ leBytes 4 (48 + body.length) ++ leBytes 4 1 ++ leBytes 2 0x9128
    ++ leBytes 1 wing ++ leBytes 1 mode ++ leBytes 4 (recs.length + 1) ++ leBytes 8 7 ++ leBytes 8 base ++ leBytes 4 0
  h ++ leBytes 4 (crc32c h).toNat ++ body

/-- An overlay for mode STANDBY of wing 2 that sets CH_SETPOINT (offset 0x108) of channel 37 to 1.0. -/
def tOvl : List Byte := tImg 0x564F4B44 2 1 0 [tRec 0x40 (leBytes 4 (chA 37 0x108) ++ leBytes 4 0x3F800000)]

/-- A Foundation: one template LOAD_SAMPLE, STORE_OUT, END; every channel bound to it on a working tile of its wing with k = 4,
φs = 8 and L = 100; banks 0 and 1 with the tiles' engine, bank 2 for staging (R335, R340). -/
def tFnd : List Byte := tImg 0x44464B44 0xFF 0xFF 0
  [tRec 0x10 (leBytes 2 0 ++ leBytes 2 3 ++ leBytes 8 0 ++ leBytes 8 1 ++ leBytes 8 0x20 ++ leBytes 8 0x22),
   tRec 0x11 ((List.range 128).flatMap (fun n => leBytes 1 n ++ leBytes 1 0 ++ leBytes 2 (32 * (n / 16) + n % 16) ++ leBytes 4 4 ++ leBytes 2 8 ++ leBytes 2 100)),
   tRec 0x13 (leBytes 4 0x2000000 ++ leBytes 4 1),
   tRec 0x31 ([1#8, 1#8, 6#8] ++ List.replicate 61 0#8),
   tRec 0x60 []]

/-- Memory that holds the bytes from an address on. -/
def tMem (o : Nat) (b : List Byte) : Mem := (List.zip (rangeFrom o b.length) b).filter (fun e => e.2 != 0#8)

theorem tMem_get_lt (o k : Nat) (b : List Byte) (h : k < o) : Mem.get (tMem o b) k = 0#8 := by
  induction b generalizing o with
  | nil => rfl
  | cons x b ih =>
    have e := ih (o + 1) (by omega)
    unfold tMem Mem.get at *
    simp only [List.length_cons, rangeFrom, List.zip_cons_cons, List.filter_cons]
    split
    · simp only [Tbl.get, if_neg (show ¬ o = k by omega)]; exact e
    · exact e

theorem tMem_get_self (o : Nat) (x : Byte) (b : List Byte) : Mem.get (tMem o (x :: b)) o = x := by
  have e := tMem_get_lt (o + 1) o b (by omega)
  unfold tMem Mem.get at *
  simp only [List.length_cons, rangeFrom, List.zip_cons_cons, List.filter_cons]
  split
  · simp [Tbl.get]
  · rename_i h; simp at h; rw [h]; exact e

theorem tMem_get_gt (o k : Nat) (x : Byte) (b : List Byte) (h : o < k) : Mem.get (tMem o (x :: b)) k = Mem.get (tMem (o + 1) b) k := by
  unfold tMem Mem.get
  simp only [List.length_cons, rangeFrom, List.zip_cons_cons, List.filter_cons]
  split
  · simp only [Tbl.get, if_neg (show ¬ o = k by omega)]
  · rfl

theorem bytes_congr (m t : Mem) (n a : Nat) (h : ∀ k, a ≤ k → Mem.get m k = Mem.get t k) : Mem.bytes m a n = Mem.bytes t a n := by
  induction n generalizing a with
  | zero => rfl
  | succ n ih => simp only [Mem.bytes]; rw [h a (by omega), ih (a + 1) (fun k hk => h k (by omega))]

theorem tMem_bytes (o : Nat) (b : List Byte) : Mem.bytes (tMem o b) o b.length = b := by
  induction b generalizing o with
  | nil => rfl
  | cons x b ih =>
    simp only [List.length_cons, Mem.bytes]
    rw [tMem_get_self, bytes_congr _ (tMem (o + 1) b) b.length (o + 1) (fun k hk => tMem_get_gt o k x b (by omega)), ih]

/-- A Foundation that passes the checks of structure, with no binding. -/
def tFndShort : List Byte := tImg 0x44464B44 0xFF 0xFF 0
  [tRec 0x10 (leBytes 2 0 ++ leBytes 2 1 ++ leBytes 8 0 ++ leBytes 8 1), tRec 0x11 [], tRec 0x13 (leBytes 8 0), tRec 0x31 (List.replicate 64 0#8), tRec 0x60 []]

/-- A descriptor with input Chute 4, records in, no output Chute: kernel 3 with 10 points, or kernel 2 with one tap 1.0 and no
decimation (R407). -/
def tDsc (k : Nat) : List Byte :=
  let p := if k = 3 then leBytes 4 10 ++ List.replicate 216 0#8
    else leBytes 2 1 ++ leBytes 4 1 ++ leBytes 2 0 ++ leBytes 8 0x3FF0000000000000 ++ List.replicate 204 0#8
  let b := leBytes 1 k ++ leBytes 1 4 ++ List.replicate 6 0#8 ++ leBytes 4 1 ++ List.replicate 20 0#8 ++ p
  b ++ leBytes 4 (crc32c b).toNat

/-- A mounted Cellar of one target with 8 blocks of 32 pages of 2048 bytes. -/
def tCel : Cel := { mount := 2, lgPage := 11, lgPpb := 5, blocks := 8, targets := 1 }

theorem test_StepTakesFrontCommand :
    ({ pending := [.hrtPop ⟨0, 0⟩] } : State).pending = .hrtPop ⟨0, 0⟩ :: [] ∧ State.reset.pending = [] := by decide

theorem test_EveryStepKeepsInvariant :
    State.reset.Inv ∧ step State.reset = .next State.reset := ⟨⟨show State.reset.pins = State.reset.settle.pins by decide, by intro e he; cases he⟩, rfl⟩

theorem test_GateLowInSafeState :
    ∃ t, exec (.tmrVote ⟨0, 0⟩) State.reset = .next t ∧ (t.ch 5).st = .quenched := ⟨_, rfl, rfl⟩

theorem test_OpenDrainPinsAfterEveryCommand :
    ∃ t, exec (.tmrVote ⟨0, 0⟩) State.reset = .next t ∧ t.pwr.extest = false := ⟨_, rfl, rfl⟩

theorem test_HeldResetStopsEveryCommand :
    supplyRow (.arm ⟨3, 0⟩ 37) = false ∧ (State.advance { pwr := { held := 2 } } (Instr.arm ⟨3, 0⟩ 37).dt).pwr.held ≠ 0 := by decide

theorem test_UncommittedHostCommandsDoNothing :
    hostRow (.arm ⟨3, 0⟩ 37) = true ∧ (State.reset.advance (Instr.arm ⟨3, 0⟩ 37).dt).calm ∧ bits ((State.reset.advance (Instr.arm ⟨3, 0⟩ 37).dt).rd 0x4000) 0 2 ≠ 2 := by decide

theorem test_RegisterWriteByAccessCode :
    let a := State.advance { regs := [(0x4000, 2#32)] } ⟨9, 0⟩; a.calm ∧ a.committed = true ∧ Tbl.get 0#32 a.tickSet (chA 37 0x018) = 0#32 ∧ Tbl.get 0#32 a.tickSwp (chA 37 0x018) = 0#32 ∧ (∀ e ∈ a.tickInc, e.key ≠ chA 37 0x018) := by decide

theorem test_PairWritesCommitTogether :
    let a := State.advance { regs := [(0x4000, 2#32)] } ⟨9, 0⟩; a.calm ∧ a.committed = true ∧ (∀ k, k = 0x2048 ∨ k = 0x2048 + 4 → Tbl.get 0#32 a.tickSet k = 0#32 ∧ Tbl.get 0#32 a.tickSwp k = 0#32 ∧ ∀ e ∈ a.tickInc, e.key ≠ k) := by
  refine ⟨by decide, by decide, ?_⟩
  intro k hk
  rcases hk with h | h <;> subst h <;> decide

theorem test_PairAndGroupReadsCopy :
    let a := State.reset.advance ⟨9, 0⟩; a.calm ∧ a.pathOpen .sideDoor = true := by decide

theorem test_FlagClearByWritingOnes :
    let a := State.advance { regs := [(0x4000, 2#32)] } ⟨9, 0⟩; a.calm ∧ a.committed = true := by decide

theorem test_ArmChecksAndEnters_accepted :
    let a := State.advance { regs := [(0x34, 0x80#32), (0x4000, 2#32), (chA 37 4, 4#32)], ctl := [(37, { headReady := true })], loop := [(37, { tile := some 5 })], tiles := [(5, { role := .bound, prog := [0x18#64] })], link := [(37, { descValid := true, desc := List.replicate 28 0#8 ++ [1#8, 0#8, 1#8, 0#8] })] } ⟨9, 0⟩; a.calm ∧ a.committed = true ∧ a.snaps = [] ∧ a.armCode 37 false = 0 := by decide

theorem test_ArmChecksAndEnters_rejected :
    let a := State.advance { regs := [(0x4000, 2#32)], ctl := [(37, { st := .hold })] } ⟨9, 0⟩; a.calm ∧ a.committed = true ∧ a.snaps = [] ∧ (a.ch 37).st ≠ .quenched := by decide

theorem test_ChannelEventTransitions_quench :
    let a := State.advance { regs := [(0x4000, 2#32)], ctl := [(37, { st := .hold })] } ⟨9, 0⟩; a.calm ∧ a.committed = true ∧ a.snaps = [] ∧ (a.ch 37).st.live = true := by decide

theorem test_ChannelEventTransitions_armTimeout :
    let a := State.advance { ctl := [(37, { st := .arming, gateUp := true })] } ⟨512000, 0⟩; a.calm ∧ a.snaps = [] ∧ (a.ch 37).st = .arming ∧ (a.ch 37).gateUp = true ∧ 1024 * (a.ch 37).armLim ≤ (a.htick - (a.ch 37).armStart).toNat := by decide

theorem test_ChannelEventTransitions_takeover :
    let a := State.advance { ctl := [(37, { st := .compliance })] } ⟨9, 0⟩; a.calm ∧ a.snaps = [] ∧ (a.ch 37).st = .compliance ∧ (a.ch 37).st ≠ .fenced := by decide

theorem test_ChannelEventTransitions_ramp :
    let a := State.advance { ctl := [(37, { st := .rampdown, zeroFrames := 2 })] } ⟨128, 0⟩; a.calm ∧ a.snaps = [] ∧ (a.ch 37).st = .rampdown ∧ a.htick.toNat % 128 = 0 ∧ (a.ch 37).rampEdge ≠ some a.htick ∧ 2 ≤ (a.ch 37).zeroFrames := by decide

theorem test_ChannelEventTransitions_compMax :
    let a := State.advance { regs := [(chA 37 0x004, 0x40#32), (chA 37 0x020, 3#32)], ctl := [(37, { st := .compliance, compPeriods := 3, compLim := 3 })] } ⟨9, 0⟩; a.calm ∧ a.snaps = [] ∧ (a.ch 37).st = .compliance ∧ (a.ch 37).compLim ≠ 0 ∧ (a.ch 37).compLim ≤ (a.ch 37).compPeriods ∧ (a.ch 37).compActed = false ∧ bit (a.rd (chA 37 0x004)) 6 = true := by decide

theorem test_CausesThatWaitForTheFrameGrid_soft :
    let a := State.advance { regs := [(0x4000, 2#32)], ctl := [(37, { st := .hold })] } ⟨9, 0⟩; a.calm ∧ (a.ch 37).edge = none ∧ a.committed = true ∧ (a.ch 37).st = .hold := by decide

theorem test_CausesThatWaitForTheFrameGrid_hold :
    let a := State.advance { ctl := [(37, { st := .hold, cause := 0x0A })] } ⟨6000, 0⟩; a.calm ∧ (a.ch 37).edge = none ∧ (a.ch 37).st = .hold ∧ (a.ch 37).holdExp = false ∧ a.holdLimit 37 ≤ (a.htick - (a.ch 37).holdStart).toNat := by decide

theorem test_LatchedCauseActsAtFrameGridEdge_acts :
    let s : State := { htick := 1000#64, ctl := [(37, { st := .hold, edge := some ⟨0x0D, 1000#64⟩ })] }; Tbl.wf s.ctl = true ∧ (s.ch 37).edge = some ⟨0x0D, 1000#64⟩ ∧ nextSt 0x0D (s.ch 37).st = some .rampdown ∧ ((s.advance ⟨24, 0⟩).ch 37).st = .rampdown ∧ ((s.advance ⟨23, 0⟩).ch 37).st = .hold := by decide

theorem test_LatchedCauseActsAtFrameGridEdge_others :
    ∀ m : Nat, m ≠ 37 → (({ htick := 1000#64, ctl := [(37, { st := .hold, edge := some ⟨0x0D, 1000#64⟩ })] } : State).ch m).edge = none := by
  intro m hm
  simp [State.ch, Tbl.get, Ne.symm hm]

theorem test_ArmingGateHeadReadyAndRamp_gate :
    let a := State.advance { ctl := [(37, { st := .arming, gateFell := some 7#64 })] } ⟨1031, 0⟩; a.calm ∧ (a.ch 37).st = .arming ∧ (a.ch 37).gateUp = false ∧ (a.ch 37).gateFell = some 7#64 ∧ 1024 ≤ (a.htick - 7#64).toNat := by decide

theorem test_ArmingGateHeadReadyAndRamp_ready :
    let a := State.advance { ctl := [(37, { headLoading := true })], link := [(37, { descValid := true })] } ⟨9, 0⟩; a.calm ∧ (a.ch 37).headLoading = true ∧ (a.lk 37).descValid = true ∧ bit (a.rd (chA 37 0x004)) 1 = false := by decide

theorem test_ArmingGateHeadReadyAndRamp_ramp :
    let a := State.advance { ctl := [(37, { st := .rampdown, rampLvl := 0x3FF0000000000000#64, rampD := 0x3FF0000000000000#64 })] } ⟨128, 0⟩; a.calm ∧ (a.ch 37).st = .rampdown ∧ a.htick.toNat % 128 = 0 ∧ (a.ch 37).rampEdge ≠ some a.htick ∧ (a.ch 37).zeroFrames < 2 := by decide

theorem test_PulseTrainTriggers_accepted :
    let a := State.advance { regs := [(0x4000, 2#32)], active := [(chA 37 0x700, 1#32)], ctl := [(37, { st := .regulating })], gpg := [(37, { sent := [0#32, 0#32] })] } ⟨9, 0⟩; a.calm ∧ a.committed = true ∧ a.actf (chA 37 0x700) 1 2 = 0 ∧ (a.gp 37).sent.take 2 = [a.act (chA 37 0x11C), a.act (chA 37 0x11C)] ∧ (a.ch 37).st = .regulating ∧ bit (a.act (chA 37 0x700)) 0 = true ∧ (a.gp 37).running = false := by decide

theorem test_PulseTrainTriggers_ignored :
    let a := State.advance { active := [(chA 37 0x700, 2#32)] } ⟨9, 0⟩; a.calm ∧ a.actf (chA 37 0x700) 1 2 = 1 ∧ ¬((a.ch 37).st = .regulating ∨ (a.ch 37).st = .compliance) := by decide

theorem test_PulseNotchesAndStop_start :
    let a := State.advance { ctl := [(37, { st := .regulating })], gpg := [(37, { running := true, delay := 100 })] } ⟨100, 0⟩; a.calm ∧ (a.ch 37).st.reg = true ∧ (a.gp 37).running = true ∧ (a.gp 37).inPulse = false ∧ (a.gp 37).delay + (a.gp 37).j * (a.gp 37).period ≤ (a.htick - (a.gp 37).t0).toNat := by decide

theorem test_PulseNotchesAndStop_end :
    let a := State.advance { ctl := [(37, { st := .regulating })], gpg := [(37, { running := true, delay := 100, width := 32, inPulse := true })] } ⟨132, 0⟩; a.calm ∧ (a.ch 37).st.reg = true ∧ (a.gp 37).running = true ∧ (a.gp 37).inPulse = true ∧ (a.gp 37).delay + (a.gp 37).j * (a.gp 37).period + (a.gp 37).width ≤ (a.htick - (a.gp 37).t0).toNat := by decide

theorem test_PulseNotchesAndStop_stop :
    let a := State.advance { regs := [(0x4000, 2#32)], ctl := [(37, { st := .regulating })], gpg := [(37, { running := true })] } ⟨9, 0⟩; a.calm ∧ (a.ch 37).st.reg = true ∧ (a.gp 37).running = true ∧ a.committed = true := by decide

theorem test_LoopPassDeliversItsOutput :
    let a := State.advance { regs := [(chA 37 0x404, 4#32)], active := [(chA 37 0x480, 0x3F800000#32)], ctl := [(37, { st := .regulating })], loop := [(37, { tile := some 70, lost := 1, kArming := true })], tiles := [(70, { role := .bound, ch := 37, prog := [0x200020#64] })] } ⟨512, 0⟩; a.calm ∧ (a.ch 37).st = .regulating ∧ (a.lp 37).tile = some 70 ∧ (a.tile 70).role = .bound ∧ (a.tile 70).prog = [0x200020#64] ∧ (a.lp 37).take = none ∧ (a.lp 37).startAt = none ∧ (a.lp 37).catchAt = none ∧ (a.lp 37).passEnd = none ∧ a.rf (chA 37 0x404) 0 22 ≠ 0 ∧ a.htick.toNat % (128 * a.rf (chA 37 0x404) 0 22) = a.rf (chA 37 0x408) 0 16 % (128 * a.rf (chA 37 0x404) 0 22) ∧ F32.isFin (F32.ftz (a.act (chA 37 0x480))) = true := by decide

theorem test_OutputLatchTakesOrLosesTheValue_onTime :
    let a := State.advance { active := [(chA 37 0x100, 3#32)], regs := [(chA 37 0x408, 0x640000#32)], ctl := [(37, { st := .regulating })], loop := [(37, { tile := some 70, out := some ⟨0x3F800000#32, 90#64⟩, lost := 1 })] } ⟨100, 0⟩; a.calm ∧ (a.ch 37).st = .regulating ∧ (a.lp 37).tile = some 70 ∧ a.rf (chA 37 0x408) 16 16 ≤ (a.htick - (a.lp 37).passAt).toNat ∧ (a.lp 37).out = some ⟨0x3F800000#32, 90#64⟩ ∧ (a.htick - 90#64).toNat < 2 ^ 63 := by decide

theorem test_OutputLatchTakesOrLosesTheValue_late :
    let a := State.advance { active := [(chA 37 0x100, 3#32)], regs := [(chA 37 0x408, 0x640000#32)], ctl := [(37, { st := .regulating })], loop := [(37, { tile := some 70, out := some ⟨0x3F800000#32, 101#64⟩, lost := 1 })] } ⟨100, 0⟩; a.calm ∧ (a.lp 37).out = some ⟨0x3F800000#32, 101#64⟩ ∧ 2 ^ 63 ≤ (a.htick - 101#64).toNat := by decide

theorem test_OutputLatchTakesOrLosesTheValue_invalid :
    let a := State.advance { active := [(chA 37 0x100, 3#32)], regs := [(chA 37 0x408, 0x640000#32)], ctl := [(37, { st := .regulating })], loop := [(37, { tile := some 70, outBad := true, lost := 1 })] } ⟨100, 0⟩; a.calm ∧ (a.lp 37).tile = some 70 ∧ (a.lp 37).out = none ∧ (a.lp 37).outBad = true := by decide

theorem test_TemplateReplacementAndLoad_refused :
    let a := State.advance { regs := [(0x4000, 2#32)], found := { tpls := [(3, some { count := 1 })] } } ⟨9, 0⟩; a.calm ∧ a.committed = true ∧ (5 : Fin 16).val ≠ (a.lp 37).template ∧ a.replRefused 37 5 = true := by decide

theorem test_TemplateReplacementAndLoad_loaded :
    let a := State.advance { loop := [(37, { tile := some 70, repl := some ⟨71, 3, false⟩ })] } ⟨9, 0⟩; a.calm ∧ (a.lp 37).repl = some ⟨71, 3, false⟩ ∧ (a.lp 37).tile ≠ some 71 ∧ (a.ch 37).st ≠ .regulating := by decide

theorem test_TileFenceTakesASpare_fence :
    let a := State.advance { loop := [(37, { tile := some 70 })], tiles := [(70, { role := .bound, ch := 37 }), (260, { role := .spareFree })] } ⟨9, 0⟩; a.calm ∧ Tbl.wf a.loop = true ∧ (a.lp 37).tile = some 70 ∧ (a.lp 37).repl = none ∧ (a.tile 70).role = .bound ∧ a.freeSpare 2 = some 260 := by decide

theorem test_TileFenceTakesASpare_noSpare :
    let a := State.advance { loop := [(37, { tile := some 70 })], tiles := [(70, { role := .bound, ch := 37 })] } ⟨9, 0⟩; a.calm ∧ a.freeSpare 2 = none := by decide

theorem test_TileFenceTakesASpare_others :
    ∀ m : Nat, m ≠ 37 → (State.lp { loop := [(37, { tile := some 70 })] } m).tile ≠ some 70 ∧ (State.lp { loop := [(37, { tile := some 70 })] } m).repl = none := by
  intro m hm
  simp [State.lp, Tbl.get, Ne.symm hm]

theorem test_TileFenceTakesASpare_ready :
    let a := State.advance { loop := [(37, { tile := some 260, take := some 3#64, lost := 2 })] } ⟨9, 0⟩; a.calm ∧ Tbl.wf a.loop = true ∧ (a.lp 37).tile = some 260 ∧ (a.lp 37).take ≠ none ∧ 2 ≤ (a.lp 37).lost := by decide

theorem test_TrackingInputLossAndGate_trka :
    let a := State.advance { active := [(chA 37 0x428, 1#32)] } ⟨500000, 0⟩; a.calm ∧ 37 / 16 = (2 : Fin 8).val ∧ a.actf (chA 37 0x428) 0 2 = 1 ∧ (a.wtrk 2).aLost = false ∧ 500000 ≤ (a.htick - (a.wtrk 2).aLast).toNat := by decide

theorem test_TrackingInputLossAndGate_trkp :
    let a := State.advance {} ⟨500000, 0⟩; a.calm ∧ (a.wtrk 2).pLost = false ∧ 500 * (a.wtrk 2).tmoUs ≤ (a.htick - (a.wtrk 2).lastEdge).toNat ∧ bit (a.rd (wgA 2 0x20C)) 1 = false := by decide

theorem test_TrackingInputLossAndGate_gate :
    let a := State.advance { regs := [(wgA 2 0x20C, 0x640001#32)], trk := [(2, { pValid := true, edges := 4 })] } ⟨50000000, 0⟩; a.calm ∧ bit (a.rd (wgA 2 0x20C)) 0 = true ∧ (a.wtrk 2).pValid = true ∧ 500000 * (a.wtrk 2).gateMs ≤ (a.htick - (a.wtrk 2).winStart).toNat := by decide

theorem test_SampleFrameIsTakenIn :
    let a := State.advance { regs := [(chA 37 0x600, 1#32)], link := [(37, { st := .up, present := true, lastSeq := some 7#16, noGood := 3 })], meas := [(37, { ap := { phase := .opened, len := 50#32 } })] } ⟨264, 0⟩; a.calm ∧ bit (a.rd (chA 37 0x600)) 0 = true ∧ a.sleeping 2 = false ∧ (a.lk 37).st = .up ∧ (a.lk 37).out = none ∧ (a.lk 37).slip = false ∧ (a.lk 37).badRun = 0 ∧ (a.ms 37).rawOn = false ∧ (a.ms 37).ap.phase = .opened ∧ bits (a.ms 37).ap.cfg 0 2 = 0 ∧ bits (a.ms 37).ap.cfg 4 2 = 0 ∧ (a.ms 37).ap.cutAt = none ∧ 0 < (a.arrival - (a.ms 37).ap.eo).toNat ∧ (a.arrival - (a.ms 37).ap.eo).toNat < 128 * bits (a.ms 37).ap.len 0 26 := by decide

theorem test_SampleFrameIsTakenIn_frame :
    let f := (tFrame 0x20#8 (tSample 0x3F800000 0x3F000000 1 25 8)); let a := State.advance { regs := [(chA 37 0x600, 1#32)], link := [(37, { st := .up, present := true, lastSeq := some 7#16, noGood := 3 })], meas := [(37, { ap := { phase := .opened, len := 50#32 } })] } ⟨264, 0⟩; f.codeOk = true ∧ frCrc f = true ∧ frB f 0 = 0x20 ∧ 1 ≤ a.frAdvance 37 f ∧ a.frAdvance 37 f < 256 ∧ frS f 0 = true ∧ a.framesHeld 37 = false ∧ (a.rg 37).kind = .none := by decide

theorem test_AperturesOpenAndAreCut_trigger :
    let a := State.advance { regs := [(0x4000, 2#32)], active := [(chA 37 0x200, 4#32)] } ⟨9, 0⟩; a.calm ∧ a.committed = true ∧ bits (a.act (chA 37 0x200)) 2 2 = 1 ∧ bits (a.act (chA 37 0x200)) 0 2 ≠ 3 ∧ (a.ms 37).ap.phase = .closed := by decide

theorem test_AperturesOpenAndAreCut_early :
    let a := State.advance { active := [(chA 37 0x200, 0#32)] } ⟨9, 0⟩; a.calm ∧ bits (a.act (chA 37 0x200)) 2 2 ≠ 1 := by decide

theorem test_AperturesOpenAndAreCut_open :
    let a := State.advance { active := [(chA 37 0x200, 0#32)], link := [(37, { st := .up })], meas := [(37, { ap := { phase := .pending } })] } ⟨128, 0⟩; a.calm ∧ (a.ms 37).ap.phase = .pending ∧ a.htick.toNat % 128 = 0 ∧ bits (a.act (chA 37 0x200)) 0 2 = 0 ∧ (a.lk 37).st = .up ∧ (a.ms 37).ap.noHead = false ∧ (a.ms 37).ap.noTime = false := by decide

theorem test_AperturesOpenAndAreCut_stop :
    let a := State.advance { regs := [(0x4000, 2#32)], meas := [(37, { ap := { phase := .opened } })] } ⟨9, 0⟩; a.calm ∧ a.committed = true ∧ (a.ms 37).ap.phase = .opened := by decide

theorem test_RecordsGoToTheirChute_push :
    let a := State.advance { htick := 1000#64, regs := [(0x6000, 5#32), (chuA 9 0, 4#32), (chA 37 0x218, 9#32)], meas := [(37, { rcd := some ⟨1#64, 2#64, 3#64, 4#64, 5, 6, 976#64, none⟩ })] } ⟨24, 0⟩; a.calm ∧ (a.ms 37).rcd = some ⟨1#64, 2#64, 3#64, 4#64, 5, 6, 976#64, none⟩ ∧ a.rf (chA 37 0x218) 0 8 = 9 ∧ a.chuDepth 9 = 16 ∧ a.rf (chuA 9 0) 0 5 ≤ 16 ∧ a.owner (a.chuBank 9) = 5 ∧ (a.bank (a.chuBank 9)).withdrawn = false ∧ (a.bank (a.chuBank 9)).postEnd = none ∧ a.borrow = none ∧ (a.chute 9).tk ≠ a.htick ∧ 24 ≤ (a.htick - 976#64).toNat ∧ 8 ≤ a.chuFree 9 := by decide

theorem test_RecordsGoToTheirChute_full :
    let a := State.advance { htick := 1000#64, regs := [(0x6000, 5#32), (chuA 9 0, 1#32), (chA 37 0x218, 9#32)], meas := [(37, { rcd := some ⟨1#64, 2#64, 3#64, 4#64, 5, 6, 976#64, none⟩ })] } ⟨24, 0⟩; a.calm ∧ a.chuFree 9 < 4 ∧ a.owner (a.chuBank 9) = 5 := by decide

theorem test_RecordsGoToTheirChute_sec :
    let a := State.advance { rng := [(37, { kind := .xfade })] } ⟨8193, 0⟩; a.calm ∧ (a.rg 37).kind = .xfade ∧ (a.rg 37).bx = none ∧ (a.rg 37).secSeen = false ∧ 8192 < (a.htick - (a.rg 37).secAt).toNat := by decide

theorem test_LinkTrainingSteps_down :
    let f := (tFrame 0#8 [1#8, 0#8, 0#8, 0#8, 0x34#8, 0x12#8]); let a := State.advance { regs := [(chA 37 0x600, 1#32)] } ⟨9, 0⟩; a.calm ∧ bit (a.rd (chA 37 0x600)) 0 = true ∧ a.sleeping 2 = false ∧ f.codeOk = true ∧ frCrc f = true ∧ frB f 0 = 0 ∧ frP f 0 1 % 2 = 1 ∧ (a.lk 37).slip = false ∧ (a.lk 37).st = .down := by decide

theorem test_LinkTrainingSteps_up :
    let a := State.advance { regs := [(0x4000, 2#32), (chA 37 0x600, 1#32)], link := [(37, { st := .up })] } ⟨9, 0⟩; a.calm ∧ a.committed = true ∧ (a.lk 37).st = .up ∧ (a.lk 37).out = none ∧ (a.lk 37).lastSlip = none ∧ bit (a.rd (chA 37 0x600)) 0 = true := by decide

theorem test_LinkLossAndReenumeration_absent :
    let a := State.advance { ctl := [(37, { st := .regulating, headReady := true })], link := [(37, { st := .up, present := true, noGood := 256 })] } ⟨9, 0⟩; a.calm ∧ (a.lk 37).out = none ∧ a.snaps = [] ∧ (a.lk 37).present = true ∧ 256 ≤ (a.lk 37).noGood ∧ (a.ch 37).st.live = true := by decide

theorem test_LinkLossAndReenumeration_disable :
    let a := State.advance { regs := [(0x4000, 2#32)], link := [(37, { st := .up })] } ⟨9, 0⟩; a.calm ∧ a.committed = true ∧ (a.lk 37).st ≠ .down ∧ (a.ch 37).st.live = false := by decide

theorem test_DownlinkFrames_level :
    let a := State.advance { active := [(chA 37 0x100, 0#32)], ctl := [(37, { st := .regulating })], loop := [(37, { outLast := 0x3F800000#32, outFrom := some 100#64 })], link := [(37, { st := .up })] } ⟨128, 0⟩; a.calm ∧ a.htick.toNat % 128 = 0 ∧ a.sleeping 2 = false ∧ (a.lk 37).st = .up ∧ (a.lk 37).out = none ∧ (a.lk 37).calQ = [] ∧ (a.lk 37).hostQ = none ∧ a.mode 37 ≠ 2 ∧ (a.htick - 100#64).toNat < 2 ^ 63 := by decide

theorem test_DownlinkFrames_idle :
    let a := State.reset.advance ⟨128, 0⟩; a.calm ∧ a.htick.toNat % 128 = 0 ∧ a.sleeping 2 = false ∧ (a.lk 37).st ≠ .up := by decide

theorem test_DescriptorAndManagement_first :
    let f := tFrame 0x40#8 []; let a := State.advance { regs := [(chA 37 0x600, 1#32)], link := [(37, { st := .desc })] } ⟨9, 0⟩; a.calm ∧ bit (a.rd (chA 37 0x600)) 0 = true ∧ a.sleeping 2 = false ∧ f.codeOk = true ∧ frCrc f = true ∧ (a.lk 37).slip = false ∧ (a.lk 37).st = .desc ∧ (a.lk 37).ack = false ∧ (a.lk 37).buf = [] ∧ frB f 0 = 0x40 := by decide

theorem test_DescriptorAndManagement_last :
    let d := tDesc; let f := tFrame 0x5A#8 (d.drop 728); let a := State.advance { regs := [(chA 37 0x600, 1#32)], link := [(37, { st := .desc, buf := d.take 728, bufOk := true, prevPass := some d })] } ⟨9, 0⟩; a.calm ∧ (a.lk 37).buf.length = 728 ∧ frCrc f = true ∧ frB f 0 = 0x5A ∧ d = (a.lk 37).buf ++ (f.bytes.drop 1).take 28 ∧ (a.lk 37).prevPass = some d ∧ descPassOk d = true ∧ a.tplInfo (a.lp 37).template = none ∧ (a.ch 37).st ≠ .fenced := by decide +kernel

theorem test_DescriptorAndManagement_response :
    let f := (tFrame 0x61#8 (tSample 0 0 1 25 8 ++ [0#8, 0#8, 1#8, 2#8, 3#8, 4#8, 5#8, 6#8])); let a := State.advance { regs := [(chA 37 0x600, 1#32)], link := [(37, { st := .up, out := some ⟨[], 0#64, true, some (List.replicate 6 0#8)⟩ })] } ⟨9, 0⟩; a.calm ∧ (a.lk 37).out = some ⟨[], 0#64, true, some (List.replicate 6 0#8)⟩ ∧ f.codeOk = true ∧ frCrc f = true ∧ frB f 0 = 0x61 ∧ a.frAdvance 37 f < 256 := by decide

theorem test_DescriptorAndManagement_send :
    let a := State.advance { regs := [(0x4000, 2#32)] } ⟨9, 0⟩; a.calm ∧ a.committed = true ∧ (a.lk 37).hostQ = none ∧ (a.lk 37).out = none ∧ bits (a.rd (chA 37 0xC00)) 0 8 < 0x10 := by decide

theorem test_DescriptorAndManagement_busy :
    let a := State.advance { regs := [(0x4000, 2#32)], link := [(37, { hostQ := some [] })] } ⟨9, 0⟩; a.calm ∧ a.committed = true ∧ (a.lk 37).hostQ ≠ none := by decide

theorem test_DescriptorAndManagement_timeout :
    let a := State.advance { link := [(37, { out := some ⟨[], 0#64, true, none⟩ })] } ⟨2048, 0⟩; a.calm ∧ (a.lk 37).out = some ⟨[], 0#64, true, none⟩ ∧ 2048 ≤ (a.htick - 0#64).toNat := by decide

theorem test_PeriodBoundaryCommitsShadowSet_commit :
    let a := State.advance { regs := [(chA 37 0x404, 2#32), (chA 37 0x108, 7#32)] } ⟨256, 0⟩; a.calm ∧ a.atBoundary 37 = true ∧ a.sleeping 2 = false ∧ bit (a.rd (chA 37 0x004)) 0 = false ∧ (a.cc 37).applyHeld = false ∧ isShadow 0x108 = true ∧ chA 37 0x108 ∈ a.regs.map (·.1) ∧ a.shadowVal (chA 37 0x108) = 7#32 := by decide

theorem test_PeriodBoundaryCommitsShadowSet_held :
    let a := State.advance { regs := [(chA 37 0x404, 2#32), (chA 37 0x004, 1#32)] } ⟨256, 0⟩; a.calm ∧ a.atBoundary 37 = true ∧ a.sleeping 2 = false ∧ bit (a.rd (chA 37 0x004)) 0 = true := by decide

theorem test_PeriodBoundaryCommitsShadowSet_between :
    let a := State.advance { regs := [(chA 37 0x404, 2#32)] } ⟨128, 0⟩; a.calm ∧ a.atBoundary 37 = false := by decide

theorem test_MachineDomainTransitions_acquire :
    let a := State.advance { regs := [(0x2000, 0x209#32)] } ⟨9, 0⟩; a.calm ∧ a.mach.st = .none ∧ a.machEn = true ∧ a.mach.present = true := by decide

theorem test_MachineDomainTransitions_good :
    let a := State.advance { mach := { st := .locked, tit := 1 } } ⟨9, 0⟩; a.calm ∧ a.mach.st = .locked ∧ a.mach.load = .off ∧ a.mach.tit ≤ a.markTol ∧ (a.mach.tick - a.mach.goodAt).toNat < 2 * a.turnLen + a.markTol := by decide

theorem test_MachineDomainTransitions_bad :
    let a := State.advance { mach := { st := .locked, tit := 7 } } ⟨9, 0⟩; a.calm ∧ a.mach.st = .locked ∧ a.markTol < a.mach.tit ∧ a.markTol + a.mach.tit < a.turnLen := by decide

theorem test_MachineDomainTransitions_acquiring :
    let a := State.advance { mach := { st := .acquiring } } ⟨9, 0⟩; a.calm ∧ a.mach.st = .acquiring ∧ a.mach.present = true := by decide

theorem test_MachineDomainTransitions_back :
    let a := State.advance { mach := { st := .holdover, present := false } } ⟨9, 0⟩; a.calm ∧ a.mach.present = false := by decide

theorem test_MachineDomainTransitions_loss :
    let a := State.advance { regs := [(0x2004, 15#32)], mach := { st := .locked } } ⟨9, 33⟩; a.calm ∧ a.mach.st = .locked ∧ 2 * a.turnLen + a.markTol ≤ (a.mach.tick - a.mach.goodAt).toNat := by decide

theorem test_MachineDomainTransitions_frozen :
    let a := State.advance { mach := { st := .holdover, holdMs := 1 }, mains := { st := .holdover, holdMs := 1 } } ⟨500000, 0⟩; a.calm ∧ a.mach.st = .holdover ∧ 500000 * a.mach.holdMs ≤ (a.htick - a.mach.holdAt).toNat ∧ a.mains.st = .holdover ∧ 500000 * a.mains.holdMs ≤ (a.htick - a.mains.holdAt).toNat := by decide

theorem test_MachineDomainTransitions_timeout :
    let a := State.advance { regs := [(0x2004, 15#32)], mach := { st := .acquiring }, mains := { st := .acquiring, lastPer := 10000000 } } ⟨20000000, 32⟩; a.calm ∧ a.mach.st = .acquiring ∧ 2 * a.turnLen ≤ a.mach.markEdges ∧ a.mains.st = .acquiring ∧ a.mains.lastPer ≠ 0 ∧ 2 * a.mains.lastPer ≤ (a.htick - a.mains.edgeAt).toNat := by decide

theorem test_MachineDomainTransitions_off :
    let a := State.advance { regs := [(0x4000, 2#32)] } ⟨9, 0⟩; a.calm ∧ a.committed = true := by decide

theorem test_LoadsAndTimeCaptures :
    let a := State.advance { regs := [(0x4000, 2#32)] } ⟨1, 0⟩; a.calm ∧ a.committed = true ∧ a.mach.tit < 2 ^ 20 ∧ a.tod.ns < 4 := by decide

theorem test_MainsDomainEdges_early :
    let a := State.advance { regs := [(0x2000, 0x20A#32)], mains := { st := .locked, edged := true } } ⟨9, 0⟩; a.calm ∧ a.mains.edged = true ∧ (a.htick - a.mains.edgeAt).toNat < 2000000 := by decide

theorem test_MainsDomainEdges_first :
    let a := State.advance { regs := [(0x2000, 0x20A#32)] } ⟨9, 0⟩; a.calm ∧ a.mainsEn = true ∧ a.mains.edged = false ∧ a.mains.st = .none := by decide

theorem test_MainsDomainEdges_good :
    let a := State.advance { regs := [(0x2000, 0x20A#32)], mains := { st := .locked, edged := true, pos := 65536#48, periods := [10000000, 10000000, 10000000, 10000000] } } ⟨10000000, 0⟩; a.calm ∧ a.mainsEn = true ∧ a.mains.st = .locked ∧ a.mains.edged = true ∧ 7692500 ≤ (a.htick - a.mains.edgeAt).toNat ∧ (a.htick - a.mains.edgeAt).toNat ≤ 11111000 ∧ (a.mains.at_ a.htick).toNat % 65536 ≤ 0xCCC := by decide

theorem test_MainsDomainEdges_bad :
    let a := State.advance { regs := [(0x2000, 0x20A#32)], mains := { st := .locked, edged := true, pos := 32768#48, periods := [10000000, 10000000, 10000000, 10000000] } } ⟨10000000, 0⟩; a.calm ∧ 0xCCC < (a.mains.at_ a.htick).toNat % 65536 ∧ (a.mains.at_ a.htick).toNat % 65536 < 65536 - 0xCCC := by decide

theorem test_MainsDomainEdges_loss :
    let a := State.advance { mains := { st := .locked, pos := 200000#48 } } ⟨9, 0⟩; a.calm ∧ a.mains.st = .locked ∧ (a.mains.goodCyc + 2) * 65536 + 0xCCC ≤ (a.mains.at_ a.htick).toNat := by decide

theorem test_AlarmsFireAndAreWritten_fire :
    let a := State.advance { alarms := [(5, { cfg := 0x25#32, val := 9#64 })] } ⟨9, 0⟩; a.calm ∧ Tbl.get none a.almOld 5 = none ∧ bit (a.alarm 5).cfg 0 = true ∧ bits (a.alarm 5).cfg 1 2 = 2 ∧ bit (a.alarm 5).cfg 3 = false ∧ a.htick = (a.alarm 5).val := by decide

theorem test_AlarmsFireAndAreWritten_frozen :
    let a := State.advance { alarms := [(5, { cfg := 0x21#32, val := 9#64 })] } ⟨9, 0⟩; bits (a.alarm 5).cfg 1 2 = 0 ∧ a.mach.st.usable = false := by decide

theorem test_AlarmsFireAndAreWritten_write :
    let a := State.advance { regs := [(0x4000, 2#32), (pkey .keeper 0x2104, 5#32)] } ⟨9, 0⟩; a.calm ∧ a.committed = true ∧ a.almPassed { cfg := a.rd (pkey .keeper 0x2104), val := a.rd (pkey .keeper 0x210C) ++ a.rd (pkey .keeper 0x2108) } = true := by decide

theorem test_AlarmsFireAndAreWritten_later :
    let a := State.advance { regs := [(0x4000, 2#32), (pkey .keeper 0x2104, 5#32), (pkey .keeper 0x2108, 99#32)] } ⟨9, 0⟩; a.calm ∧ a.committed = true ∧ a.almPassed { cfg := a.rd (pkey .keeper 0x2104), val := a.rd (pkey .keeper 0x210C) ++ a.rd (pkey .keeper 0x2108) } = false := by decide

theorem test_SweepContextCommands_arm :
    let a := State.advance { regs := [(0x034, 0xC0#32), (0x4000, 2#32), (0x6000, 0x22#32), (0xE000, 0x0100#32), (ctxA 3 4, 0x00020020#32), (ctxA 3 8, 0x00030400#32)] } ⟨9, 0⟩; a.calm ∧ a.committed = true ∧ a.armRefusal 3 = 0 := by decide

theorem test_SweepContextCommands_checked :
    let a := State.advance { regs := [(0x034, 0xC0#32), (0x4000, 2#32), (0x6000, 0x22#32), (0xE000, 0x0100#32), (ctxA 3 4, 0x00020020#32), (ctxA 3 8, 0x00030400#32)], ctxs := [(3, { st := .checking })] } ⟨9, 0⟩; a.calm ∧ a.committed = true ∧ (a.ctx 3).st = .checking ∧ a.recRefusal 3 = 0 ∧ (a.ctx 3).t = none ∧ a.owner a.resBank = 2 ∧ (a.bank a.resBank).withdrawn = false ∧ a.borrow = none ∧ a.ctxFirst 3 + a.ctxTags 3 ≤ 32768 ∧ 0 < a.ctxTags 3 := by decide +kernel

theorem test_SweepContextCommands_badRecord :
    let a := State.advance { regs := [(0x4000, 2#32), (ctxA 3 0, 2#32), (ctxA 3 8, 0x00030400#32)], ctxs := [(3, { st := .checking })] } ⟨9, 0⟩; a.calm ∧ a.committed = true ∧ (a.ctx 3).st = .checking ∧ a.recRefusal 3 = 7 := by decide +kernel

theorem test_SweepContextCommands_start :
    let a := State.advance { regs := [(0x034, 0xC0#32), (0x4000, 2#32), (ctxA 3 4, 0x00020020#32), (ctxA 3 8, 0x00030400#32)], ctxs := [(3, { st := .armed })] } ⟨9, 0⟩; a.calm ∧ a.committed = true ∧ (a.ctx 3).st = .armed ∧ a.wingMode (a.ctxWing 3) = 3 ∧ kindDomain (a.rf (SWP + 0x100 + 8 * bits (a.stepRec (a.ctxFirst 3)).2 0 4) 0 2) = none ∧ 37 ∈ a.ctxGang 3 := by decide +kernel

theorem test_SweepContextCommands_pause :
    let a := State.advance { regs := [(0x4000, 2#32)], ctxs := [(3, { st := .running, phase := .wait }), (4, { st := .running, phase := .dwell })] } ⟨9, 0⟩; a.calm ∧ a.committed = true ∧ (a.ctx 3).st = .running ∧ (a.ctx 3).phase = .wait ∧ (a.ctx 4).st = .running ∧ (a.ctx 4).phase ≠ .wait ∧ (a.ctx 4).phase ≠ .off := by decide

theorem test_SweepContextCommands_resume :
    let a := State.advance { regs := [(0x034, 0xC0#32), (0x4000, 2#32), (ctxA 3 4, 0x00020020#32), (ctxA 3 8, 0x00030400#32)], ctxs := [(3, { st := .paused, resume := 1, pHost := true })] } ⟨9, 0⟩; a.calm ∧ a.committed = true ∧ (a.ctx 3).st = .paused ∧ (a.ctx 3).pTb = none ∧ (a.ctx 3).pTrg = false ∧ a.wingMode (a.ctxWing 3) = 3 ∧ kindDomain (a.rf (SWP + 0x100 + 8 * bits (a.stepRec (a.ctxFirst 3 + 1)).2 0 4) 0 2) = none := by decide +kernel

theorem test_SweepContextCommands_refused :
    let a := State.advance { regs := [(0x4000, 2#32)], ctxs := [(3, { st := .paused, pTrg := true })] } ⟨9, 0⟩; a.calm ∧ a.committed = true ∧ (a.ctx 3).st = .paused ∧ (a.ctx 3).pTrg = true ∧ (a.ctx 4).st = .idle ∧ a.unitFenced 0x420 = false ∧ a.wingMode (a.ctxWing 4) ≠ 3 := by decide

theorem test_SweepStepsInTime_dwell :
    let a := State.advance { ctxs := [(3, { st := .running, phase := .dwell, kind := 0, ed := 5#64 })] } ⟨9, 0⟩; a.calm ∧ (a.ctx 3).st = .running ∧ (a.ctx 3).phase = .dwell ∧ (a.ctx 3).kind ≠ 3 ∧ (a.htick - (a.ctx 3).ed).toNat < 2 ^ 63 := by decide

theorem test_SweepStepsInTime_stepEnd :
    let a := State.advance { regs := [(0x6000, 0x22#32), (0xE000, 0x0100#32), (ctxA 3 4, 0x00020020#32), (ctxA 3 8, 0x00030400#32)], ctxs := [(3, { st := .running, phase := .dwell, ed := 5#64 })] } ⟨9, 0⟩; a.calm ∧ (a.ctx 3).st = .running ∧ (a.ctx 3).phase = .dwell ∧ (a.ctx 3).kind = 3 ∧ (a.htick - (a.ctx 3).ed).toNat < 2 ^ 63 ∧ a.owner a.resBank = 2 ∧ (a.bank a.resBank).withdrawn = false ∧ a.borrow = none ∧ a.ctxFirst 3 < 32768 ∧ a.stepBank ≠ a.resBank ∧ 1 < a.ctxTags 3 ∧ kindDomain (a.rf (SWP + 0x100 + 8 * bits (a.stepRec (a.ctxFirst 3 + 1)).2 0 4) 0 2) = none ∧ bit (a.rd (ctxA 3 0)) 3 = false ∧ bit (a.rd (ctxA 3 0)) 6 = false := by decide +kernel

theorem test_SweepStepsInTime_stepEndLast :
    let a := State.advance { regs := [(0x6000, 0x22#32), (0xE000, 0x0100#32), (ctxA 3 4, 0x00020020#32), (ctxA 3 8, 0x00030400#32)], ctxs := [(3, { st := .running, phase := .dwell, ed := 5#64, step := 2 })] } ⟨9, 0⟩; a.calm ∧ a.ctxTags 3 ≤ (a.ctx 3).step + 1 ∧ a.owner a.resBank = 2 := by decide

theorem test_SweepStepsInTime_off :
    let a := State.advance { regs := [(ctxA 4 0, 0x40#32)], ctxs := [(3, { st := .running, phase := .off, endAt := 5#64 }), (4, { st := .running, phase := .off, endAt := 5#64 })] } ⟨9, 0⟩; a.calm ∧ (a.ctx 3).st = .running ∧ (a.ctx 3).phase = .off ∧ (a.htick - (a.ctx 3).endAt).toNat < 2 ^ 63 ∧ bit (a.rd (ctxA 3 0)) 6 = false ∧ bit (a.rd (ctxA 4 0)) 6 = true ∧ kindDomain (a.rf (SWP + 0x100 + 8 * bits (a.stepRec (a.ctxFirst 3)).2 0 4) 0 2) = none := by decide +kernel

theorem test_SweepStepsInTime_armed :
    let a := State.advance { regs := [(0x034, 0xC0#32), (ctxA 3 0, 0x20#32), (ctxA 3 4, 0x00020020#32), (ctxA 4 0, 0x10#32)], ctxs := [(3, { st := .armed, t := some 5#48 }), (4, { st := .armed })], mach := { st := .locked, tick := 6#48 } } ⟨9, 0⟩; a.calm ∧ (a.ctx 3).st = .armed ∧ bits (a.rd (ctxA 3 0)) 4 2 = 2 ∧ a.mach.st.usable = true ∧ (a.ctx 3).t = some 5#48 ∧ (a.mach.tick - 5#48).toNat < 2 ^ 47 ∧ a.wingMode (a.ctxWing 3) = 3 ∧ bits (a.rd (ctxA 4 0)) 4 2 = 1 ∧ a.wingMode (a.ctxWing 4) ≠ 3 := by decide

theorem test_SweepStepsInTime_wait :
    let a := State.advance { ctxs := [(3, { st := .running, phase := .wait })] } ⟨9, 0⟩; a.calm ∧ (a.ctx 3).st = .running ∧ (a.ctx 3).phase = .wait ∧ (a.ctx 4).st ≠ .paused ∧ (a.ctx 4).phase ≠ .wait := by decide

theorem test_SweepAbortsPausesAndWindow_abort :
    let a := State.advance { ctxs := [(3, { st := .running, phase := .dwell })] } ⟨9, 0⟩; a.calm ∧ (a.ctx 3).st = .running ∧ (a.ctx 3).flags / 2 % 2 = 0 ∧ a.ctxs = [(3, a.ctx 3)] := by decide

theorem test_SweepAbortsPausesAndWindow_masked :
    let a := State.advance { ctxs := [(3, { st := .running, phase := .dwell, flags := 2 })] } ⟨9, 0⟩; a.calm ∧ (a.ctx 3).st = .running ∧ (a.ctx 3).phase = .dwell ∧ (a.ctx 3).flags / 2 % 2 = 1 := by decide

theorem test_SweepAbortsPausesAndWindow_limit :
    let a := State.advance { regs := [(ctxA 3 0x1C, 0x01000000#32)], ctxs := [(3, { st := .paused })] } ⟨500000000, 0⟩; a.calm ∧ (a.ctx 3).st = .paused ∧ a.rf (ctxA 3 0x1C) 24 8 ≠ 0 ∧ 500000000 * a.rf (ctxA 3 0x1C) 24 8 ≤ (a.htick - (a.ctx 3).since).toNat := by decide

theorem test_SweepAbortsPausesAndWindow_trigger :
    let a := State.advance { ctxs := [(3, { st := .running, phase := .wait, tmo := 1 })] } ⟨500, 0⟩; a.calm ∧ (a.ctx 3).st = .running ∧ (a.ctx 3).phase = .wait ∧ (a.ctx 3).tmo ≠ 0 ∧ 500 * (a.ctx 3).tmo ≤ (a.htick - (a.ctx 3).since).toNat := by decide

theorem test_SweepAbortsPausesAndWindow_window :
    let a := State.advance { regs := [(0x4000, 2#32), (0x6000, 0x22#32), (0xE000, 0x0100#32), (ctxA 3 8, 0x00030004#32)], ctxs := [(3, { st := .armed })], holds := { wr := [(pkey .keeper (panAddr 0 8), 7#32)] } } ⟨9, 0⟩; a.calm ∧ a.committed = true ∧ a.stepBank < 64 ∧ a.stepBank ≠ a.resBank ∧ a.owner a.stepBank = 2 ∧ a.fullOn a.stepBank = false ∧ (a.bank a.stepBank).withdrawn = false ∧ a.borrow = none ∧ a.wrHeld (pkey .keeper (panAddr a.stepBank 8)) = some 7#32 ∧ a.tagCtx 4 = some 3 ∧ (a.ctx 3).st.active = true ∧ a.tagCtx 9 = none := by decide

theorem test_MonitorTripsAndReleases_guard :
    let a := State.advance { active := [(chA 37 0x504, 1#32)], ctl := [(37, { st := .regulating })] } ⟨9, 0⟩; a.calm ∧ bit (a.act (chA 37 0x504)) 0 = true ∧ bit a.supplyOut 3 = false ∧ ((a.mo 37).cmp 1).noDesc = false ∧ ((a.mo 37).cmp 1).latched = false ∧ a.snaps = [] ∧ (a.ch 37).st.live = true := by decide

theorem test_MonitorTripsAndReleases_watch :
    let a := State.advance { active := [(chA 37 0x508, 1#32)], ctl := [(37, { st := .regulating })] } ⟨9, 0⟩; a.calm ∧ bit (a.act (chA 37 0x508)) 0 = true ∧ a.settling 37 2 = false ∧ ((a.mo 37).cmp 2).latched = false ∧ a.rf (chA 37 0x004) 4 2 = 0 := by decide

theorem test_MonitorTripsAndReleases_off :
    let a := State.advance {} ⟨9, 0⟩; a.calm ∧ bit (a.act (chA 37 0x504)) 0 = false := by decide

theorem test_MonitorTripsAndReleases_release :
    let a := State.advance { active := [(chA 37 0x504, 1#32)] } ⟨9, 0⟩; a.calm ∧ bit (a.act (chA 37 0x504)) 0 = true ∧ ((a.mo 37).cmp 1).puPending = false := by decide

theorem test_MonitorTripsAndReleases_powerUp :
    let a := State.advance { mon := [(37, { c1 := { raw := true, filt := true, latched := true, puPending := true } })] } ⟨9, 0⟩; a.calm ∧ ((a.mo 37).cmp 1).puPending = true ∧ ((a.mo 37).cmp 1).noDesc = false := by decide

theorem test_MonitorTripsAndReleases_clear :
    let a := State.advance { regs := [(0x4000, 2#32)], mon := [(37, { c1 := { latched := true }, c2 := { latched := true, filt := true } })] } ⟨9, 0⟩; a.calm ∧ a.committed = true ∧ ((a.mo 37).cmp 1).latched = true ∧ ((a.mo 37).cmp 1).filt = false ∧ ((a.mo 37).cmp 1).puPending = false ∧ ((a.mo 37).cmp 1).noDesc = false ∧ ((a.mo 37).cmp 2).filt = true ∧ ((a.mo 37).cmp 2).tripAt = none ∧ bit 2#32 1 = true ∧ bit 2#2 1 = true ∧ bit 0#2 1 = false := by decide

theorem test_CalibrationRequestsAndStarts_request :
    let a := State.advance { regs := [(0x4000, 2#32)] } ⟨9, 0⟩; a.calm ∧ a.committed = true ∧ Tbl.get none a.cal.pend 37 = none := by decide

theorem test_CalibrationRequestsAndStarts_start :
    let a := State.advance { regs := [(0x034, 0x100#32)], cal := { pend := [(37, some (1, false))] }, link := [(37, { st := .up })] } ⟨9, 0⟩; a.calm ∧ a.rb CAL 2 = false ∧ a.unitFenced 0x402 = false ∧ a.calNextCh = some 37 ∧ Tbl.get none a.cal.pend 37 = some (1, false) ∧ (a.lk 37).calRsp = none ∧ a.wingMode 2 = 4 ∧ (a.lk 37).st = .up ∧ 100 * a.tempSpan 37 ≤ 128 * a.rf (CAL + 0x0C) 0 8 ∧ a.rb (CAL + 0x24) 1 = false ∧ (∀ r, r < 8 → a.declV 37 r = true → a.vrec 37 r 27 1 % 2 = 1) ∧ (∀ r, r < 16 → a.declI 37 r = true → a.irec 37 r 27 1 % 2 = 1) ∧ (a.ch 37).st = .quenched := by decide +kernel

theorem test_CalibrationRequestsAndStarts_startRefused :
    let a := State.advance { regs := [(0x034, 0x100#32), (0x3000, 0x643C07#32)], cal := { pend := [(37, some (1, false))] }, ctl := [(37, { st := .regulating })] } ⟨9, 0⟩; a.calm ∧ a.rb CAL 2 = true ∧ a.calNextCh = some 37 ∧ a.wingMode 2 = 4 ∧ (a.ch 37).st ≠ .quenched := by decide +kernel

theorem test_CalibrationRequestsAndStarts_noneWaiting :
    let a := State.advance { regs := [(0x3000, 0x643C07#32)] } ⟨9, 0⟩; a.calm ∧ a.rb CAL 2 = true ∧ a.calNextCh = none := by decide +kernel

theorem test_CalibrationRequestsAndStarts_warm :
    let a := State.advance { htick := 499999991#64, ctl := [(37, { headReady := true })], chcal := [(37, { src := 3, tSum := 12800, tN := 1 })] } ⟨9, 0⟩; a.calm ∧ a.htick.toNat % 500000000 = 0 ∧ (a.cc 37).tN ≠ 0 ∧ (a.ch 37).headReady = true ∧ (a.cc 37).src = 3 ∧ bit (a.rd (chA 37 0xB0C)) 1 = false ∧ F64.lt (F64.ofFrac (a.rf (CAL + 0x04) 0 10) 100) (F64.abs (F64.sub (F64.div (F64.ofInt (a.cc 37).tSum) (F64.ofInt (128 * (a.cc 37).tN : Nat))) (F64.of32 (a.rd (chA 37 0xB04))))) = true := by decide +kernel

theorem test_CalibrationRequestsAndStarts_conversion :
    let a := State.advance { htick := 50016#64, regs := [(0x034, 5#32), (0x3060, 0x40#32)] } ⟨0, 0⟩; a.calm ∧ 5016 ≤ a.htick.toNat ∧ a.cal.adcNext ≤ (a.htick.toNat - 16) / 5000 - 1 ∧ ((a.htick.toNat - 16) / 5000 - 1) % 10 = 9 ∧ a.dirService = true ∧ a.rb (CAL + 0x60) 6 = true := by decide

theorem test_CalibrationRequestsAndStarts_housekeeping :
    let a := State.advance { htick := 45016#64 } ⟨0, 0⟩; a.calm ∧ ((a.htick.toNat - 16) / 5000 - 1) % 10 = 8 ∧ ((a.htick.toNat - 16) / 5000 - 1) / 10 % 10 = 0 := by decide

theorem test_CalibrationRequestsAndStarts_early :
    let a := State.advance {} ⟨9, 0⟩; a.calm ∧ a.htick.toNat < 5016 ∧ a.htick.toNat % 500000000 ≠ 0 := by decide

theorem test_CalibrationRunsEnd_abort :
    let a := State.advance { regs := [(0x4000, 2#32)], cal := { step := .route, ch := 37, kind := 1 }, ctl := [(37, { st := .regulating })] } ⟨2500000000, 0⟩; a.pwr.held = 0 ∧ (a.lk a.cal.ch).calRsp = none ∧ a.cel.results = [] ∧ a.cal.step.measuring = true ∧ a.snaps = [] ∧ a.committed = true ∧ 5000000 ≤ (a.htick - a.cal.wait).toNat ∧ 500000 * a.cal.tmoMs ≤ (a.htick - a.cal.start).toNat := by decide

theorem test_CalibrationRunsEnd_settle :
    let a := State.advance { regs := [(0x034, 0x100#32)], cal := { step := .settle, ch := 37, kind := 1 }, ctl := [(37, { st := .regulating })], link := [(37, { st := .up })] } ⟨5000000, 0⟩; a.pwr.held = 0 ∧ a.cal.step = .settle ∧ a.calBroken = none ∧ 500000 * a.cal.settleMs ≤ (a.htick - a.cal.wait).toNat := by decide

theorem test_CalibrationRunsEnd_saved :
    let a := State.advance { cal := { saves := [(37, 1, 5)] }, cel := { results := [⟨4, 4, 37, true, []⟩] } } ⟨9, 0⟩; a.pwr.held = 0 ∧ a.cal.step = .idle ∧ a.cel.results = [⟨4, 4, 37, true, []⟩] ∧ a.cal.saves = [(37, 1, 5)] := by decide

theorem test_CalibrationRunsEnd_save :
    let a := State.advance { regs := [(0x4000, 2#32)], cel := { mount := 2, cur := some ⟨0, .erase 1, 0#64⟩ } } ⟨9, 0⟩; a.pwr.held = 0 ∧ a.cel.cur ≠ none ∧ a.committed = true ∧ a.cel.results = [] ∧ a.cal.step = .idle ∧ a.rb CAL 1 = true ∧ a.unitFenced 0x402 = false ∧ a.cal.saves = [] ∧ a.cel.mount = 2 ∧ a.cel.fenced = false := by decide

theorem test_FirstAndLastErrorRegisters :
    let a := State.advance { regs := [(0x4000, 2#32)], pendReps := [⟨0x25, 4, 5, 1#64, 2#64, 2, 2, true, false⟩] } ⟨9, 0⟩; a.calm ∧ a.committed = true ∧ a.pendReps = [⟨0x25, 4, 5, 1#64, 2#64, 2, 2, true, false⟩] ∧ bit (a.rd 0x1060) 21 = false := by decide

theorem test_FirstAndLastErrorRegisters_taken :
    let a := State.advance { regs := [(0x1060, 0x200000#32)], pendReps := [⟨0x25, 4, 5, 1#64, 2#64, 2, 2, true, false⟩] } ⟨9, 0⟩; a.calm ∧ bit (a.rd 0x1060) 21 = true := by decide

theorem test_ReportsCountAndClassify_notice :
    let a := State.advance { srcs := [(0x25, { cfg := { cls := 2, n := 3 } })] } ⟨9, 0⟩; a.calm ∧ a.reports = [] ∧ srcGroup 0x25 = some 2 ∧ (a.src 0x25).lastAt ≠ some a.htick ∧ (a.src 0x25).prev = none ∧ (a.src 0x25).cfg.cls ≠ 0 ∧ (a.src 0x25).grave = false ∧ (a.src 0x25).cfg.cls ≠ 3 ∧ 1 < (a.src 0x25).cfg.n := by decide

theorem test_ReportsCountAndClassify_grave :
    let a := State.advance { srcs := [(0x25, { cfg := { cls := 2, n := 1, react := 3 } }), (0x26, { cfg := { cls := 0 } })] } ⟨9, 0⟩; a.calm ∧ (a.src 0x25).cfg.n ≤ 1 ∧ (a.src 0x26).cfg.cls = 0 ∧ (a.src 0x26).lastAt ≠ some a.htick := by decide

theorem test_ReportsCountAndClassify_window :
    let a := State.advance { srcs := [(0x25, { win := some 0#64 })] } ⟨500000000, 0⟩; a.calm ∧ (a.src 0x25).win = some 0#64 ∧ 500 * (a.src 0x25).cfg.w ≤ (a.htick - 0#64).toNat := by decide

theorem test_ReportsCountAndClassify_pop :
    let a := State.advance { regs := [(0x4000, 2#32)], hrtQueue := [⟨0x25, 4, 4, 0, 1#64, 1#64, 2, true, false, false, none⟩] } ⟨9, 0⟩; a.calm ∧ a.committed = true ∧ a.hrtQueue = [⟨0x25, 4, 4, 0, 1#64, 1#64, 2, true, false, false, none⟩] ∧ (∀ e ∈ a.tickInc, e.key ≠ 0x1030) := by decide

theorem test_HearthSourceCommands :
    let a := State.advance { regs := [(0x034, 0x140#32), (0x4000, 2#32), (pkey .keeper 0x1100, 0x25#32)], srcs := [(0x25, { cfg := { cls := 0 } })] } ⟨9, 0⟩; a.calm ∧ a.committed = true ∧ a.injOk (bits (a.rd (pkey .keeper 0x1100)) 0 11) = true ∧ (a.src 0x25).cfg.cls = 0 ∧ (a.src 0x25).prev = none ∧ (a.src 0x25).lastAt ≠ some a.htick ∧ srcGroup 0x25 ≠ none ∧ bits (a.rd (pkey .keeper 0x1100)) 0 11 = 0x25 ∧ srcHostRelease 0x25 = false := by decide

theorem test_HearthSourceCommands_release :
    let a := State.advance { regs := [(0x4000, 2#32), (pkey .keeper 0x1100, 0x420#32)] } ⟨9, 0⟩; a.calm ∧ a.committed = true ∧ srcHostRelease (bits (a.rd (pkey .keeper 0x1100)) 0 11) = true ∧ bits (a.rd (pkey .keeper 0x1100)) 0 11 ≠ 0x421 ∧ a.injOk 0x420 = false := by decide

theorem test_ConfigurationCommands_check :
    let a := State.advance { regs := [(0x034, 0x40#32), (0x4000, 2#32), (0x4014, 2#32)], pan := tMem 0x100000 tOvl } ⟨9, 0⟩; a.calm ∧ a.committed = true ∧ a.cfgBusy = false ∧ a.cfgFenced = false ∧ isOvl a.stageImage = true ∧ (match a.ovlCheck a.stageImage with | .ok m => a.ovlMeaning m 0 | .error _ => 1) = 0 ∧ a.anyService = false ∧ a.cfg.apply = none ∧ a.cfg.wait = none := by decide +kernel

theorem test_ConfigurationCommands_checkRefused :
    let a := State.advance { regs := [(0x4000, 2#32), (0x4014, 2#32)] } ⟨9, 0⟩; a.calm ∧ a.committed = true ∧ a.cfgBusy = false ∧ a.cfgFenced = false ∧ isOvl a.stageImage = false ∧ (match a.fndCheck a.stageImage with | .ok _ => 0 | .error e => e.code) = 1 := by decide +kernel

theorem test_ConfigurationCommands_store :
    let a := State.advance { regs := [(0x4000, 2#32), (0x4014, 2#32)], pan := tMem 0x100000 tFndShort, cel := { mount := 2, cur := some ⟨0, .erase 3, 0#64⟩ } } ⟨9, 0⟩; a.calm ∧ a.committed = true ∧ a.cfgBusy = false ∧ a.cfgFenced = false ∧ a.cel.mount = 2 ∧ a.cel.fenced = false ∧ a.cel.cur.isSome = true ∧ (match a.fndStoreCheck a.stageImage with | .ok _ => true | .error _ => false) = true := by decide +kernel

theorem test_ConfigurationCommands_storeSlot :
    let a := State.advance { regs := [(0x4000, 2#32), (0x4014, 2#32)], pan := tMem 0x100000 tOvl, cel := { mount := 2, cur := some ⟨0, .erase 3, 0#64⟩ } } ⟨9, 0⟩; a.calm ∧ a.committed = true ∧ a.cfgBusy = false ∧ a.cfgFenced = false ∧ a.cel.mount = 2 ∧ a.cel.fenced = false ∧ a.cel.cur.isSome = true ∧ (match a.imgCheck true a.stageImage with | .ok _ => true | .error _ => false) = true := by decide +kernel

theorem test_ConfigurationCommands_keeper :
    let a := State.advance { regs := [(0x034, 0x140#32), (0x4000, 2#32)], kpr := { running := true, loaded := true } } ⟨1000000000, 0⟩; a.calm ∧ a.committed = true ∧ a.anyService = true ∧ a.kpr.loaded = true ∧ a.kprFenced = false ∧ a.kpr.running = true ∧ a.kpr.ready = false ∧ 1000000000 ≤ a.since a.kpr.startAt := by decide

theorem test_ConfigurationCommands_busy :
    let a := State.advance { regs := [(0x4000, 2#32)], cfg := { job := some ⟨3, 1, 2, []⟩ } } ⟨9, 0⟩; a.calm ∧ a.committed = true ∧ a.cfgBusy = true := by decide

theorem test_FoundationAndOverlaysTakeEffect_commit :
    let a := State.advance { regs := [(0x10, 0x30#32)], cfg := { commit := some (tFnd, 2) } } ⟨9, 0⟩; a.calm ∧ a.cfgFenced = false ∧ a.committed = false ∧ a.cfg.commit = some (tFnd, 2) ∧ (match a.fndCheck tFnd with | .ok m => m.binds.length | .error _ => 0) = 128 := by decide +kernel

theorem test_FoundationAndOverlaysTakeEffect_slots :
    let a := State.advance { regs := [(0x10, 0x10#32)], cfg := { bootA := some (some tFnd), bootB := some (some tFnd) } } ⟨9, 0⟩; a.calm ∧ a.stage = 1 ∧ a.cfg.commit = none ∧ a.cfg.bootA = some (some tFnd) ∧ a.cfg.bootB = some (some tFnd) ∧ (match a.fndCheck tFnd with | .ok _ => true | .error _ => false) = true := by decide +kernel

theorem test_FoundationAndOverlaysTakeEffect_none :
    let a := State.advance { regs := [(0x10, 0x10#32)], cfg := { bootA := some none, bootB := some none } } ⟨9, 0⟩; a.calm ∧ a.stage = 1 ∧ a.cfg.bootA = some none ∧ a.cfg.bootB = some none ∧ a.cel.unitFind 1 0 = none ∧ a.cel.unitFind 1 1 = none := by decide

theorem test_FoundationAndOverlaysTakeEffect_apply :
    let a := State.advance { regs := [(0x034, 0x40#32), (0x4000, 2#32), (0x4014, 2#32)], pan := tMem 0x100000 tOvl } ⟨9, 0⟩; a.calm ∧ a.committed = true ∧ a.cfgBusy = false ∧ a.cfgFenced = false ∧ a.wingMode 2 = 1 ∧ a.tickSwp = [] ∧ (match a.ovlCheck a.stageImage with | .ok m => m.wing == 2 && m.mode == 1 && a.ovlMeaning m 0 == 0 && m.lastWrites.length == 1 | .error _ => false) = true := by decide +kernel

theorem test_FoundationAndOverlaysTakeEffect_applyA :
    let a := State.advance { regs := [(0x034, 0x40#32), (0x4000, 2#32)], cfg := { apply := some { req := { wing := 2, image := tOvl, op := 2 } } } } ⟨9, 0⟩; a.calm ∧ a.cfg.apply = some { req := { wing := 2, image := tOvl, op := 2 } } ∧ a.cfg.wait = none ∧ (match a.ovlCheck tOvl with | .ok m => m.mode == 1 && a.ovlMeaning m 0 == 0 | .error _ => false) = true := by decide +kernel

theorem test_FoundationAndOverlaysTakeEffect_undone :
    let b := tImg 0x564F4B44 2 1 0 [tRec 0x11 (leBytes 1 37 ++ leBytes 1 0 ++ leBytes 2 0xFFFF ++ leBytes 4 4 ++ leBytes 2 8 ++ leBytes 2 100)]; let a := State.advance { regs := [(0x034, 0x40#32), (0x4000, 2#32)], cfg := { apply := some { req := { wing := 2, image := b, op := 2 }, undo := [(chA 37 0x108, 1#32)] } } } ⟨9, 0⟩; a.calm ∧ (match a.ovlCheck b with | .ok m => a.ovlMeaning m 0 | .error _ => 0) = 0x0E := by decide +kernel

theorem test_FoundationAndOverlaysTakeEffect_scrub :
    let a := State.advance { regs := [(0x4090, 1#32)] } ⟨9, 0⟩; a.calm ∧ bit (a.rd 0x4090) 0 = true ∧ a.scrubDefers 3 0 = false ∧ a.cfg.refBad.contains (3, 0) = false := by decide

theorem test_OnlyTheOwnerAccessesABank :
    (5 : Nat) < 8 ∧ (3 : Nat) < 64 ∧ State.reset.owner 3 ≠ 5 := by decide

theorem test_BankOwnersAndService_own :
    let a := State.advance { regs := [(0x034, 0x140#32), (0x4000, 2#32)] } ⟨9, 0⟩; a.calm ∧ a.committed = true ∧ (∀ e ∈ a.ctxs, e.2.st.active = false) ∧ a.ownChanges 0 0x21#32 ≠ [] ∧ (∀ e ∈ a.ownChanges 0 0x21#32, a.ownLocked e.1 = false) ∧ a.owner 3 = 0 ∧ a.anyService = true ∧ a.panOps.full = none := by decide

theorem test_BankOwnersAndService_ownLocked :
    let a := State.advance { regs := [(0x4000, 2#32), (0x8000, 0x4#32)] } ⟨9, 0⟩; a.calm ∧ a.committed = true ∧ a.anyService = false ∧ (∃ e ∈ a.ownChanges 0 1#32, a.ownLocked e.1 = true) := by decide

theorem test_BankOwnersAndService_drain :
    let a := State.advance { panOps := { drain := [(3, some 1#64)] } } ⟨9, 0⟩; a.calm ∧ Tbl.get none a.panOps.drain 3 = some 1#64 := by decide

theorem test_BankOwnersAndService_rows :
    let a := State.advance { regs := [(0x4000, 2#32)], banks := [(3, { remap := [7] }), (4, { rows := [1, 2, 3, 4], mig := some 64 }), (5, { patrol := 1792, remap := [7] })], poison := [(5 * 65536 + 1792, true)] } ⟨9, 0⟩; a.calm ∧ a.committed = true ∧ (a.bank 3).remap = [7] ∧ (a.bank 3).rows.length + (a.bank 3).remap.length < 4 ∧ (a.bank 3).remap.contains 0 = false ∧ 4 ≤ (a.bank 4).rows.length + (a.bank 4).remap.length ∧ (a.bank 4).mig = some 64 ∧ a.sparesFree = [65] ∧ (a.bank 3).withdrawn = false ∧ a.poisoned 3 0 = false ∧ a.poisoned 5 1792 = true ∧ (a.bank 5).patrol = 1792 ∧ (a.bank 5).remap.contains 7 = true := by decide

theorem test_BankOwnersAndService_noSpare :
    let a := State.advance { regs := [(0x4000, 2#32)], banks := [(4, { mig := some 64 }), (5, { onSpare := some 65 })] } ⟨9, 0⟩; a.calm ∧ a.committed = true ∧ a.sparesFree = [] ∧ (a.bank 3).mig = none := by decide

theorem test_BankOwnersAndService_full :
    let a := State.advance { panOps := { full := some (3, 0#64) } } ⟨655360, 0⟩; a.calm ∧ a.panOps.full = some (3, 0#64) ∧ 655360 ≤ a.since 0#64 := by decide

theorem test_BankOwnersAndService_online :
    let a := State.advance { regs := [(0x6044, 0x101#32), (0x6048, 8#32)] } ⟨500, 0⟩; a.calm ∧ bit (a.rd 0x6044) 0 = true ∧ a.rf 0x6044 8 16 ≠ 0 ∧ a.rf 0x6044 8 16 * 500 ≤ a.since a.panOps.bistAt ∧ a.borrowed = none ∧ a.bistNext = some 3 ∧ a.bistRegion 3 = some 0 := by decide +kernel

theorem test_WindowAccessesAndChutes_window :
    let k := pkey .keeper (panAddr 3 9); let a := State.advance { regs := [(0x4000, 2#32), (0x6000, 0x50000#32)], holds := { wr := [(k, 1#32)], rd := [(k, 7#32)] }, poison := [(3 * 65536 + 8, true)] } ⟨9, 0⟩; a.calm ∧ a.committed = true ∧ a.borrow = none ∧ (a.bank 3).withdrawn = false ∧ a.fullOn 3 = false ∧ a.poisoned 3 9 = false ∧ a.poisoned 3 8 = true ∧ a.rdHeld k = some 7#32 ∧ a.wrHeld k = some 1#32 ∧ a.owner 3 = 0 ∧ a.owner 4 = 5 := by decide

theorem test_WindowAccessesAndChutes_push :
    let a := State.advance { regs := [(0x6000, 0x5000#32), (0x8080, 0x1000304#32)], chutes := [(5, { w := 3#17, w2 := 3#17 })] } ⟨9, 0⟩; a.calm ∧ (a.chuTick 4).flush = false ∧ (a.chuTick 4).pushed = none ∧ a.chuDepth 4 = 16 ∧ (a.chuTick 4).level < a.chuDepth 4 ∧ a.postFull 4 = false ∧ a.owner (a.chuBank 4) = 5 ∧ (a.bank (a.chuBank 4)).withdrawn = false ∧ a.borrow = none ∧ (a.chuTick 4).lvl0 = 0 ∧ a.chuDepth 5 ≤ (a.chuTick 5).level := by decide

theorem test_WindowAccessesAndChutes_coll :
    let a := State.advance { regs := [(0x6000, 0x5000#32), (0x8080, 0x1000304#32)], chutes := [(4, { pushed := some 3, tk := 9#64 })] } ⟨9, 0⟩; a.calm ∧ (a.chuTick 4).flush = false ∧ (a.chuTick 4).pushed = some 3 := by decide

theorem test_WindowAccessesAndChutes_pop :
    let a := State.advance { regs := [(0x6000, 0x5000#32), (0x8080, 0x1000304#32)], chutes := [(4, { w := 1#17, w2 := 1#17 })] } ⟨9, 0⟩; a.calm ∧ (a.chuTick 4).flush = false ∧ (a.chuTick 4).popped = none ∧ (a.chuTick 4).lvl0 ≠ 0 ∧ a.chuDepth 4 ≠ 0 ∧ (a.chuTick 4).ovf = none ∧ a.owner (a.chuBank 4) = 5 ∧ (a.bank (a.chuBank 4)).withdrawn = false ∧ a.borrow = none ∧ a.poisoned (a.chuBank 4) (a.chuBase 4) = false ∧ dKernel (a.eng 0).act = 0 := by decide

theorem test_WindowAccessesAndChutes_stale :
    let a := State.advance { regs := [(0x8084, 1#32), (0x4000, 2#32)], chutes := [(4, { w := 1#17, w2 := 1#17, stale := some 0#64, staleUs := 1 })] } ⟨500, 0⟩; a.calm ∧ a.committed = true ∧ a.meas = [] ∧ (a.chute 4).stale = some 0#64 ∧ (a.chute 4).staleUs ≠ 0 ∧ (a.chute 4).staleUs * 500 ≤ a.since 0#64 := by decide

theorem test_HallwayPassesAndAbsorbs_event :
    let x : HwyCh := { prods := [0xD10], tis := [74], rateEn := true, win := some 1#64, winUs := 1, winN := 2, winMax := 2 }; let a := State.advance { hwy := [(4, x), (5, { prods := [0xD10], guard := some (9#64, false) })], launched := [⟨0xD10, 9#64⟩] } ⟨9, 0⟩; a.calm ∧ (a.hwy.map Prod.fst).Nodup ∧ (∀ e ∈ a.hwy, e.1 < 256) ∧ (4, x) ∈ a.hwy ∧ (x.route 9#64).1.contains 0xD10 = true ∧ a.muted 4 = false ∧ x.refractory (9#64, false) = false ∧ (9#64 - 1#64 : BitVec 64).toNat < x.winUs * 500 ∧ hwyTiOk 74 = true ∧ 74 ∈ (x.route 9#64).2 ∧ a.tiGated 74 = false ∧ (a.ti 74).last = none ∧ (a.ti 74).pend < 3 ∧ (a.hw 5).refractory (9#64, false) = true := by decide

theorem test_HallwayPassesAndAbsorbs_ends :
    let a := State.advance { regs := [(0x4000, 2#32)], hwy := [(4, { win := some 0#64, winUs := 1, guard := some (0#64, false) })] } ⟨500, 0⟩; a.calm ∧ a.committed = true ∧ (a.hw 4).win = some 0#64 ∧ (a.hw 4).winUs * 500 ≤ a.since 0#64 ∧ (a.hw 4).guard = some (0#64, false) ∧ 4 * (4 * ((a.hw 4).grefr : Int)) ≤ 5 * (edgeNs (a.htick, true) - edgeNs (0#64, false)) ∧ (a.hw 0).evAt.1 ≠ a.htick ∧ (a.hw 0).absAt.1 ≠ a.htick ∧ (a.hw 0).hitAt.1 ≠ a.htick ∧ (a.ti 0).mergeAt.1 ≠ a.htick := by decide

theorem test_StudyEngines_set :
    let d := tDsc 3; let a := State.advance { regs := [(0x6000, 0x3000#32), (0x6000, 0x3000#32), (0x8080, 0x1000304#32)], stdLoads := [3], pan := tMem 0x180000 (leBytes 4 0x44534B44 ++ leBytes 2 1 ++ leBytes 10 0 ++ leBytes 4 2 ++ leBytes 4 32 ++ List.replicate 232 0#8 ++ d) } ⟨9, 0⟩; a.calm ∧ a.stdLoads = [3] ∧ a.owner 3 = 3 ∧ dsc (a.stdBytes 3 0 16) 0 4 = 0x44534B44 ∧ dsc (a.stdBytes 3 16 8) 4 4 = 32 ∧ a.dscCode 2 (a.stdBytes 3 256 256) = 0 := by decide +kernel

theorem test_StudyEngines_boundary :
    let a := State.advance { engs := [(2, { pend := some (tDsc 3) }), (3, { act := tDsc 3, pend := some (tDsc 2), words := [⟨1#64, false, 1#64, 0⟩] })] } ⟨500001, 0⟩; a.calm ∧ a.engFenced 2 = false ∧ (a.eng 2).run = none ∧ (a.eng 2).words = [] ∧ dScratch (tDsc 3) = 0 ∧ dScratch (tDsc 2) = 0 ∧ (a.eng 3).words.length < fmtWords (dFmt (a.eng 3).act) ∧ 500000 ≤ a.since 1#64 ∧ a.since 1#64 < 2 ^ 63 := by decide +kernel

theorem test_StudyEngines_pop :
    let a := State.advance { regs := [(0x6000, 0x5000#32), (0x8080, 0x1000304#32)], chutes := [(4, { w := 1#17, w2 := 1#17 })], engs := [(2, { act := tDsc 3 })] } ⟨9, 0⟩; a.calm ∧ a.engPops 2 = true ∧ dIn (a.eng 2).act = 4 ∧ (a.chuTick 4).lvl0 ≠ 0 ∧ (a.chuTick 4).popped = none ∧ (a.chuTick 4).ovf = none ∧ (a.chuTick 4).flush = false ∧ a.owner (a.chuBank 4) = 5 ∧ a.borrow = none ∧ a.poisoned 3 256 = false := by decide +kernel

theorem test_StudyEngines_start :
    let w : DWord → PopWord := fun v => ⟨v, false, 1#64, 0⟩; let a := State.advance { engs := [(2, { act := tDsc 3, words := [w 0#64, w 0#64, w 5#64, w 1#64] }), (3, { act := tDsc 3, words := [w 0#64, w 0#64, w 5#64, ⟨1#64, true, 1#64, 0⟩] }), (4, { act := tDsc 3, words := [w 0#64, w 0#64, w 5#64, w 0#64] })] } ⟨9, 0⟩; a.calm ∧ (a.eng 2).act ≠ [] ∧ dKernel (a.eng 2).act = 3 ∧ fmtWords (dFmt (a.eng 2).act) = 4 ∧ dPassEn (a.eng 2).act = false ∧ (itemOf 0 0 (a.eng 2).words).skip = false ∧ (itemOf 0 0 (a.eng 4).words).skip = true := by decide +kernel

theorem test_StudyEngines_end :
    let a := State.advance { engs := [(2, { act := tDsc 3, run := some ([1#64, 2#64, 1#64, 5#64, 0#64], 3#64) }), (3, { act := tDsc 2, run := some ([1#64, 2#64, 1#64, 5#64, 0#64], 3#64) })] } ⟨9, 0⟩; a.calm ∧ (a.htick - 3#64).toNat < 2 ^ 63 ∧ dKernel (a.eng 2).act = 3 ∧ (a.eng 2).seg.length + 1 ≠ dsc (a.eng 2).act 32 4 ∧ dKernel (a.eng 3).act = 2 ∧ ((a.eng 3).n + 1) % dsc (a.eng 3).act 34 4 = 0 ∧ (2 : Nat) % 2 = 0 ∧ dOutEn (a.eng 3).act = false ∧ (a.eng 2).act ≠ [] ∧ a.engFenced 2 = false := by decide +kernel

theorem test_StudyEngines_decim :
    let a := State.advance { engs := [(3, { act := (tDsc 2).set 34 2#8, run := some ([1#64, 2#64, 1#64, 5#64, 0#64], 3#64) }), (2, { act := tDsc 3 })] } ⟨9, 0⟩; a.calm ∧ dKernel (a.eng 3).act = 2 ∧ ((a.eng 3).n + 1) % dsc (a.eng 3).act 34 4 ≠ 0 ∧ (a.eng 2).run = none ∧ (a.eng 2).closeDue = false ∧ dKernel (a.eng 2).act ≠ 6 := by decide +kernel

theorem test_PorchLinksMessagesAndClock_link :
    let a := State.advance { regs := [(prcA 0 0, 1#32)], net := { ports := [(1, { linkUp := true, moved := false })] } } ⟨250000000, 0⟩; a.calm ∧ a.portEnabled 0 = true ∧ (a.port 0).linkUp = false ∧ a.rf (prcA 0 0) 1 2 = 0 ∧ 250000000 ≤ a.since (a.port 0).tryAt ∧ (a.port 1).linkUp = true ∧ 500000 * (a.port 0).foMs ≤ a.since (a.port 0).downAt ∧ a.fences.contains 0x405 = false ∧ bit (a.rd 0xA404) 1 = true ∧ a.portFenced 1 = false ∧ (a.port 0).moved = false := by decide

theorem test_PorchLinksMessagesAndClock_arp :
    let a := State.advance { regs := [(0x4000, 2#32), (prcA 0 0, 1#32), (prcA 0 0x20, 7#32)], net := { ports := [(0, { linkUp := true, moved := true })] } } ⟨9, 0⟩; a.calm ∧ a.portOn 0 = true ∧ a.committed = true ∧ bit (a.rd (prcA 0 0)) 5 = false ∧ (a.port 0).serving = false ∧ a.rd (prcA 0 0x20) = 7#32 ∧ (a.port 0).moved = true ∧ a.portFenced 0 = false ∧ (a.port 1).moved = false := by decide

theorem test_PorchLinksMessagesAndClock_message :
    let m : Nat → List Byte := fun sq => leBytes 1 1 ++ leBytes 1 1 ++ leBytes 2 0 ++ leBytes 2 5 ++ leBytes 2 0 ++ leBytes 4 sq ++ leBytes 2 0 ++ leBytes 2 3; let d : Nat → Datagram := fun sq => ⟨none, 0, [1#8], 9#16, 7#16, m sq⟩; let a := State.advance { regs := [(0x4000, 2#32), (prcA 0 0, 1#32), (prcA 0 0x34, 7#32)], net := { ports := [(0, { linkUp := true })], sess := [(2, { live := true, src := [1#8], udp := 9, sid := 3, h := 4, done := 1#16, cache := [(4, [7#8])] })] } } ⟨9, 0⟩; a.calm ∧ a.committed = true ∧ a.reaches 0 (d 5) = true ∧ (match msgOf (m 5) with | some m => a.nodeOk m && (a.authFails m).isNone && m.seq == 5 && m.kind == 0 && !m.noReply && !a.tagHeld m.tag && a.findSess [1#8] 9 m.sid == some 2 && m.op == 1 | none => false) = true ∧ (a.sess 2).judge 4 false = 2 ∧ msgOf [] = none := by decide +kernel

theorem test_PorchLinksMessagesAndClock_messageHeld :
    let m : List Byte := leBytes 1 1 ++ leBytes 1 1 ++ leBytes 2 0 ++ leBytes 2 5 ++ leBytes 2 0 ++ leBytes 4 5 ++ leBytes 2 0 ++ leBytes 2 3; let a := State.advance { regs := [(0x4000, 2#32), (prcA 0 0, 1#32), (prcA 0 0x34, 7#32), (0xA404, 1#32)], netTags := [5], net := { ports := [(0, { linkUp := true })], sess := [(2, { live := true, src := [1#8], udp := 9, sid := 3, h := 4 })] } } ⟨9, 0⟩; a.calm ∧ a.tagHeld 5 = true ∧ (match msgOf m with | some m => a.authFails m | none => none) = some true := by decide +kernel

theorem test_PorchLinksMessagesAndClock_ptp :
    let a := State.advance { tod := { st := 2, run := 15 } } ⟨9, 0⟩; a.calm ∧ a.tod.st = 2 := by decide

theorem test_PorchLinksMessagesAndClock_ptpListen :
    let a := State.advance { tod := { st := 1 } } ⟨9, 0⟩; a.calm ∧ a.tod.st = 1 := by decide

theorem test_MessageOperations_requests :
    let q : Nat → List Byte → NetReq := fun op b => ⟨0, 2, op, 5, 5, false, none, true, b⟩; let a := State.advance { regs := [(0x4000, 2#32)], net := { reqs := [q 1 [], q 2 (leBytes 4 1 ++ leBytes 4 0x34), q 4 (leBytes 4 0x34 ++ leBytes 4 1), q 0x20 (leBytes 40 1), q 0x30 (leBytes 36 1), q 0x32 (leBytes 4 0x8001), q 0x40 (leBytes 8 0x10000)] } } ⟨9, 0⟩; a.calm ∧ a.committed = true ∧ a.net.reqs.find? (fun r => r.port == 0 && r.op == 2) = some (q 2 (leBytes 4 1 ++ leBytes 4 0x34)) ∧ a.net.reqs.find? (fun r => r.port == 0 && r.op == 0x40) = some (q 0x40 (leBytes 8 0x10000)) ∧ a.tPassed (BitVec.ofNat 48 (fld (leBytes 8 0x10000) 2 6)) = false ∧ (regRow 0x34).isSome = true := by decide +kernel

theorem test_MessageOperations_writes :
    let q : Nat → List Byte → NetReq := fun op b => ⟨0, 2, op, 5, 5, false, none, true, b⟩; let b3 := leBytes 4 1 ++ leBytes 4 0x34 ++ leBytes 4 0; let b5 := leBytes 4 (chA 37 0x18) ++ leBytes 4 1 ++ leBytes 4 16; let a := State.advance { regs := [(0x4000, 2#32)], net := { reqs := [q 3 b3, q 5 b5] } } ⟨9, 0⟩; let x := ({ a with net := { a.net with reqs := a.net.reqs.erase (q 5 b5) } } : State).writes .porch0 [] (List.zip (ascend (fld b5 0 4) 1) (bodyWords (b5.drop 8) 1)); a.calm ∧ x.s.calm ∧ x.s.rd (chA 37 0x18) = 16#32 ∧ x.s.domUsable 0 = a.domUsable 0 ∧ x.s.domUsable 1 = a.domUsable 1 := by decide +kernel

theorem test_MessageOperations_loads :
    let q : Nat → List Byte → NetReq := fun op b => ⟨0, 2, op, 5, 5, false, none, true, b⟩; let b0 := leBytes 4 16 ++ leBytes 2 8 ++ leBytes 2 0 ++ leBytes 8 0x1122334455667788; let b1 := leBytes 52 1; let a := State.advance { regs := [(0x4000, 2#32)], net := { reqs := [q 0x10 b0, q 0x11 b1], rsps := [⟨0, 2, none, 5, true, [1#8]⟩], sess := [(2, { live := true, h := 5, doing := 1#16 })] } } ⟨9, 0⟩; let x := ({ a with net := { a.net with reqs := a.net.reqs.erase (q 0x10 b0) } } : State).writes .porch0 [] (windowWrites a.stageBank 16 (bodyWords (b0.drop 8) 2)); let y := ({ a with net := { a.net with reqs := a.net.reqs.erase (q 0x11 b1) } } : State).writes .porch0 [] (List.zip (ascend (ctxA 1 0) 11) (bodyWords (b1.drop 8) 11)); a.calm ∧ x.s.calm ∧ y.s.calm ∧ x.s.panWord 0 2 = 0x1122334455667788#64 ∧ (∀ d : Nat, d < 2 → y.s.domUsable d = a.domUsable d) ∧ bit (a.sess 2).doing 0 = true := by decide +kernel

theorem test_StreamsAndNotifications_copy :
    let a := State.advance { regs := [(0x6000, 0x5000#32), (0x8080, 0x1000304#32), (0xA804, 1#32), (prcA 0 0, 1#32), (0x4000, 2#32)], chutes := [(4, { w := 1#17, w2 := 1#17 })], net := { ports := [(0, { linkUp := true })], subs := [(3, { on := true, maxWords := 8, mask := 16 })] } } ⟨9, 0⟩; a.calm ∧ a.smap 4 = some (0, 1) ∧ a.portOn 0 = true ∧ (List.range 32).filter (fun i => (a.strm i).covers 4) = [3] ∧ 1 ≤ (a.chuTick 4).level ∧ (a.chuTick 4).flush = false ∧ (a.chuTick 4).ovf = none ∧ a.chuDepth 4 ≠ 0 ∧ a.owner (a.chuBank 4) = 5 ∧ a.borrow = none ∧ a.txWords 0 + 1 ≤ 32768 := by decide +kernel

theorem test_StreamsAndNotifications_fill :
    let a := State.advance { regs := [(0x6000, 0x5000#32), (0x8080, 0x1000304#32), (0xA804, 5#32), (prcA 0 0, 1#32), (0x4000, 2#32)], chutes := [(4, { w := 4#17, w2 := 4#17 })], pan := tMem (panAt 3 259) (List.replicate 8 0xFF#8), net := { ports := [(0, { linkUp := true })], subs := [(3, { on := true, maxWords := 8, mask := 16 })] } } ⟨9, 0⟩; a.calm ∧ a.smap 4 = some (0, 4) ∧ 4 ≤ (a.chuTick 4).level ∧ a.panWord 3 259 = allOnes := by decide +kernel

theorem test_StreamsAndNotifications_send :
    let a := State.advance { regs := [(0xA804, 1#32), (prcA 0 0, 1#32), (0x4000, 2#32), (0x5010, 3#32)], net := { ports := [(0, { linkUp := true })], subs := [(3, { on := true, maxWords := 1, mask := 16, grams := [(4, { words := [7#64] })] })], evs := [(0, { on := true, autoClr := true, mask := 1 }), (1, { on := true, body := [1#8], sends := 8 }), (2, { on := true, body := [1#8], sends := 1 })] } } ⟨500000, 0⟩; a.calm ∧ a.smap 4 = some (0, 1) ∧ (a.strm 3).on = true ∧ (Tbl.get {} (a.strm 3).grams 4).words ≠ [] ∧ (a.strm 3).maxWords ≤ (Tbl.get {} (a.strm 3).grams 4).words.length ∧ a.portOn 0 = true ∧ Nat.land a.watchBits (a.evSub 0).mask ≠ 0 ∧ a.subPort (a.evSub 0).port < 2 ∧ (a.evSub 0).lastAt = none ∧ 500000 ≤ a.since (a.evSub 1).sentAt ∧ 8 ≤ (a.evSub 1).sends ∧ (a.evSub 2).sends < 8 := by decide +kernel

theorem test_SideDoorFrames_read :
    let h : List Byte := [0x40#8] ++ beBytes 4 0x34; let b := h ++ beBytes 2 (crc16 h); let a := State.advance { regs := [(0x4000, 2#32)] } ⟨9, 0⟩; a.calm ∧ a.sdFenced = false ∧ a.committed = true ∧ b.length = 7 ∧ sdOp b = 1 ∧ crc16 (b.take 5) = beNat (b.drop 5) ∧ ascend (beNat ((b.take 5).drop 1)) (sdWords b) = [0x34] ∧ (match regRow 0x34 with | some w => w.part == .single | none => false) = true ∧ crc16 (b.take 5) ≠ beNat (([0#8] ++ b).drop 5) := by decide +kernel

theorem test_SideDoorFrames_write :
    let h : List Byte := [0x80#8] ++ beBytes 4 (chA 37 0x18) ++ beBytes 4 16; let b := h ++ beBytes 2 (crc16 h); let a := State.advance { regs := [(0x4000, 2#32)] } ⟨9, 0⟩; let x := (a.incWrap 0xD004 0 16).writes .sideDoor [] (List.zip (ascend (chA 37 0x18) 1) [16#32]); a.calm ∧ sdOp b = 2 ∧ b.length = 7 + 4 * sdWords b ∧ crc16 (b.take 9) = beNat (b.drop 9) ∧ x.s.calm ∧ x.status = 0 ∧ x.s.rd (chA 37 0x18) = 16#32 ∧ (∀ d : Nat, d < 2 → x.s.domUsable d = a.domUsable d) := by decide +kernel

theorem test_SideDoorFrames_status :
    let b : List Byte := [0xC0#8] ++ beBytes 2 (crc16 [0xC0#8]); let c : List Byte := [5#8] ++ beBytes 2 (crc16 [5#8]); b.length = 3 ∧ fld b 0 1 = 0xC0 ∧ crc16 (b.take 1) = beNat (b.drop 1) ∧ 3 ≤ c.length ∧ fld c 0 1 < 64 ∧ crc16 (c.take 1) = beNat (c.drop 1) := by decide +kernel

theorem test_SideDoorFrames_fenced :
    let a := State.advance { fencedUnits := [0x407] } ⟨9, 0⟩; a.calm ∧ a.sdFenced = true := by decide

theorem test_KeeperMailbox_ring :
    let a := State.advance { regs := [(0x4000, 2#32), (0xD104, 1#32)], kpr := { running := true } } ⟨9, 0⟩; a.calm ∧ a.committed = true ∧ a.kpr.cmd = none ∧ a.kpr.running = true ∧ a.kprFenced = false ∧ a.kpr.activating = false := by decide

theorem test_KeeperMailbox_load :
    let b := tImg 0x504B4B44 0xFF 0xFF 0 []; let c : KprCmd := ⟨2, [3#32, 60#32, 0#32, 0#32], .keeper, 0#64, none⟩; let a := State.advance { regs := [(0x6000, 0x6000#32)], pan := tMem 0x180000 b, kpr := { running := true, cmd := some c }, cel := { mount := 2, cur := some ⟨0, .erase 3, 0#64⟩ } } ⟨9, 0⟩; a.calm ∧ a.owner 3 = 6 ∧ a.kpr.cmd = some c ∧ a.kprImage (a.panBytes 3 0 60) = some 1 ∧ a.kprImage (a.panBytes 3 0 12) = none ∧ a.cel.queue = [] := by decide +kernel

theorem test_KeeperMailbox_fuse :
    let c : KprCmd := ⟨3, [0#32, 0x4E525542#32, 3#32, 0#32], .keeper, 0#64, none⟩; let a := State.advance { regs := [(0x034, 0xB6DB6D#32), (0x6000, 0x6000#32)], kpr := { running := true, cmd := some c } } ⟨9, 0⟩; a.calm ∧ a.allService = true ∧ a.owner 3 = 6 ∧ bits a.fuses 128 384 = 0 ∧ a.minVer = 0 := by decide +kernel

theorem test_KeeperMailbox_secure :
    let a := State.advance { regs := [(0x034, 0xB6DB6D#32)], fuses := BitVec.ofNat 2048 (2 ^ 130), cfg := { sigKey := some 0 } } ⟨9, 0⟩; a.calm ∧ a.allService = true ∧ a.keyRevoked 0 = false ∧ bits a.fuses 128 384 ≠ 0 := by decide +kernel

theorem test_KeeperMailbox_end :
    let c : KprCmd := ⟨1, [], .keeper, 0#64, some (0, [1#32])⟩; let a := State.advance { kpr := { running := true, cmd := some c } } ⟨5000001, 0⟩; a.calm ∧ a.kpr.cmd = some c ∧ kprBound c.op < a.since c.start := by decide

theorem test_CellarOperations_mount :
    let p : NandPart := ⟨1, 16384, 512, 2000, 100, 0, []⟩; let a := State.advance {} ⟨9, 0⟩; a.calm ∧ a.cel.mount = 0 ∧ a.unitFenced 0x408 = false ∧ a.stage = 0 ∧ nandPartOk p = true ∧ ({ a.cel with lgPage := Nat.log2 p.pageBytes, lgPpb := Nat.log2 p.pagesPerBlock } : Cel).need ≤ p.targets.val * min p.blocks 2048 := by decide +kernel

theorem test_CellarOperations_prog :
    let a := State.advance { cel := { tCel with queue := [{ id := 3, kind := .unitStore, who := 1, region := 1, gen := 1, page := 0 }], cur := some ⟨3, .prog 5 ⟨1, 1, 0, 0, 0, 1, 0, [], false⟩, 0#64⟩ }, cfg := { job := some ⟨5, 0, 0, []⟩ } } ⟨9, 0⟩; a.calm ∧ a.cel.fenced = false ∧ a.cel.mount = 2 ∧ a.cel.hist.length < 256 ∧ ceilDiv 0 a.cel.pageB ≤ 0 ∧ (∀ m ∈ (a.programmed 5 ⟨1, 1, 0, 0, 0, 1, 0, [], false⟩).cel.unitBlocks 1 0, ((a.programmed 5 ⟨1, 1, 0, 0, 0, 1, 0, [], false⟩).nblk m).gen = 1) := by decide +kernel

theorem test_CellarOperations_read :
    let d : NPage := ⟨1, 0, 0, 0, 0, 1, 0, [7#8], false⟩; let q : NPage := ⟨1, 1, 0, 0, 0, 1, 0, commitRec 1 0 1 1 (crc32c [7#8]).toNat, false⟩; let a := State.advance { cel := { tCel with nand := [(5, { pages := [d, q] })], queue := [{ id := 3, kind := .unitRead, who := 2, region := 1, gen := 1 }], cur := some ⟨3, .read 5 0, 0#64⟩ } } ⟨9, 0⟩; a.calm ∧ a.cel.unitGen 1 0 1 = some ([5], 1, (crc32c [7#8]).toNat) ∧ a.cel.unitData 1 0 = some [7#8] ∧ ceilDiv 1 a.cel.pageB ≤ 1 ∧ (a.nblk 5).reads + 1 < a.rf 0xB024 0 24 := by decide +kernel

theorem test_CellarOperations_journal :
    let a := State.advance { cel := { tCel with queue := [{ id := 3, kind := .cal, gen := 1 }], cur := some ⟨3, .prog 5 ⟨4, 2, 0, 0, 0, 1, 0, [], false⟩, 0#64⟩ } } ⟨9, 0⟩; a.calm ∧ 64 ≤ (a.programmed 5 ⟨4, 2, 0, 0, 0, 1, 0, [], false⟩).cel.journalLeft := by decide +kernel

theorem test_CellarOperations_erase :
    let a := State.advance { cel := { tCel with queue := [{ id := 3, kind := .refresh, confirmed := true, erase := [5] }], cur := some ⟨3, .erase 5, 0#64⟩ } } ⟨10000000, 0⟩; a.calm ∧ a.cel.cur = some ⟨3, .erase 5, 0#64⟩ ∧ (NOp.erase 5).limit ≤ a.since 0#64 := by decide

theorem test_CellarOperations_historyFull :
    let a := State.advance { cel := { tCel with nand := [(5, { pages := [⟨5, 2, 0, 0, 0, 1, 0, [], false⟩] })], hist := List.replicate 64 (List.replicate 32 0#8) } } ⟨9, 0⟩; a.calm ∧ a.cel.openBlk 5 = some 5 ∧ a.cel.histLost = 0 ∧ a.cel.pageB / 32 ≤ a.cel.hist.length ∧ 0 < a.cel.pageB / 32 := by decide +kernel

theorem test_CellarOperations_scan :
    let a := State.advance { regs := [(0xB000, 0x10#32), (0xB020, 0x100#32)], cel := { tCel with nand := [(5, { pages := [⟨5, 2, 0, 0, 0, 1, 0, [], false⟩] })] } } ⟨500000, 0⟩; a.calm ∧ bit (a.rd 0xB000) 4 = true ∧ a.rf 0xB020 8 8 ≠ 0 ∧ 500000 * a.rf 0xB020 8 8 ≤ a.since a.cel.scanAt ∧ a.scanNext = some (5, 0, false) ∧ (a.nblk 5).reads + 1 < a.rf 0xB024 0 24 := by decide +kernel

theorem test_CellarOperations_wear :
    let g : NPage := ⟨1, 0, 0, 0, 0, 1, 0, [], false⟩; let a := State.advance { regs := [(0xB000, 0x20#32), (0xB020, 0#32)], cel := { tCel with nand := [(5, { pages := [g] }), (6, { pages := [g], erases := 9 })] } } ⟨9, 0⟩; a.calm ∧ 5 ∈ a.cel.written ∧ a.cel.takeWorn = some 0 ∧ bit (a.rd 0xB000) 5 = true ∧ (∀ m ∈ a.cel.written, m ≠ 5 → (a.cel.get 5).erases < (a.cel.get m).erases) ∧ (∃ m ∈ a.cel.written, a.rf 0xB020 16 16 < (a.cel.get m).erases - (a.cel.get 5).erases) := by decide +kernel

theorem test_CellarOperations_host :
    let a := State.advance { regs := [(0x4000, 2#32), (0x034, 0xB6DB6D#32), (0xB040, 1#32)], cel := { tCel with hist := [List.replicate 32 0#8], histSecs := 1, cur := some ⟨3, .erase 5, 0#64⟩ } } ⟨500000000, 0⟩; a.calm ∧ a.committed = true ∧ a.allService = true ∧ a.cel.allBlks.contains 7 = true ∧ (a.nblk 7).bad = 0 ∧ a.cel.histSecs ≠ 0 ∧ 500000000 * a.cel.histSecs ≤ a.since a.cel.histAt ∧ ((a.cel.openBlk 5).isNone && decide (a.cel.histBlks ≤ (a.cel.chain 5).length)) = false := by decide +kernel

theorem test_PowerResetAndBoot_release :
    let a := State.advance {} ⟨9, 0⟩; bit a.supplyOut 0 = false ∧ bit a.supplyOut 6 = false ∧ a.pwr.hrefLost = false ∧ a.pwr.held ≠ 1 ∧ a.calm := by decide

theorem test_PowerResetAndBoot_held :
    let a := State.advance { pwr := { held := 2 } } ⟨500, 0⟩; a.pwr.held = 2 ∧ 500 ≤ a.since a.pwr.heldAt ∧ a.cal.step = .idle ∧ (a.lk a.cal.ch).calRsp = none ∧ a.cel.results = [] := by decide

theorem test_PowerResetAndBoot_notYet :
    let a := State.advance { pwr := { held := 2, hrefLost := true } } ⟨499, 0⟩; a.pwr.held = 2 ∧ a.since a.pwr.heldAt < 500 ∧ a.pwr.hrefLost = true := by decide

theorem test_PowerResetAndBoot_powerHeld :
    let a := State.advance { pwr := { held := 1 } } ⟨9, 0⟩; a.pwr.held = 1 := by decide

theorem test_PowerResetAndBoot_nand :
    let a := State.advance { cel := { tCel with queue := [{ id := 3, kind := .refresh, confirmed := true, erase := [5] }], cur := some ⟨3, .erase 5, 0#64⟩ } } ⟨9, 0⟩; a.calm ∧ a.cel.cur = some ⟨3, .erase 5, 0#64⟩ ∧ a.cel.fenced = false ∧ a.cel.hist.length < 256 := by decide

theorem test_PowerResetAndBoot_supply :
    let a := State.advance { supplyOut := 8#7 } ⟨9, 0⟩; a.calm ∧ bit a.supplyOut 3 = true := by decide

theorem test_PowerResetAndBoot_go :
    let a := State.advance { regs := [(0x10, 0x20#32), (0x14, 0x1000#32)] } ⟨9, 0⟩; a.calm ∧ a.stage = 2 ∧ a.cfgFenced = false ∧ (match (a.setStage 3).fndCheck (Mem.bytes a.pan 0 (a.rf 0x14 0 21)) with | .ok _ => 0 | .error e => e.code) = 1 := by decide +kernel

theorem test_PowerResetAndBoot_goGood :
    let a := State.advance { regs := [(0x10, 0x20#32), (0x14, BitVec.ofNat 32 tFnd.length)], pan := tMem 0 tFnd } ⟨9, 0⟩; a.calm ∧ a.stage = 2 ∧ a.cfgFenced = false ∧ (match (a.setStage 3).fndCheck (Mem.bytes a.pan 0 (a.rf 0x14 0 21)) with | .ok m => m.binds.length | .error _ => 0) = 128 := by
  have h : ∀ a : State, a.pan = tMem 0 tFnd → a.rf 0x14 0 21 = tFnd.length → Mem.bytes a.pan 0 (a.rf 0x14 0 21) = tFnd := fun a h1 h2 => by rw [h1, h2, tMem_bytes]
  refine ⟨by decide +kernel, by decide +kernel, by decide +kernel, ?_⟩
  rw [h _ rfl (by decide +kernel)]
  decide +kernel

theorem test_PowerResetAndBoot_store :
    let a := State.advance { regs := [(0x4000, 2#32)], cfg := { hostImg := some tFndShort }, cel := { mount := 2, cur := some ⟨0, .erase 3, 0#64⟩ } } ⟨9, 0⟩; a.calm ∧ a.committed = true ∧ a.cfgBusy = false ∧ a.cfgFenced = false ∧ a.cel.mount = 2 ∧ a.cel.fenced = false ∧ a.cel.cur.isSome = true ∧ (match ({ a with cfg := { a.cfg with hostImg := none } } : State).fndStoreCheck tFndShort with | .ok _ => true | .error _ => false) = true := by decide +kernel

theorem test_PowerResetAndBoot_keeper :
    let a := State.advance { cel := { mount := 2 } } ⟨9, 0⟩; a.calm ∧ a.cel.mount = 2 ∧ a.kpr.running = false ∧ a.kprFenced = false ∧ Path.idx .keeper < 2 := by decide

theorem test_ModesSafeAndSleep_request :
    let a := State.advance { regs := [(0x034, 0x40#32), (0x4000, 2#32)], pwr := { modes := [(1, { run := some 1, wait := some 2 })] } } ⟨9, 0⟩; a.calm ∧ a.committed = true ∧ (a.md 2).run = none ∧ modeLegal (a.wingMode 2) 3 = true ∧ modeLegal 2 4 = false ∧ (a.md 1).wait.isSome = true ∧ (∀ x : Nat, x < 8 → bit 0x403#32 (8 + x) = decide (x = 2)) ∧ bits 0x403#32 0 3 = 3 := by decide

theorem test_ModesSafeAndSleep_requestEarly :
    let a := State.advance {} ⟨9, 0⟩; a.calm ∧ a.committed = false ∧ Path.idx .sideDoor < 2 ∧ (a.md 3).safe = none ∧ (a.md 3).run = none ∧ (a.md 3).waking = none ∧ a.stage ≠ 4 := by decide

theorem test_ModesSafeAndSleep_wake :
    let a := State.advance { regs := [(0x44, 0x80#32), (0x4000, 2#32)] } ⟨9, 0⟩; a.calm ∧ a.rf 0x44 6 3 ≠ 0 ∧ a.wingMode 2 = 0 ∧ a.committed = true ∧ (a.md 2).run = none := by decide

theorem test_ModesSafeAndSleep_entry :
    let a := State.advance { pwr := { modes := [(2, { run := some 2 })] } } ⟨9, 0⟩; a.calm ∧ (a.md 2).run = some 2 ∧ (a.md 2).wait = none ∧ a.sleeping 2 = false ∧ (a.md 2).overlay = false ∧ a.modeNextCode 2 2 = 1 ∧ a.ovlSlot 2 1 = none ∧ a.wingMode 2 ∉ [3, 5] := by decide

theorem test_ModesSafeAndSleep_entrySlot :
    let a := State.advance { regs := [(0x4000, 2#32), (0x014, 0#32)], cfg := { ovltab := [(17, some 5)], cache := [(5, some tOvl)] }, pwr := { modes := [(2, { run := some 1 })] } } ⟨9, 0⟩; a.calm ∧ (a.md 2).run = some 1 ∧ a.sleeping 2 = false ∧ a.ovlSlot 2 1 = some 5 ∧ a.cfgFenced = false ∧ a.cfgBusy = false ∧ a.cfg.wait = none ∧ Tbl.get none a.cfg.cache 5 = some tOvl ∧ (match a.ovlCheck tOvl with | .ok i => i.wing == 2 && i.mode == 1 && a.ovlMeaning i 0 == 0 | .error _ => false) = true := by decide +kernel

theorem test_ModesSafeAndSleep_entryRefused :
    let a := State.advance { cfg := { ovltab := [(17, some 5)], job := some ⟨3, 1, 2, []⟩ }, pwr := { modes := [(2, { run := some 1 })] } } ⟨9, 0⟩; a.calm ∧ (a.md 2).run = some 1 ∧ a.ovlSlot 2 1 = some 5 ∧ a.cfgFenced = false ∧ Tbl.get none a.cfg.cache 5 = none ∧ a.cfgBusy = true := by decide

theorem test_ModesSafeAndSleep_entryAsleep :
    let a := State.advance { regs := [(0x038, 4#32)], pwr := { modes := [(2, { run := some 1 }), (3, { run := some 1, waking := some 0#64 })] } } ⟨9, 0⟩; a.calm ∧ (a.md 2).run = some 1 ∧ a.sleeping 2 = true ∧ (a.md 2).waking = none := by decide

theorem test_ModesSafeAndSleep_safe :
    let a := State.advance { regs := [(0x034, 0x80#32)], ctl := [(37, { st := .regulating })], pwr := { modes := [(2, { run := some 3, safe := some true }), (3, { safe := some false })] } } ⟨9, 0⟩; a.calm ∧ (a.md 2).safe = some true ∧ (a.md 3).safe = some false ∧ a.wingMode 3 = 0 ∧ a.cfg.apply = none ∧ a.cfg.wait = none ∧ a.wingMode 2 ∈ [1, 2, 4] ∧ a.ovlSlot 2 0 = none ∧ Tbl.get none a.snaps 37 = none ∧ nextSt 0x15 (a.ch 37).st = some .quenched ∧ nextSt 0x14 (a.ch 37).st ≠ none ∧ (a.ch 37).edge = none := by decide

theorem test_ModesSafeAndSleep_sleep :
    let a := State.advance { regs := [(0x40, 0x20#32)] } ⟨9, 0⟩; a.calm ∧ a.wingMode 2 = 0 ∧ a.sleepLevel 2 ≠ 0 ∧ a.allDown 2 = true ∧ a.cfg.apply = none ∧ a.sleeping 2 = false ∧ a.link = [] := by decide

theorem test_ModesSafeAndSleep_sleepEnds :
    let a := State.advance { regs := [(0x038, 4#32)], pwr := { modes := [(2, { waking := some 0#64, slept := 2 })] } } ⟨1000000, 0⟩; a.calm ∧ (a.md 2).waking = some 0#64 ∧ a.sleeping 2 = true ∧ 1000000 ≤ a.since 0#64 := by decide

theorem test_ModesSafeAndSleep_boot :
    let a := State.advance { regs := [(0x10, 0x40#32)], pwr := { modes := (rangeFrom 0 8).map (fun w => (w, { run := some 1 })) } } ⟨9, 0⟩; a.calm ∧ a.stage = 4 ∧ (∀ w : Nat, w < 8 → a.wingMode w = 0 ∧ (a.md w).run = some 1 ∧ (a.md w).wait = none ∧ a.ovlSlot w 1 = none ∧ a.sleeping w = false) := by decide

theorem test_ModesSafeAndSleep_bootOverlays :
    let a := State.advance { regs := [(0x10, 0x40#32)], cfg := { ovltab := (rangeFrom 0 8).map (fun w => (8 * w + 1, some 5)) }, pwr := { modes := (rangeFrom 0 8).map (fun w => (w, { run := some 1 })) } } ⟨9, 0⟩; a.calm ∧ a.stage = 4 ∧ (∀ w : Nat, w < 8 → a.wingMode w = 0 ∧ (a.md w).run = some 1 ∧ a.ovlSlot w 1 ≠ none) := by decide

/-! ### Ill-formed commands are refused by the check -/

theorem test_wf_frame : let f : Frame := ⟨true, [0#8]⟩
    Instr.wellFormed (.sampleFrame ⟨0, 0⟩ 3 f) = false ∧ Instr.wellFormed (.uplinkIdleFrame ⟨0, 0⟩ 3 f 0 true) = false
      ∧ Instr.wellFormed (.descriptorFrame ⟨0, 0⟩ 3 f) = false ∧ Instr.wellFormed (.mgmtRespFrame ⟨0, 0⟩ 3 f) = false
      ∧ Instr.wellFormed (.sampleFrame ⟨0, 0⟩ 3 (tFrame 0 [])) = true := by decide +kernel

theorem test_wf_trips : Instr.wellFormed (.guardTrip ⟨0, 0⟩ 3 2) = false ∧ Instr.wellFormed (.watchTrip ⟨0, 0⟩ 3 1) = false
    ∧ Instr.wellFormed (.guardTrip ⟨0, 0⟩ 3 1) = true := by decide

theorem test_wf_sources : Instr.wellFormed (.errorLineReport ⟨0, 0⟩ 0x90#11 0#8) = false ∧ Instr.wellFormed (.hearthWindowExpiry ⟨0, 0⟩ 0x40F#11) = false
    ∧ Instr.wellFormed (.errorLineReport ⟨0, 0⟩ 0x425#11 0#8) = true := by decide

theorem test_wf_producer : Instr.wellFormed (.hallwayEvent ⟨0, 0⟩ 0x00F#12 false) = false ∧ Instr.wellFormed (.hallwayEvent ⟨0, 0⟩ 0xB20#12 false) = true := by decide

theorem test_wf_scrub : Instr.wellFormed (.scrubRead ⟨0, 0⟩ 8 0 false false false) = false := by decide

theorem test_wf_popUnit : Instr.wellFormed (.chutePop ⟨0, 0⟩ 4 2 .clean) = false ∧ Instr.wellFormed (.chutePop ⟨0, 0⟩ 4 16 .clean) = true := by decide

theorem test_wf_datagram (d : Datagram) (h : d.src = []) : Instr.wellFormed (.claondeaMessage ⟨0, 0⟩ 0 d) = false := by
  show (d.src.length == 4 || d.src.length == 16) = false
  rw [h]; rfl

theorem test_wf_sideDoor : Instr.wellFormed (.sideDoorRead ⟨0, 0⟩ [0#8] [] false) = false ∧ Instr.wellFormed (.sideDoorWrite ⟨0, 0⟩ (List.replicate 7 0#8) [] false) = false
    ∧ Instr.wellFormed (.sideDoorStatus ⟨0, 0⟩ []) = false ∧ Instr.wellFormed (.sideDoorBadCmd ⟨0, 0⟩ [0#8, 0#8]) = false := by decide

theorem test_wf_part : Instr.wellFormed (.cellarMount ⟨0, 0⟩ ⟨1, 0, 512, 2000, 100, 0, []⟩) = false := by decide

/-! ### The table gives no word -/

theorem test_decode_none (n w : Nat) : decodeTableWord n w = none := rfl
theorem test_withFetchWord (s : State) (n w : Nat) : s.withFetchWord n w = s := rfl

/-! ### Check sums: the check value of R270, and that of CRC-32C over the same string -/

theorem test_crc16 : crc16 [0x31#8, 0x32#8, 0x33#8, 0x34#8, 0x35#8, 0x36#8, 0x37#8, 0x38#8, 0x39#8] = 0x29B1 := by decide +kernel
theorem test_crc32c : crc32c [0x31#8, 0x32#8, 0x33#8, 0x34#8, 0x35#8, 0x36#8, 0x37#8, 0x38#8, 0x39#8] = 0xE3069283#32 := by decide +kernel

/-! ### Reset values (R520) -/

theorem test_reset_values : State.reset.rd (chA 5 0x014) = 0x1F4#32 ∧ State.reset.rd (chA 5 0x018) = 0x7D0#32 ∧ State.reset.rd (chA 127 0x024) = 0x3E8#32
    ∧ State.reset.rd 0x2000 = 0x208#32 ∧ State.reset.rd (wgA 7 0x210) = 0x3E8#32 := by decide

/-! ### The threshold codes of channel 37 (chapter 7, worked numbers): gains 6,000 and 60,000 V/A, 1.2 mV/V -/

def tGains : State :=
  let word (o : Nat) (v : Nat) : List Byte := List.replicate o 0#8 ++ leBytes 4 v
  let d := List.replicate 28 0#8 ++ [4#8, 0#8, 0x18#8, 0#8] ++ word 84 0x3A9D4952 ++ word (13 * 28 + 4 - 120) 0x476A6000 ++ word 24 0x45BB8000
  { link := [(37, { descValid := true, desc := d })],
    active := [(chA 37 0x510, 0xB6A7C5AC#32), (chA 37 0x514, 0x37FBA882#32), (chA 37 0x518, 0x43910000#32), (chA 37 0x51C, 0x439B0000#32)] }

theorem test_guard_codes : (tGains.cmpCode 37 0 4).2 = some (1966, false) ∧ (tGains.cmpCode 37 1 4).2 = some (2540, false)
    ∧ (tGains.cmpCode 37 0 3).2 = some (1229, false) ∧ (tGains.cmpCode 37 1 3).2 = some (4095, true) := by decide +kernel

theorem test_watch_codes : (tGains.cmpCode 37 2 2).2 = some (2998, false) ∧ (tGains.cmpCode 37 3 2).2 = some (3064, false) := by decide +kernel

/-! ### Single commands -/

/-- What a command's next state shows. -/
def tShows (o : Host.Outcome State Fault Refusal) (f : State → Bool) : Prop := ∃ u, o = .next u ∧ f u = true

/-- R9, R428: a write where no register stands answers "no register". -/
theorem test_no_register : tShows (exec (.registerWrite ⟨1, 0⟩ .keeper 0x0FFC#32 5#32) { regs := [(0x4000, 2#32)] })
    (fun u => Tbl.get ⟨9, 0#32⟩ u.replies (Path.idx .keeper) == ⟨1, 0#32⟩) := ⟨_, rfl, by decide +kernel⟩

/-- R472: a write of GLB_RST with another key answers "locked". -/
theorem test_reset_key : tShows (execGlbRstWrite ⟨1, 0⟩ .keeper 0x1D5E6#32 {})
    (fun u => Tbl.get ⟨9, 0#32⟩ u.replies (Path.idx .keeper) == ⟨2, 0#32⟩ && u.pwr.held == 0) := ⟨_, rfl, by decide +kernel⟩

/-- R483: a mode request with code 6 is a reserved value. -/
theorem test_mode_reserved : tShows (execGlbModeReq ⟨1, 0⟩ .keeper 0x106#32 { regs := [(0x4000, 2#32)] })
    (fun u => Tbl.get ⟨9, 0#32⟩ u.replies (Path.idx .keeper) == ⟨3, 0#32⟩) := ⟨_, rfl, by decide +kernel⟩

/-- R476: after the entries into STANDBY GLB_MODE_STAT reads 0x0024_9249 and the stage is 5. -/
theorem test_boot_standby : tShows (execBootStandbyEntry ⟨1, 0⟩ { regs := [(0x10, 0x40#32)], pwr := { modes := (rangeFrom 0 8).map (fun w => (w, { run := some 1 })) } })
    (fun u => u.rd 0x34 == 0x249249#32 && u.stage == 5) := ⟨_, rfl, by decide +kernel⟩

/-- R515: under EXTEST GATE is low and every wing has an immediate SAFE request. -/
theorem test_extest : tShows (execJtagUpdateIr ⟨1, 0⟩ true 0x101#9 { ctl := [(37, { st := .regulating })] })
    (fun u => !Tbl.get false u.pins.gate 37 && u.pins.errN && Tbl.get false u.pins.wtrip 0 && (u.md 2).safe == some true) := ⟨_, rfl, by decide +kernel⟩

end
end

section
/-!
PROOFS. Tables and holding registers: what a table lists after a write and after entries are dropped, and what the holding
registers of the paths (R18 to R20) show after each of their operations.
-/

namespace Sys2Proof.Machine

theorem mem_rangeFrom {a n i : Nat} : i ∈ rangeFrom a n ↔ a ≤ i ∧ i < a + n := by
  induction n generalizing a with
  | zero => simp only [rangeFrom, List.not_mem_nil, false_iff]; omega
  | succ n ih => rw [rangeFrom, List.mem_cons, ih]; omega

/-! ### Tables -/

theorem Tbl.has_cons {α : Type} (a : Nat) (x : α) (t : Tbl α) (j : Nat) : Tbl.has ((a, x) :: t) j = (a == j || Tbl.has t j) := rfl

/-- After a write a table lists the number written and what it listed before. -/
theorem Tbl.has_put {α : Type} (t : Tbl α) (k j : Nat) (v : α) : Tbl.has (Tbl.put t k v) j = (k == j || Tbl.has t j) := by
  induction t with
  | nil => rfl
  | cons e t ih =>
    obtain ⟨a, x⟩ := e
    unfold Tbl.put
    split
    · rfl
    · split
      next _ h => rw [Tbl.has_cons, Tbl.has_cons, h, ← Bool.or_assoc, Bool.or_self]
      next => rw [Tbl.has_cons, Tbl.has_cons, ih, Bool.or_left_comm]

/-- Numbers that are dropped are no longer listed; the others stay. -/
theorem Tbl.has_drop {α : Type} (t : Tbl α) (p : Nat → Bool) (j : Nat) : Tbl.has (Tbl.drop t p) j = (!p j && Tbl.has t j) := by
  unfold Tbl.has Tbl.drop
  rw [List.any_filter]
  induction t with
  | nil => exact (Bool.and_false _).symm
  | cons e t ih =>
    have he : (!p e.1 && e.1 == j) = (!p j && e.1 == j) := by
      by_cases h : e.1 = j
      · rw [h]
      · rw [beq_false_of_ne h, Bool.and_false, Bool.and_false]
    rw [List.any_cons, List.any_cons, ih, he, Bool.and_or_distrib_left]

/-- A number that is not dropped keeps its value. -/
theorem Tbl.get_drop {α : Type} (d : α) (t : Tbl α) (p : Nat → Bool) {j : Nat} (hj : p j = false) :
    Tbl.get d (Tbl.drop t p) j = Tbl.get d t j := by
  unfold Tbl.drop
  induction t with
  | nil => rfl
  | cons e t ih =>
    obtain ⟨a, x⟩ := e
    rw [List.filter_cons]
    by_cases ha : a = j
    · simp [ha, hj, Tbl.get]
    · split <;> simp only [Tbl.get, ha, if_false, ih]

/-- After writes at the numbers `key i`, `i` of a list, each with the value `f i`, the other numbers keep their values. -/
theorem Tbl.get_putAll_ne {α : Type} (d : α) (key : Nat → Nat) (f : Nat → α) {l : List Nat} {k : Nat} (hk : ∀ i ∈ l, k ≠ key i)
    (t : Tbl α) : Tbl.get d ((l.map (fun i => (key i, f i))).foldl (fun t e => Tbl.put t e.1 e.2) t) k = Tbl.get d t k := by
  induction l generalizing t with
  | nil => rfl
  | cons j l ih =>
    rw [List.map_cons, List.foldl_cons, ih (fun i hi => hk i (List.mem_cons_of_mem j hi)),
      Tbl.get_put_ne _ _ _ (hk j List.mem_cons_self)]

/-- The numbers of the list hold the values written. -/
theorem Tbl.get_putAll_mem {α : Type} (d : α) {key : Nat → Nat} (hkey : Function.Injective key) (f : Nat → α) {l : List Nat}
    {i : Nat} (hi : i ∈ l) (t : Tbl α) :
    Tbl.get d ((l.map (fun i => (key i, f i))).foldl (fun t e => Tbl.put t e.1 e.2) t) (key i) = f i := by
  induction l generalizing t with
  | nil => cases hi
  | cons j l ih =>
    by_cases hl : i ∈ l
    · exact ih hl (Tbl.put t (key j) (f j))
    · have hij : i = j := (List.mem_cons.mp hi).resolve_right hl
      rw [List.map_cons, List.foldl_cons, Tbl.get_putAll_ne d key f (fun k hk h => hl ((hkey h : i = k) ▸ hk)), hij, Tbl.get_put_self]

/-! ### Holding registers (R18 to R20) -/

theorem pkey_injective (p : Path) : Function.Injective (pkey p) := fun _ _ h => Nat.add_left_cancel h

theorem State.wrHeld_holdWr (s : State) (k j : Nat) (v : Word) :
    (s.holdWr k v).wrHeld j = if j = k then some v else s.wrHeld j := by
  unfold State.wrHeld
  change (if Tbl.has (Tbl.put s.holds.wr k v) j then some (Tbl.get 0#32 (Tbl.put s.holds.wr k v) j) else none) = _
  rw [Tbl.has_put, Tbl.get_put]
  by_cases h : j = k
  · simp [h]
  · simp [h, Ne.symm h]

theorem State.wrHeld_dropWr (s : State) (k j : Nat) : (s.dropWr k).wrHeld j = if j = k then none else s.wrHeld j := by
  unfold State.wrHeld
  change (if Tbl.has (Tbl.drop s.holds.wr (fun a => a == k)) j then
    some (Tbl.get 0#32 (Tbl.drop s.holds.wr (fun a => a == k)) j) else none) = _
  rw [Tbl.has_drop]
  by_cases h : j = k
  · simp [h]
  · rw [Tbl.get_drop _ _ _ (by simpa using h)]; simp [h]

theorem State.rdHeld_holdRd (s : State) (k j : Nat) (v : Word) (st : Nat) :
    (s.holdRd k v st).rdHeld j = if j = k then some v else s.rdHeld j := by
  unfold State.rdHeld
  change (if Tbl.has (Tbl.put s.holds.rd k v) j then some (Tbl.get 0#32 (Tbl.put s.holds.rd k v) j) else none) = _
  rw [Tbl.has_put, Tbl.get_put]
  by_cases h : j = k
  · simp [h]
  · simp [h, Ne.symm h]

/-- The keys under which path `p` finds the registers after the one at `a`. -/
theorem pkey_word_injective (p : Path) (a : Nat) : Function.Injective (fun i => pkey p (a + 4 * i)) :=
  (pkey_injective p).comp (fun i j (h : a + 4 * i = a + 4 * j) => by omega)

/-- A group copy holds each member as a read showed it (R145). -/
theorem State.groupCopy_member (s : State) (p : Path) (a : Nat) {n i : Nat} (h1 : 1 ≤ i) (hn : i ≤ n) :
    Tbl.get 0#32 (s.groupCopy p a n).holds.grp (pkey p (a + 4 * i)) = s.view p (a + 4 * i) (a + 4 * i) :=
  Tbl.get_putAll_mem _ (pkey_word_injective p a) (fun i => s.view p (a + 4 * i) (a + 4 * i))
    (mem_rangeFrom.mpr ⟨h1, by omega⟩) _

/-- A group copy leaves the copies of other groups and paths alone (R20). -/
theorem State.groupCopy_other (s : State) (p : Path) (a n : Nat) {k : Nat}
    (hk : ∀ i, 1 ≤ i → i ≤ n → k ≠ pkey p (a + 4 * i)) :
    Tbl.get 0#32 (s.groupCopy p a n).holds.grp k = Tbl.get 0#32 s.holds.grp k :=
  Tbl.get_putAll_ne _ (fun i => pkey p (a + 4 * i)) _
    (fun i hi => hk i (mem_rangeFrom.mp hi).1 (by have := (mem_rangeFrom.mp hi).2; omega)) _

end Sys2Proof.Machine
end

section
/-!
PROOFS. Host writes of registers that are no command (R10 to R16): which registers are plain, what a write leaves in
such a register, and that it touches nothing else.
-/

namespace Sys2Proof.Machine

/-! ### Bits of words -/

theorem getLsbD_ofNat_lowMask (w i : Nat) : (BitVec.ofNat 32 (2 ^ w - 1)).getLsbD i = (decide (i < 32) && decide (i < w)) := by
  rw [BitVec.getLsbD_ofNat, Nat.testBit_two_pow_sub_one]

/-- A field is the same in words that agree on its bits. -/
theorem bits_congr {n : Nat} {x y : BitVec n} {lo w : Nat} (h : ∀ i, lo ≤ i → i < lo + w → x.getLsbD i = y.getLsbD i) :
    bits x lo w = bits y lo w := by
  apply Nat.eq_of_testBit_eq
  intro j
  rw [bits_testBit, bits_testBit]
  by_cases hj : j < w
  · rw [h (lo + j) (by omega) (by omega)]
  · simp [hj]

/-- Replacing a field without bits changes nothing. -/
theorem setBits_width_zero {n : Nat} (x : BitVec n) (lo v : Nat) : setBits x lo 0 v = x := by
  simp [setBits, Nat.mod_one]

/-! ### The word that a write leaves -/

/-- Hardware writes no bit of the register at `k` in this tick: it sets no flag (R12), increments no counter (R14) and the
Stairwell stores nothing (R173). -/
def State.quietAt (s : State) (k : Nat) : Prop :=
  Tbl.get 0#32 s.tickSet k = 0#32 ∧ Tbl.get 0#32 s.tickSwp k = 0#32 ∧ ∀ e ∈ s.tickInc, e.key ≠ k

/-- RW bits `w - 1` to 0 of a register that hardware does not write in this tick take the written value, but for the bits
that are kept; every other bit stays. -/
theorem State.stored_rw_getLsbD {s : State} {k : Nat} (hq : s.quietAt k) {r : RegRow} {w : Nat} (hrw : r.rw = 2 ^ w - 1)
    (hw1c : r.w1c = 0) (v keep : Word) {i : Nat} (hi : i < 32) :
    (s.stored k r v keep).getLsbD i = if i < w ∧ keep.getLsbD i = false then v.getLsbD i else (s.rd k).getLsbD i := by
  obtain ⟨hset, hswp, _⟩ := hq
  unfold State.stored
  simp only [hset, hswp, hw1c, hrw, BitVec.getLsbD_and, BitVec.getLsbD_or, BitVec.getLsbD_not, getLsbD_ofNat_lowMask,
    BitVec.getLsbD_zero, hi, decide_true, Bool.true_and]
  by_cases hw : i < w <;> cases keep.getLsbD i <;> simp [hw]

/-- The RW field at the low end of such a register takes the written value, with no bit kept. -/
theorem State.stored_rw_bits {s : State} {k : Nat} (hq : s.quietAt k) {r : RegRow} {w : Nat} (hw : w ≤ 32)
    (hrw : r.rw = 2 ^ w - 1) (hw1c : r.w1c = 0) (v : Word) : bits (s.stored k r v 0#32) 0 w = bits v 0 w :=
  bits_congr (fun i _ hi => by
    rw [State.stored_rw_getLsbD hq hrw hw1c v _ (by omega), if_pos ⟨by omega, BitVec.getLsbD_zero⟩])

/-- A whole-word RW register takes the written word. -/
theorem State.stored_rw_word {s : State} {k : Nat} (hq : s.quietAt k) {r : RegRow} (hrw : r.rw = 2 ^ 32 - 1) (hw1c : r.w1c = 0)
    (v : Word) : s.stored k r v 0#32 = v :=
  BitVec.eq_of_getLsbD_eq (fun i hi => by
    rw [State.stored_rw_getLsbD hq hrw hw1c v _ hi, if_pos ⟨hi, BitVec.getLsbD_zero⟩])

/-- W1C bits `w - 1` to 0 that are written 1 clear, but for those that hardware sets in this tick (R12); every other bit
stays. -/
theorem State.stored_w1c_getLsbD {s : State} {k : Nat} {r : RegRow} {w : Nat} (hrw : r.rw = 0) (hw1c : r.w1c = 2 ^ w - 1)
    (v keep : Word) {i : Nat} (hi : i < 32) :
    (s.stored k r v keep).getLsbD i
      = ((s.rd k).getLsbD i && !(decide (i < w) && v.getLsbD i && !(Tbl.get 0#32 s.tickSet k).getLsbD i)) := by
  unfold State.stored
  simp only [hw1c, hrw, BitVec.getLsbD_and, BitVec.getLsbD_or, BitVec.getLsbD_not, getLsbD_ofNat_lowMask,
    BitVec.getLsbD_zero, hi, decide_true, Bool.true_and, Bool.false_and, Bool.not_false, Bool.and_false,
    Bool.and_true, Bool.or_false]
  rw [Bool.and_comm (v.getLsbD i)]

/-! ### Counters incremented in the tick of the write (R14) -/

/-- What one increment of this tick adds to the register at `k` after a write that stored the bits `eff`. -/
def incStep (k : Nat) (eff : Word) (s : State) (e : TickInc) : State :=
  if e.key = k ∧ bits eff e.lo e.width = 2 ^ e.width - 1 then
    s.wf k e.lo e.width (if e.wrap then s.rf k e.lo e.width + e.n else min (s.rf k e.lo e.width + e.n) (2 ^ e.width - 1))
  else s

theorem State.incAfter_eq_foldl (s : State) (k : Nat) (eff : Word) : s.incAfter k eff = s.tickInc.foldl (incStep k eff) s := rfl

theorem incStep_eq_regs (k : Nat) (eff : Word) (s : State) (e : TickInc) : ∃ R, incStep k eff s e = { s with regs := R } := by
  unfold incStep
  split
  · exact ⟨_, rfl⟩
  · exact ⟨s.regs, rfl⟩

theorem rd_incStep_ne {k j : Nat} (hj : j ≠ k) (eff : Word) (s : State) (e : TickInc) : (incStep k eff s e).rd j = s.rd j := by
  unfold incStep
  split
  · rw [State.rd_wf, if_neg hj]
  · rfl

/-- Where the write stored no bit, only a counter without bits takes its increment. -/
theorem rd_incStep_zero (k j : Nat) (s : State) (e : TickInc) : (incStep k 0#32 s e).rd j = s.rd j := by
  unfold incStep
  split
  next h =>
    have hw : e.width = 0 := by
      have hones := h.2
      rw [bits_ofNat_zero] at hones
      refine Decidable.byContradiction (fun hne => ?_)
      have := Nat.one_lt_two_pow hne
      omega
    rw [State.rd_wf, hw, setBits_width_zero]
    split
    next hj => rw [hj]
    next => rfl
  next => rfl

theorem State.incAfter_eq_regs (s : State) (k : Nat) (eff : Word) : ∃ R, s.incAfter k eff = { s with regs := R } := by
  rw [State.incAfter_eq_foldl]
  refine List.foldlRecOn (motive := fun t : State => ∃ R, t = { s with regs := R }) _ _ ⟨s.regs, rfl⟩ (fun t ht e _ => ?_)
  obtain ⟨R, rfl⟩ := ht
  exact incStep_eq_regs k eff _ e

theorem State.rd_incAfter_ne (s : State) {k j : Nat} (hj : j ≠ k) (eff : Word) : (s.incAfter k eff).rd j = s.rd j :=
  List.foldlRecOn (motive := fun t : State => t.rd j = s.rd j) _ _ rfl (fun t ht e _ => (rd_incStep_ne hj eff t e).trans ht)

theorem State.rd_incAfter_zero (s : State) (k j : Nat) : (s.incAfter k 0#32).rd j = s.rd j :=
  List.foldlRecOn (motive := fun t : State => t.rd j = s.rd j) _ _ rfl (fun t ht e _ => (rd_incStep_zero k j t e).trans ht)

/-- A register none of whose counters was incremented in this tick. -/
theorem State.incAfter_quiet {s : State} {k : Nat} (h : ∀ e ∈ s.tickInc, e.key ≠ k) (eff : Word) : s.incAfter k eff = s :=
  List.foldlRecOn (motive := fun t : State => t = s) _ _ rfl (fun _ ht e he => by rw [if_neg (fun hk => h e he hk.1), ht])

/-! ### The state after a plain write -/

theorem State.keepOld_eq_tickOld (s : State) (k : Nat) : ∃ T, s.keepOld k = { s with tickOld := T } := by
  unfold State.keepOld
  split
  · exact ⟨s.tickOld, rfl⟩
  · exact ⟨_, rfl⟩

/-- The state after a host write of `v` to the register at `a` whose reserved fields are the bits `bad`, where the write
sets nothing off. -/
def State.afterStore (s : State) (a : Nat) (r : RegRow) (v bad : Word) : State :=
  ((s.keepOld a).wr a (s.stored a r v bad)).incAfter a (BitVec.ofNat 32 r.rw &&& ~~~bad)

/-- A plain write touches the register file and the note of the old word (R31), and nothing else. -/
theorem State.afterStore_eq (s : State) (a : Nat) (r : RegRow) (v bad : Word) :
    ∃ R T, s.afterStore a r v bad = { s with regs := R, tickOld := T } := by
  obtain ⟨T, hT⟩ := s.keepOld_eq_tickOld a
  obtain ⟨R, hR⟩ := ((s.keepOld a).wr a (s.stored a r v bad)).incAfter_eq_regs a (BitVec.ofNat 32 r.rw &&& ~~~bad)
  exact ⟨R, T, by rw [State.afterStore, hR, hT]; rfl⟩

theorem State.rd_keepOld (s : State) (k j : Nat) : (s.keepOld k).rd j = s.rd j := by
  obtain ⟨T, hT⟩ := s.keepOld_eq_tickOld k
  rw [hT]; rfl

theorem State.tickInc_keepOld (s : State) (k : Nat) : (s.keepOld k).tickInc = s.tickInc := by
  obtain ⟨T, hT⟩ := s.keepOld_eq_tickOld k
  rw [hT]

theorem State.rd_afterStore_ne (s : State) {a j : Nat} (hj : j ≠ a) (r : RegRow) (v bad : Word) :
    (s.afterStore a r v bad).rd j = s.rd j := by
  rw [State.afterStore, State.rd_incAfter_ne _ hj, State.rd_wr_ne _ _ hj, State.rd_keepOld]

/-- The register holds the word stored, where hardware does not write it in this tick. -/
theorem State.rd_afterStore_quiet {s : State} {a : Nat} (hq : s.quietAt a) (r : RegRow) (v bad : Word) :
    (s.afterStore a r v bad).rd a = s.stored a r v bad := by
  obtain ⟨_, _, hinc⟩ := hq
  rw [State.afterStore, State.incAfter_quiet (by rwa [State.wr_tickInc, State.tickInc_keepOld]), State.rd_wr_self]

/-- A plain write changes nothing of what hardware does in this tick. -/
theorem State.quietAt_afterStore {s : State} {k : Nat} (hq : s.quietAt k) (a : Nat) (r : RegRow) (v bad : Word) :
    (s.afterStore a r v bad).quietAt k := by
  obtain ⟨R, T, h⟩ := s.afterStore_eq a r v bad
  rw [h]; exact hq

/-- The register holds the word stored, where it has no RW bit. -/
theorem State.rd_afterStore_of_rw_zero {s : State} {a : Nat} {r : RegRow} (h : r.rw = 0) (v bad : Word) :
    (s.afterStore a r v bad).rd a = s.stored a r v bad := by
  rw [State.afterStore, h, BitVec.zero_and, State.rd_incAfter_zero, State.rd_wr_self]

/-! ### Stored and plain registers -/

/-- The register at `a`, of row `r`, is one that all paths share, is no command and no Porch register: a write of it is
stored. -/
structure StoredReg (a : Nat) (r : RegRow) : Prop where
  row : regRow a = some r
  offWindow : inPantry a = false
  notCommand : ∀ (s : State) (p : Path) (v : Word), s.command p a v = none
  shared : ∀ (s : State) (p : Path), s.keyOf p a r = a
  offPorch : ¬(0xA000 ≤ a ∧ a < 0xB000)

/-- A stored register that is never locked and whose write sets nothing off. -/
structure PlainReg (a : Nat) (r : RegRow) : Prop extends StoredReg a r where
  unlocked : ∀ s : State, s.wrLocked a r = false
  noLockedBits : ∀ (s : State) (v : Word), s.wrLockedBits a v = 0#32
  noEffect : ∀ (s : State) (old v bad : Word), s.writeFx a old v bad = s

theorem StoredReg.regWrite {a : Nat} {r : RegRow} (h : StoredReg a r) (s : State) (p : Path) (v : Word) :
    s.regWrite p a r v = s.hostStore p a a r v := by
  unfold State.regWrite
  rw [h.notCommand, h.shared]
  exact if_neg h.offPorch

theorem PlainReg.hostStore {a : Nat} {r : RegRow} (h : PlainReg a r) (s : State) (p : Path) (v : Word) :
    s.hostStore p a a r v
      = (s.afterStore a r v (s.badBits p a v), if s.badBits p a v = 0#32 then stDone else stReserved) := by
  have hst : ∀ bad, (s.keepOld a).stored a r v bad = s.stored a r v bad := by
    obtain ⟨T, hT⟩ := s.keepOld_eq_tickOld a
    rw [hT]; exact fun _ => rfl
  unfold State.hostStore
  simp only [h.unlocked, h.noLockedBits, h.noEffect, hst, BitVec.or_zero, Bool.false_eq_true, if_false, ne_eq, not_true_eq_false,
    ite_not]
  rfl

theorem State.pathOpen_of_committed {s : State} (hc : s.committed = true) (p : Path) : s.pathOpen p = true := by
  simp [State.pathOpen, hc]

/-- After the commit every path may write every address (R477). -/
theorem State.mayWrite_of_committed {s : State} (hc : s.committed = true) (p : Path) (a : Nat) : s.mayWrite p a = true := by
  simp [State.mayWrite, State.pathOpen, hc]

/-- A write of a stored register outside the pairs, after the commit. -/
theorem StoredReg.busWrite {a : Nat} {r : RegRow} (h : StoredReg a r) (hpart : r.part = .single) {s : State}
    (hc : s.committed = true) (p : Path) (v : Word) (e : Ecc) (other : Option DWord) :
    s.busWrite p a v e other = s.hostStore p a a r v := by
  unfold State.busWrite
  simp only [State.mayWrite_of_committed hc, h.offWindow, h.row, hpart, h.regWrite, Bool.not_true, Bool.false_eq_true, if_false]

/-- The state after a plain write of `v` on path `p`, with its reply (R16), before the pins follow. -/
def State.plainWritten (s : State) (p : Path) (a : Nat) (r : RegRow) (v bad : Word) : State :=
  (s.afterStore a r v bad).reply p ⟨if bad = 0#32 then stDone else stReserved, 0#32⟩

/-- A plain write touches the register file, the note of the old word and the reply, and nothing else. -/
theorem State.plainWritten_eq (s : State) (p : Path) (a : Nat) (r : RegRow) (v bad : Word) :
    ∃ R T, s.plainWritten p a r v bad = { s with
      regs := R, tickOld := T
      replies := Tbl.put s.replies (Path.idx p) ⟨if bad = 0#32 then stDone else stReserved, 0#32⟩ } := by
  obtain ⟨R, T, h⟩ := s.afterStore_eq a r v bad
  exact ⟨R, T, by rw [State.plainWritten, h]; rfl⟩

theorem State.rd_plainWritten (s : State) (p : Path) (a : Nat) (r : RegRow) (v bad : Word) (k : Nat) :
    (s.plainWritten p a r v bad).rd k = (s.afterStore a r v bad).rd k := rfl

theorem PlainReg.hostWrite {a : Nat} {r : RegRow} (h : PlainReg a r) (hpart : r.part = .single) {s : State}
    (hc : s.committed = true) (p : Path) (v : Word) (e : Ecc) (other : Option DWord) :
    s.hostWrite p a v e other = s.plainWritten p a r v (s.badBits p a v) := by
  unfold State.hostWrite
  rw [h.busWrite hpart hc, h.hostStore]
  rfl

/-- A command whose effect is a plain write answers it, and nothing but the register, its note and the reply changes. -/
theorem State.live_plainWritten {s a : State} {dt : Elapse} {f : State → State} (ha : s.advance dt = a) (h : a.calm)
    {p : Path} {x : Nat} {r : RegRow} {v bad : Word} (hf : f a = a.plainWritten p x r v bad) :
    s.live dt f = .next (a.plainWritten p x r v bad).settle ∧
      (a.plainWritten p x r v bad).replies
        = Tbl.put a.replies (Path.idx p) ⟨if bad = 0#32 then stDone else stReserved, 0#32⟩ ∧
      { a.plainWritten p x r v bad with regs := a.regs, replies := a.replies, tickOld := a.tickOld } = a := by
  obtain ⟨R, T, hw⟩ := a.plainWritten_eq p x r v bad
  rw [hw] at hf ⊢
  exact ⟨State.live_to ha h hf, rfl, rfl⟩

/-- A write of a locked register changes nothing (R11). -/
theorem StoredReg.hostWrite_locked {a : Nat} {r : RegRow} (h : StoredReg a r) (hpart : r.part = .single) {s : State}
    (hc : s.committed = true) (hl : s.wrLocked a r = true) (p : Path) (v : Word) (e : Ecc) (other : Option DWord) :
    s.hostWrite p a v e other = s.reply p ⟨stLocked, 0#32⟩ := by
  unfold State.hostWrite
  rw [h.busWrite hpart hc, State.hostStore, if_pos hl]

/-! ### Pairs (R19) -/

/-- A write of the low word of a pair is held on its path. -/
theorem StoredReg.hostWrite_low {a : Nat} {r : RegRow} (h : StoredReg a r) (hpart : r.part = .low) (hrw : r.rw ≠ 0) {s : State}
    (hc : s.committed = true) (p : Path) (v : Word) (e : Ecc) (other : Option DWord) :
    s.hostWrite p a v e other = (s.holdWr (pkey p a) v).reply p ⟨stDone, 0#32⟩ := by
  unfold State.hostWrite State.busWrite
  simp only [State.mayWrite_of_committed hc, h.offWindow, h.row, hpart, hrw, Bool.not_true, Bool.false_eq_true, if_false]

/-- The state after both words of the pair at `a` are stored, the high one with `v`: the low word is the one held on path
`p`, or else the present one. -/
def State.pairStored (s : State) (p : Path) (a : Nat) (rl rh : RegRow) (v : Word) : State :=
  ((s.dropWr (pkey p a)).afterStore a rl ((s.wrHeld (pkey p a)).getD (s.rd a)) 0#32).afterStore (a + 4) rh v 0#32

theorem State.pairStored_eq (s : State) (p : Path) (a : Nat) (rl rh : RegRow) (v : Word) :
    ∃ R T, s.pairStored p a rl rh v = { s.dropWr (pkey p a) with regs := R, tickOld := T } := by
  obtain ⟨R, T, h⟩ := (s.dropWr (pkey p a)).afterStore_eq a rl ((s.wrHeld (pkey p a)).getD (s.rd a)) 0#32
  unfold State.pairStored
  rw [h]
  exact State.afterStore_eq _ (a + 4) rh v 0#32

/-- A write of the high word of a pair of plain registers without reserved values. -/
theorem PlainReg.hostWrite_high {a : Nat} {rl rh : RegRow} (hl : PlainReg a rl) (hh : PlainReg (a + 4) rh)
    (hpart : rh.part = .high) (hrw : rl.rw ≠ 0) {p : Path} (hbl : ∀ (s : State) v, s.badBits p a v = 0#32)
    (hbh : ∀ (s : State) v, s.badBits p (a + 4) v = 0#32) {s : State} (hc : s.committed = true) (v : Word) (e : Ecc)
    (other : Option DWord) :
    s.hostWrite p (a + 4) v e other = (s.pairStored p a rl rh v).reply p ⟨stDone, 0#32⟩ := by
  unfold State.hostWrite State.busWrite State.pairWrite
  simp only [State.mayWrite_of_committed hc, hh.offWindow, hh.row, hpart, Nat.add_sub_cancel, hl.row, hrw, hl.shared,
    hl.regWrite, hl.hostStore, hh.regWrite, hh.hostStore, hbl, hbh, Bool.not_true, Bool.false_eq_true, if_false, if_true]
  rfl

theorem State.rd_pairStored_ne (s : State) (p : Path) {a k : Nat} (h0 : k ≠ a) (h4 : k ≠ a + 4) (rl rh : RegRow) (v : Word) :
    (s.pairStored p a rl rh v).rd k = s.rd k := by
  rw [State.pairStored, State.rd_afterStore_ne _ h4, State.rd_afterStore_ne _ h0]
  rfl

theorem State.rd_pairStored_low {s : State} (p : Path) {a : Nat} (hq : s.quietAt a) {rl : RegRow} (hrw : rl.rw = 2 ^ 32 - 1)
    (hw1c : rl.w1c = 0) (rh : RegRow) (v : Word) :
    (s.pairStored p a rl rh v).rd a = (s.wrHeld (pkey p a)).getD (s.rd a) := by
  have hq' : (s.dropWr (pkey p a)).quietAt a := hq
  rw [State.pairStored, State.rd_afterStore_ne _ (by omega), State.rd_afterStore_quiet hq', State.stored_rw_word hq' hrw hw1c]

theorem State.rf_pairStored_high {s : State} (p : Path) {a w : Nat} (hq : s.quietAt (a + 4)) (rl : RegRow) {rh : RegRow}
    (hw : w ≤ 32) (hrw : rh.rw = 2 ^ w - 1) (hw1c : rh.w1c = 0) (v : Word) :
    (s.pairStored p a rl rh v).rf (a + 4) 0 w = bits v 0 w := by
  have hq' : (s.dropWr (pkey p a)).quietAt (a + 4) := hq
  have hq'' := State.quietAt_afterStore hq' a rl ((s.wrHeld (pkey p a)).getD (s.rd a)) 0#32
  rw [State.rf, State.pairStored, State.rd_afterStore_quiet hq'', State.stored_rw_bits hq'' hw hrw hw1c]

/-- The path's held word is used up, and every other one stays (R20). -/
theorem State.wrHeld_pairStored (s : State) (p : Path) (a : Nat) (rl rh : RegRow) (v : Word) (k : Nat) :
    (s.pairStored p a rl rh v).wrHeld k = if k = pkey p a then none else s.wrHeld k := by
  obtain ⟨R, T, h⟩ := s.pairStored_eq p a rl rh v
  rw [h]
  exact s.wrHeld_dropWr (pkey p a) k

/-! ### Reads that copy (R18, R145) -/

theorem State.hostRead_reg {s : State} {p : Path} {a : Nat} {r : RegRow} (hopen : s.pathOpen p = true)
    (hwin : inPantry a = false) (hrow : regRow a = some r) (e : Ecc) :
    s.hostRead p a e = (s.regRead p a r).1.reply p (s.regRead p a r).2 := by
  unfold State.hostRead State.busRead
  simp only [hopen, hwin, hrow, Bool.not_true, Bool.false_eq_true, if_false]

/-- The register at `a`, shared by all paths, leads a group with `m` more members. -/
structure LeadReg (a m : Nat) : Prop where
  row : ∃ r, regRow a = some r ∧ r.part = .lead ∧ r.own = false
  size : groupSize a = m
  offWindow : inPantry a = false
  offBanks : ¬(0x6064 ≤ a ∧ a ≤ 0x6074)

/-- A read of a group's first register copies the group and answers that register. -/
theorem LeadReg.hostRead {a m : Nat} (h : LeadReg a m) {s : State} {p : Path} (hopen : s.pathOpen p = true) (e : Ecc) :
    s.hostRead p a e = (s.groupCopy p a m).reply p ⟨stDone, s.view p a a⟩ := by
  obtain ⟨r, hrow, hpart, hown⟩ := h.row
  have hkey : s.keyOf p a r = a := by
    unfold State.keyOf
    rw [hown, if_neg Bool.false_ne_true, if_neg h.offBanks]
  rw [State.hostRead_reg hopen h.offWindow hrow, State.regRead, hkey, hpart, h.size]

/-! ### Registers of a channel -/

theorem chA_toNat (n : Fin 128) {o : Nat} (ho : o < 0x1000) : (BitVec.ofNat 32 (chA n o)).toNat = chA n o := by
  have hn := n.isLt
  rw [BitVec.toNat_ofNat, Nat.mod_eq_of_lt]
  unfold chA; omega

theorem State.chCommand_none (s : State) (n : Nat) {o : Nat} (ho : o < 0x400) (h0 : o ≠ 0x000) (h1 : o ≠ 0x214) (v : Word) :
    s.chCommand n o v = none := by
  unfold State.chCommand
  rw [if_neg h0, if_neg h1, if_neg (by omega), if_neg (by omega), if_neg (by omega), if_neg (by omega)]

/-- The registers of chapters 02 to 04 but CH_CMD and MEAS_CMD. -/
theorem storedReg_chA (n : Fin 128) {o : Nat} {r : RegRow} (ho : o < 0x400) (h4 : o % 4 = 0) (h0 : o ≠ 0x000) (h1 : o ≠ 0x214)
    (hrow : rowAt chRows o = some r) (hown : r.own = false) : StoredReg (chA n o) r where
  row := (regRow_chA n.isLt (by omega) h4).trans hrow
  offWindow := inPantry_chA n.isLt (by omega)
  notCommand s p v := by
    unfold State.command
    rw [isCh_chA n.isLt (by omega), if_pos rfl, chA_mod (by omega), State.chCommand_none _ _ ho h0 h1]
  shared s p := by
    unfold State.keyOf chA
    rw [hown, if_neg Bool.false_ne_true, if_neg (by omega)]
  offPorch := by unfold chA; omega

theorem State.writeFx_chA (s : State) (n : Fin 128) {o : Nat} (ho : o < 0x400) (h : o ≠ 0x100) (old v bad : Word) :
    s.writeFx (chA n o) old v bad = s := by
  unfold State.writeFx
  rw [isCh_chA n.isLt (by omega), if_pos rfl]
  dsimp only
  rw [chA_mod (by omega), if_neg h, if_neg (by omega), if_neg (by omega), if_neg (by omega), if_neg (by omega)]

/-- The same registers but CH_FORCE, whose range fields are noted (R52, R150), and the RWL ones. -/
theorem plainReg_chA (n : Fin 128) {o : Nat} {r : RegRow} (ho : o < 0x400) (h4 : o % 4 = 0) (h0 : o ≠ 0x000) (h1 : o ≠ 0x214)
    (h2 : o ≠ 0x100) (hrow : rowAt chRows o = some r) (hown : r.own = false) (hlock : r.lock = false) : PlainReg (chA n o) r where
  toStoredReg := storedReg_chA n ho h4 h0 h1 hrow hown
  unlocked s := by
    have hctx : isCtx (chA n o) = false := by
      rw [isCtx, decide_eq_false (show ¬chA n o < 0xF000 by unfold chA; omega), Bool.and_false]
    have hphs : (chA n o == 0x2004) = false := beq_false_of_ne (by unfold chA; omega)
    have hcal : decide (0x800 ≤ o) = false := decide_eq_false (by omega)
    simp [State.wrLocked, hlock, hctx, hphs, chA_mod (show o < 0x1000 by omega), hcal]
  noLockedBits s v := by
    unfold State.wrLockedBits chA
    rw [if_neg (by omega), if_neg (by omega)]
  noEffect s old v bad := s.writeFx_chA n ho h2 old v bad

theorem State.badBits_chA (s : State) (p : Path) (n : Fin 128) {o : Nat} (ho : o < 0x1000) (v : Word) :
    s.badBits p (chA n o) v = BitVec.ofNat 32 (s.badCh n o v) := by
  unfold State.badBits
  rw [isCh_chA n.isLt ho, if_pos rfl, chOf_chA ho, chA_mod ho]

theorem State.view_chA (s : State) (p : Path) (n : Fin 128) {o : Nat} (ho : o < 0x1000) (k : Nat) :
    s.view p (chA n o) k = s.viewCh n o := by
  unfold State.view
  rw [isCh_chA n.isLt ho, if_pos rfl, chOf_chA ho, chA_mod ho]

/-- A read of the low word of CH_TRANS_TS holds its high word for the path. -/
theorem State.hostRead_transTs {s : State} {p : Path} (hopen : s.pathOpen p = true) (n : Fin 128) (e : Ecc) :
    s.hostRead p (chA n 0x030) e
      = (s.holdRd (pkey p (chA n 0x030)) (((s.ch n).transTs >>> 32).setWidth 32) stDone).reply p
        ⟨stDone, (s.ch n).transTs.setWidth 32⟩ := by
  have hrow : regRow (chA n 0x030) = some { off := 0x030, part := .low } := regRow_chA n.isLt (by decide) (by decide)
  have hhigh : chA n 0x030 + 4 = chA n 0x034 := rfl
  rw [State.hostRead_reg hopen (inPantry_chA n.isLt (by decide)) hrow]
  simp only [State.regRead, hhigh, s.view_chA p n (show 0x030 < 0x1000 by decide), s.view_chA p n (show 0x034 < 0x1000 by decide)]
  rfl

/-- MEAS_LAST (R145). -/
theorem leadReg_measLast (n : Fin 128) : LeadReg (chA n 0x230) 9 where
  row := ⟨{ off := 0x230, part := .lead }, regRow_chA n.isLt (by decide) (by decide), rfl, rfl⟩
  size := by rw [groupSize, isCh_chA n.isLt (by decide), if_pos rfl]
  offWindow := inPantry_chA n.isLt (by decide)
  offBanks := by unfold chA; omega

/-! ### Registers of Phase -/

theorem isCh_of_lt {a : Nat} (h : a < 0x100000) : isCh a = false := by
  rw [isCh, decide_eq_false (by omega), Bool.false_and]

theorem isWg_of_lt {a : Nat} (h : a < 0x10000) : isWg a = false := by
  rw [isWg, decide_eq_false (by omega), Bool.false_and]

theorem isCtx_of_lt {a : Nat} (h : a < 0xE800) : isCtx a = false := by
  rw [isCtx, decide_eq_false (by omega), Bool.false_and]

theorem inPantry_of_lt {a : Nat} (h : a < 0x2000000) : inPantry a = false := by
  rw [inPantry, decide_eq_false (by omega), Bool.false_and, Bool.false_and]

/-- The registers of Phase from 0x200C up to PHS_CMD. -/
theorem plainReg_phs {a : Nat} {r : RegRow} (hlo : 0x200C ≤ a) (hhi : a < 0x205C) (hrow : regRow a = some r)
    (hown : r.own = false) (hlock : r.lock = false) : PlainReg a r := by
  have hch : isCh a = false := isCh_of_lt (by omega)
  have hwg : isWg a = false := isWg_of_lt (by omega)
  have hctx : isCtx a = false := isCtx_of_lt (by omega)
  exact {
    row := hrow
    offWindow := inPantry_of_lt (by omega)
    notCommand := fun s p v => by
      unfold State.command
      simp only [hch, hwg, hctx, Bool.false_eq_true, if_false]
      iterate 19 rw [if_neg (by omega)]
    shared := fun s p => by
      unfold State.keyOf
      rw [hown, if_neg Bool.false_ne_true, if_neg (by omega)]
    offPorch := by omega
    unlocked := fun s => by
      have hcfg : (a == 0x2004) = false := beq_false_of_ne (by omega)
      simp [State.wrLocked, hlock, hcfg, hctx, hch]
    noLockedBits := fun s v => by
      unfold State.wrLockedBits
      rw [if_neg (by omega), if_neg (by omega)]
    noEffect := fun s old v bad => by
      unfold State.writeFx
      simp only [hch, hctx, Bool.false_eq_true, if_false, false_and]
      rw [if_neg (by omega), if_neg (by omega)] }

/-- None of them has a reserved value. -/
theorem State.badBits_phs (s : State) (p : Path) {a : Nat} (hlo : 0x200C ≤ a) (hhi : a < 0x205C) (v : Word) :
    s.badBits p a v = 0#32 := by
  have hch : isCh a = false := isCh_of_lt (by omega)
  have hwg : isWg a = false := isWg_of_lt (by omega)
  unfold State.badBits State.badLow badPhs
  simp only [hch, hwg, Bool.false_eq_true, if_false]
  rw [if_pos (by omega), if_neg (by omega), if_neg (by omega), if_pos (by omega), if_neg (by omega), if_neg (by omega),
    if_neg (by omega), if_neg (by omega)]

end Sys2Proof.Machine
end

section
/-!
PROOFS. The statements on register accesses of chapter 00: writes by access code (O9), pairs (O10), copying reads (O11) and
W1C flags (O12).
-/

namespace Sys2Proof.Machine

/-! ### O9: CH_HOLD and MEAS_CHUTE -/

/-- CH_HOLD: hold_time in bits 12 to 0 (chapter 02). -/
def chHoldRow : RegRow := { off := 0x018, rw := 0x1FFF }

theorem plainReg_chHold (n : Fin 128) : PlainReg (chA n 0x018) chHoldRow :=
  plainReg_chA n (by decide) (by decide) (by decide) (by decide) (by decide) (by decide) rfl rfl

theorem storedReg_measChute (n : Fin 128) : StoredReg (chA n 0x218) { off := 0x218, rw := 0xFFFF, lock := true } :=
  storedReg_chA n (by decide) (by decide) (by decide) (by decide) (by decide) rfl

/-- hold_time is reserved outside 16 to 6,000 (R16). -/
theorem State.badBits_chHold (s : State) (p : Path) (n : Fin 128) (v : Word) :
    s.badBits p (chA n 0x018) v = if 16 ≤ bits v 0 13 ∧ bits v 0 13 ≤ 6000 then 0#32 else BitVec.ofNat 32 (2 ^ 13 - 1) := by
  have hbad : s.badCh n 0x018 v = resv (outOf v 0 13 16 6000) 0 13 := rfl
  rw [s.badBits_chA p n (by decide), hbad]
  split
  next h =>
    have hin : outOf v 0 13 16 6000 = false := by
      simp only [outOf, Bool.or_eq_false_iff, decide_eq_false_iff_not]; omega
    rw [resv, hin, if_neg Bool.false_ne_true]
  next h =>
    have hout : outOf v 0 13 16 6000 = true := by
      simp only [outOf, Bool.or_eq_true, decide_eq_true_eq]; omega
    rw [resv, hout, if_pos rfl]; rfl

/-- hold_time after a write of `v`. -/
theorem State.holdTime_stored (s : State) (p : Path) (n : Fin 128) (v : Word) (hq : s.quietAt (chA n 0x018)) :
    bits (s.stored (chA n 0x018) chHoldRow v (s.badBits p (chA n 0x018) v)) 0 13
      = if 16 ≤ bits v 0 13 ∧ bits v 0 13 ≤ 6000 then bits v 0 13 else s.rf (chA n 0x018) 0 13 := by
  rw [s.badBits_chHold]
  split
  · exact State.stored_rw_bits hq (by decide) rfl rfl v
  · refine bits_congr (fun i _ hi => ?_)
    rw [State.stored_rw_getLsbD hq (w := 13) rfl rfl v _ (by omega), getLsbD_ofNat_lowMask, if_neg]
    simp only [not_and, Bool.not_eq_false, Bool.and_eq_true, decide_eq_true_eq]
    omega

/-- Settles O9: CH_HOLD is a plain register whose only reserved values are those of hold_time; MEAS_CHUTE is locked. -/
theorem registerWriteByAccessCode : Obligations.RegisterWriteByAccessCode := by
  unfold Obligations.RegisterWriteByAccessCode
  intro s a dt p n v ha hcalm hc
  rw [exec_registerWrite, exec_registerWrite]
  unfold execRegisterWrite
  rw [chA_toNat n (by decide), chA_toNat n (by decide)]
  refine ⟨fun hset hswp hinc => ?_, ?_⟩
  · have hq : a.quietAt (chA n 0x018) := ⟨hset, hswp, hinc⟩
    have hrd := State.rd_afterStore_quiet hq chHoldRow v (a.badBits p (chA n 0x018) v)
    obtain ⟨hlive, hreply, hframe⟩ :=
      State.live_plainWritten (f := fun s => s.hostWrite p (chA n 0x018) v .clean none) ha hcalm
        ((plainReg_chHold n).hostWrite rfl hc p v .clean none)
    refine ⟨_, hlive, ?_, ?_, ?_, fun k hk => a.rd_afterStore_ne hk _ _ _, hframe⟩
    · rw [State.rf, State.rd_plainWritten, hrd, a.holdTime_stored p n v hq]
    · rw [State.rf, State.rd_plainWritten, hrd]
      refine bits_congr (fun i _ hi => ?_)
      rw [State.stored_rw_getLsbD hq (w := 13) rfl rfl v _ (by omega), if_neg (by omega)]
    · rw [hreply, a.badBits_chHold]
      split <;> rfl
  · exact State.live_to ha hcalm
      ((storedReg_measChute n).hostWrite_locked rfl hc (by simp [State.wrLocked, hc]) p v .clean none)

/-! ### O10: PHS_LOAD_TICK and PHS_LOAD_SEC -/

/-- The low word at `x` of a pair of load values, and its high word (R216). -/
def loadLowRow (x : Nat) : RegRow := { off := x - 0x2000, rw := all32, part := .low }
def loadHighRow (x : Nat) : RegRow := { off := x - 0x2000 + 4, rw := 0xFFFF, part := .high }

theorem all32_ne_zero : all32 ≠ 0 := by decide

theorem plainReg_loadLow {x : Nat} (hx : x = 0x2048 ∨ x = 0x2054) : PlainReg x (loadLowRow x) :=
  plainReg_phs (by omega) (by omega) (by rcases hx with rfl | rfl <;> decide) rfl rfl

theorem plainReg_loadHigh {x : Nat} (hx : x = 0x2048 ∨ x = 0x2054) : PlainReg (x + 4) (loadHighRow x) :=
  plainReg_phs (by omega) (by omega) (by rcases hx with rfl | rfl <;> decide) rfl rfl

/-- Settles O10: the low word only joins the holding registers; the high word stores both words of the pair. -/
theorem pairWritesCommitTogether : Obligations.PairWritesCommitTogether := by
  unfold Obligations.PairWritesCommitTogether
  intro s a dt p x v ha hcalm hc hx
  have hlow := plainReg_loadLow hx
  have hhigh := plainReg_loadHigh hx
  have hpartLow : partAt x = some .low := by rw [partAt, hlow.row]; rfl
  have hpartHigh : partAt (x + 4) = some .high := by rw [partAt, hhigh.row]; rfl
  have hxLow : (BitVec.ofNat 32 x).toNat = x := by rw [BitVec.toNat_ofNat, Nat.mod_eq_of_lt (by omega)]
  have hxHigh : (BitVec.ofNat 32 (x + 4)).toNat = x + 4 := by rw [BitVec.toNat_ofNat, Nat.mod_eq_of_lt (by omega)]
  rw [exec_pairLowWrite, exec_pairHighWrite]
  unfold execPairLowWrite execPairHighWrite
  simp only [hxLow, hxHigh, hpartLow, hpartHigh, if_true]
  refine ⟨?_, fun hq => ?_⟩
  · refine ⟨_, State.live_to ha hcalm (hlow.hostWrite_low rfl all32_ne_zero hc p v .clean none), ?_, fun k hk => ?_, rfl, rfl⟩
    · exact (a.wrHeld_holdWr (pkey p x) _ v).trans (if_pos rfl)
    · exact (a.wrHeld_holdWr (pkey p x) k v).trans (if_neg hk)
  · obtain ⟨R, T, hpair⟩ := a.pairStored_eq p x (loadLowRow x) (loadHighRow x) v
    have hwrite := hlow.hostWrite_high hhigh rfl all32_ne_zero (fun s w => s.badBits_phs p (by omega) (by omega) w)
      (fun s w => s.badBits_phs p (by omega) (by omega) w) hc v .clean none
    refine ⟨(a.pairStored p x (loadLowRow x) (loadHighRow x) v).reply p ⟨0, 0#32⟩, ?_, ?_, ?_, ?_, ?_, ?_, ?_, ?_⟩
    · rw [hpair] at hwrite ⊢
      exact State.live_to ha hcalm hwrite
    · exact State.rd_pairStored_low p (hq x (.inl rfl)) rfl rfl _ v
    · exact State.rf_pairStored_high p (hq (x + 4) (.inr rfl)) _ (by decide) rfl rfl v
    · exact (a.wrHeld_pairStored p x _ _ v _).trans (if_pos rfl)
    · exact fun k hk => (a.wrHeld_pairStored p x _ _ v k).trans (if_neg hk)
    · exact fun k h0 h4 => a.rd_pairStored_ne p h0 h4 _ _ v
    · rw [hpair]; rfl
    · rw [hpair]; rfl

/-! ### O11: MEAS_LAST, the MARK and PPS captures (R213), the head record (R315), the time of day (R437) -/

theorem leadReg_markHtick : LeadReg 0x20C0 4 := ⟨⟨{ off := 0x0C0, part := .lead }, by decide⟩, by decide, by decide, by decide⟩
theorem leadReg_ppsHtick : LeadReg 0x20E0 3 := ⟨⟨{ off := 0x0E0, part := .lead }, by decide⟩, by decide, by decide, by decide⟩
theorem leadReg_hrtRec : LeadReg 0x1040 5 := ⟨⟨{ off := 0x040, part := .lead }, by decide⟩, by decide, by decide, by decide⟩
theorem leadReg_todSec : LeadReg 0xA488 2 := ⟨⟨{ off := 0x488, part := .lead }, by decide⟩, by decide, by decide, by decide⟩

/-- Each of the five group reads is a read of the register that leads its group. -/
theorem exec_groupRead {dt : Elapse} {p : Path} {c : Instr} {x m : Nat} (s : State)
    (h : (∃ n : Fin 128, c = .measLastVLoRead dt p n ∧ x = chA n 0x230 ∧ m = 9) ∨ (c = .markHtickLoRead dt p ∧ x = 0x20C0 ∧ m = 4)
      ∨ (c = .ppsHtickLoRead dt p ∧ x = 0x20E0 ∧ m = 3) ∨ (c = .hrtRecSrcRead dt p ∧ x = 0x1040 ∧ m = 5)
      ∨ (c = .todSecLoRead dt p ∧ x = 0xA488 ∧ m = 2)) :
    LeadReg x m ∧ exec c s = s.live dt (fun s => s.hostRead p x .clean) := by
  rcases h with ⟨n, rfl, rfl, rfl⟩ | ⟨rfl, rfl, rfl⟩ | ⟨rfl, rfl, rfl⟩ | ⟨rfl, rfl, rfl⟩ | ⟨rfl, rfl, rfl⟩
  · exact ⟨leadReg_measLast n, exec_measLastVLoRead ..⟩
  · exact ⟨leadReg_markHtick, exec_markHtickLoRead ..⟩
  · exact ⟨leadReg_ppsHtick, exec_ppsHtickLoRead ..⟩
  · exact ⟨leadReg_hrtRec, exec_hrtRecSrcRead ..⟩
  · exact ⟨leadReg_todSec, exec_todSecLoRead ..⟩

/-- Settles O11: a read of a low word or of a leading register changes the path's holding registers and the reply alone. -/
theorem pairAndGroupReadsCopy : Obligations.PairAndGroupReadsCopy := by
  unfold Obligations.PairAndGroupReadsCopy
  intro s a dt p ha hcalm hopen
  refine ⟨fun n => ?_, fun c x m hcmd => ?_⟩
  · have hpart : partAt (chA n 0x030) = some .low := by
      rw [partAt, regRow_chA n.isLt (by decide) (by decide)]; rfl
    rw [exec_pairLowRead]
    unfold execPairLowRead
    simp only [chA_toNat n (show 0x030 < 0x1000 by decide), hpart, if_true]
    refine ⟨_, State.live_to ha hcalm (State.hostRead_transTs hopen n .clean), ?_, rfl, fun k hk => ?_, rfl⟩
    · exact (a.rdHeld_holdRd (pkey p (chA n 0x030)) _ _ _).trans (if_pos rfl)
    · exact (a.rdHeld_holdRd (pkey p (chA n 0x030)) k _ _).trans (if_neg hk)
  · obtain ⟨hlead, hexec⟩ := exec_groupRead s hcmd
    rw [hexec]
    refine ⟨_, State.live_to ha hcalm (hlead.hostRead hopen .clean), fun i h1 hm => ?_, fun k hk => ?_, rfl, rfl⟩
    · exact a.groupCopy_member p x h1 hm
    · exact a.groupCopy_other p x m hk

/-! ### O12: flags -/

/-- CH_STATUS, MEAS_FLAGS and RNG_FLAGS: the offset in the channel, and how many flags the register has. -/
abbrev FlagReg (o m : Nat) : Prop := (o = 0x00C ∧ m = 16) ∨ (o = 0x220 ∧ m = 5) ∨ (o = 0x314 ∧ m = 7)

/-- They hold W1C flags in their lowest bits and nothing else. -/
theorem plainReg_flags (n : Fin 128) {o m : Nat} (h : FlagReg o m) : PlainReg (chA n o) { off := o, w1c := 2 ^ m - 1 } := by
  rcases h with ⟨rfl, rfl⟩ | ⟨rfl, rfl⟩ | ⟨rfl, rfl⟩ <;>
    exact plainReg_chA n (by decide) (by decide) (by decide) (by decide) (by decide) (by decide) rfl rfl

theorem State.badBits_flags (s : State) (p : Path) (n : Fin 128) {o m : Nat} (h : FlagReg o m) (v : Word) :
    s.badBits p (chA n o) v = 0#32 := by
  rw [s.badBits_chA p n (by omega)]
  rcases h with ⟨rfl, _⟩ | ⟨rfl, _⟩ | ⟨rfl, _⟩ <;> rfl

/-- Settles O12: the write is plain, and what it stores is R12's rule bit by bit. -/
theorem flagClearByWritingOnes : Obligations.FlagClearByWritingOnes := by
  unfold Obligations.FlagClearByWritingOnes
  intro s a dt p n o m v ha hcalm hc hom
  have hreg := plainReg_flags n hom
  have hw1c : (2 ^ m - 1 != 0) = true := by
    rcases hom with ⟨_, rfl⟩ | ⟨_, rfl⟩ | ⟨_, rfl⟩ <;> rfl
  rw [exec_w1cFlagClear]
  unfold execW1cFlagClear
  simp only [chA_toNat n (show o < 0x1000 by omega), hreg.row, Option.any_some, hw1c, if_true]
  obtain ⟨hlive, hreply, hframe⟩ :=
    State.live_plainWritten (f := fun s => s.hostWrite p (chA n o) v .clean none) ha hcalm (hreg.hostWrite rfl hc p v .clean none)
  rw [a.badBits_flags p n hom v] at hlive hreply hframe
  refine ⟨_, hlive, fun i hi => ?_, fun k hk => a.rd_afterStore_ne hk _ _ _, hreply, hframe⟩
  rw [State.rd_plainWritten, State.rd_afterStore_of_rw_zero rfl]
  exact State.stored_w1c_getLsbD rfl rfl v 0#32 hi

end Sys2Proof.Machine
end

section
/-!
PROOFS. The layer of chapter 06: register pairs, the flags of the Phase block, what a lost domain leaves alone, what alarms
leave alone, and how a Phase command ends.
-/

namespace Sys2Proof.Machine

/-! ### Register pairs (R18) -/

theorem append_halves (v : DWord) : ((v >>> 32).setWidth 32 : Word) ++ (v.setWidth 32 : Word) = v := by
  apply BitVec.eq_of_getLsbD_eq
  intro i hi
  rw [BitVec.getLsbD_append]
  by_cases h : i < 32
  · simp [h]
  · simp [h, show i - 32 < 32 by omega, show 32 + (i - 32) = i by omega]

theorem State.rd_wr64 (s : State) (k j : Nat) (v : DWord) :
    (s.wr64 k v).rd j = if j = k + 4 then (v >>> 32).setWidth 32 else if j = k then v.setWidth 32 else s.rd j := by
  rw [State.wr64, State.rd_wr, State.rd_wr]

theorem State.rd_wr64_ne (s : State) {k j : Nat} (v : DWord) (h0 : j ≠ k) (h4 : j ≠ k + 4) : (s.wr64 k v).rd j = s.rd j := by
  rw [State.rd_wr64, if_neg h4, if_neg h0]

/-- A pair read after it was written. -/
theorem State.rd64_wr64_self (s : State) (k : Nat) (v : DWord) : (s.wr64 k v).rd64 k = v := by
  rw [State.rd64, State.rd_wr64, State.rd_wr64, if_pos rfl, if_neg (by omega), if_pos rfl, append_halves]

theorem State.rd64_congr {u a : State} {k : Nat} (h0 : u.rd k = a.rd k) (h4 : u.rd (k + 4) = a.rd (k + 4)) :
    u.rd64 k = a.rd64 k := by
  rw [State.rd64, State.rd64, h0, h4]

/-! ### Flags and counts of the Phase block (R215) -/

theorem State.rd_phsFault (s : State) (b j : Nat) :
    (s.phsFault b).rd j = if j = 0x2010 then putBit (s.rd 0x2010) b true else s.rd j := s.rd_flag 0x2010 b j

theorem State.rd_phsFault_ne (s : State) (b : Nat) {j : Nat} (h : j ≠ 0x2010) : (s.phsFault b).rd j = s.rd j := by
  rw [State.rd_phsFault, if_neg h]

/-- The flag is set, and no other one changes. -/
theorem State.bit_phsFault (s : State) (b : Nat) {i : Nat} (hi : i < 32) :
    bit ((s.phsFault b).rd 0x2010) i = (decide (b = i) || bit (s.rd 0x2010) i) := by
  rw [State.rd_phsFault, if_pos rfl, bit_putBit _ _ _ _ hi]
  by_cases h : b = i <;> simp [h]

/-- A field read after it was stored. -/
theorem State.rf_wf (s : State) (k lo w v : Nat) (h : lo + w ≤ 32) : (s.wf k lo w v).rf k lo w = v % 2 ^ w := by
  rw [State.rf, State.rd_wf, if_pos rfl, bits_setBits _ _ _ _ h]

/-- A saturating counter read after an increment (R7). -/
theorem State.rf_incSat (s : State) (k lo w : Nat) (h : lo + w ≤ 32) :
    (s.incSat k lo w).rf k lo w = min (s.rf k lo w + 1) (2 ^ w - 1) := by
  have := Nat.two_pow_pos w
  exact (s.rf_wf k lo w _ h).trans (Nat.mod_eq_of_lt (by omega))

theorem State.rd_incSat_ne (s : State) {k j : Nat} (lo w : Nat) (h : j ≠ k) : (s.incSat k lo w).rd j = s.rd j := by
  rw [State.rd_incSat, if_neg h]

/-! ### The loss of a domain (R197, R204) -/

/-- What a loss to `tgt` leaves apart from the domain itself: the count at bit `lo` of PHS_LOSS on entry to HOLDOVER, flag `b`
with its report, and event `p`. -/
def State.noteLoss (s : State) (tgt : DomSt) (lo b p : Nat) : State :=
  ((if tgt = .holdover then s.incSat 0x2014 lo 8 else s).phsFault b).launch p

theorem State.machLost_eq (s : State) (tgt : DomSt) (cause : Nat) :
    s.machLost tgt cause = { s with mach := { s.mach with
      st := tgt, cause := cause, holdAt := s.htick, holdMs := s.rf 0x2008 0 16, marked := false, run := 0 } }.noteLoss
        tgt 0 0 0x943 := rfl

theorem State.mainsLost_eq (s : State) (tgt : DomSt) :
    s.mainsLost tgt = { s with mains := { s.mains with
      st := tgt, pos := s.mainsPos s.htick, posAt := s.htick, holdAt := s.htick, holdMs := s.rf 0x2008 16 16, run := 0 } }.noteLoss
        tgt 8 3 0x946 := rfl

section noteLoss
variable (s : State) (tgt : DomSt) (lo b p : Nat)

/-- A loss is noted in registers and outboxes alone. -/
theorem State.noteLoss_eq : ∃ R T, s.noteLoss tgt lo b p = { s with
    regs := R, tickSet := T
    tickInc := if tgt = .holdover then ⟨0x2014, lo, 8, 1, false⟩ :: s.tickInc else s.tickInc
    launched := s.launched ++ [⟨p, s.htick⟩], reports := s.reports ++ [⟨0x401, b, s.htick⟩] } := by
  unfold State.noteLoss
  by_cases h : tgt = .holdover
  · rw [if_pos h, if_pos h]; exact ⟨_, _, rfl⟩
  · rw [if_neg h, if_neg h]; exact ⟨_, _, rfl⟩

theorem State.bit_noteLoss {i : Nat} (hi : i < 32) :
    bit ((s.noteLoss tgt lo b p).rd 0x2010) i = (decide (b = i) || bit (s.rd 0x2010) i) := by
  rw [State.noteLoss, State.rd_launch, State.bit_phsFault _ _ hi]
  split
  · rw [State.rd_incSat_ne _ _ _ (by decide)]
  · rfl

theorem State.rd_noteLoss_ne {k : Nat} (h0 : k ≠ 0x2010) (h1 : tgt = .holdover → k ≠ 0x2014) :
    (s.noteLoss tgt lo b p).rd k = s.rd k := by
  rw [State.noteLoss, State.rd_launch, State.rd_phsFault_ne _ _ h0]
  split
  next h => exact State.rd_incSat_ne _ _ _ (h1 h)
  next => rfl

theorem State.rf_noteLoss_holdover (h : lo + 8 ≤ 32) :
    (s.noteLoss .holdover lo b p).rf 0x2014 lo 8 = min (s.rf 0x2014 lo 8 + 1) 255 := by
  rw [State.rf, State.noteLoss, State.rd_launch, State.rd_phsFault_ne _ _ (by decide), if_pos rfl]
  exact s.rf_incSat 0x2014 lo 8 h

end noteLoss

/-! ### What measurement and sweeps leave alone when a domain becomes unusable (R140, R181) -/

/-- The domains, the Phase registers, and what a command takes up at its end. -/
def State.phaseView (s : State) : Mach × Mains × Cal × Tbl Link × Cel × (Nat → Word) :=
  (s.mach, s.mains, s.cal, s.link, s.cel, fun k => if k / 0x1000 = 2 then s.rd k else 0#32)

theorem State.phaseView_fields {u a : State} (h : u.phaseView = a.phaseView) :
    u.mach = a.mach ∧ u.mains = a.mains ∧ u.cal = a.cal ∧ u.link = a.link ∧ u.cel = a.cel := by
  simp only [State.phaseView, Prod.mk.injEq] at h
  obtain ⟨hmach, hmains, hcal, hlink, hcel, _⟩ := h
  exact ⟨hmach, hmains, hcal, hlink, hcel⟩

theorem State.phaseView_rd {u a : State} (h : u.phaseView = a.phaseView) {k : Nat} (hk : k / 0x1000 = 2) : u.rd k = a.rd k := by
  have := congrArg (fun v => v.2.2.2.2.2 k) h
  simpa only [State.phaseView, hk, if_true] using this

theorem State.phaseView_domUsable {u a : State} (h : u.phaseView = a.phaseView) (d : Nat) : u.domUsable d = a.domUsable d := by
  obtain ⟨hmach, hmains, _⟩ := State.phaseView_fields h
  rw [State.domUsable, State.domUsable, hmach, hmains]

theorem State.phaseView_wr (s : State) {k : Nat} (v : Word) (hk : k / 0x1000 ≠ 2) : (s.wr k v).phaseView = s.phaseView := by
  simp only [State.phaseView, State.wr_mach, State.wr_mains, State.wr_cal, State.wr_link, State.wr_cel, Prod.mk.injEq, true_and]
  funext j
  split
  next hj => exact s.rd_wr_ne v (fun h => hk (h ▸ hj))
  next => rfl

theorem State.phaseView_flag (s : State) {k : Nat} (i : Nat) (hk : k / 0x1000 ≠ 2) : (s.flag k i).phaseView = s.phaseView :=
  s.phaseView_wr _ hk

theorem State.phaseView_incSat (s : State) {k : Nat} (lo w : Nat) (hk : k / 0x1000 ≠ 2) :
    (s.incSat k lo w).phaseView = s.phaseView := s.phaseView_wr _ hk

theorem State.phaseView_wf (s : State) {k : Nat} (lo w v : Nat) (hk : k / 0x1000 ≠ 2) :
    (s.wf k lo w v).phaseView = s.phaseView := s.phaseView_wr _ hk

theorem State.phaseView_foldl {α : Type} {f : State → α → State} (hf : ∀ s x, (f s x).phaseView = s.phaseView) (l : List α)
    (s : State) : (l.foldl f s).phaseView = s.phaseView :=
  List.foldlRecOn (motive := fun t : State => t.phaseView = s.phaseView) l f rfl (fun t ht x _ => (hf t x).trans ht)

@[simp] theorem State.phaseView_modMs (s : State) (n : Nat) (f : Meas → Meas) : (s.modMs n f).phaseView = s.phaseView := rfl
@[simp] theorem State.phaseView_setCtx (s : State) (c : Nat) (x : Ctx) : (s.setCtx c x).phaseView = s.phaseView := rfl
@[simp] theorem State.phaseView_modCtx (s : State) (c : Nat) (f : Ctx → Ctx) : (s.modCtx c f).phaseView = s.phaseView := rfl
@[simp] theorem State.phaseView_swpDropEv (s : State) (c : Nat) : (s.swpDropEv c).phaseView = s.phaseView := rfl

@[simp] theorem State.phaseView_ctxFlag (s : State) (c i : Nat) : (s.ctxFlag c i).phaseView = s.phaseView :=
  s.phaseView_flag i (by unfold ctxA; omega)

@[simp] theorem State.phaseView_swpErr (s : State) (c i : Nat) : (s.swpErr c i).phaseView = s.phaseView :=
  ((s.flag (SWP + 0x10) i).phaseView_wf 16 5 c (by decide)).trans (s.phaseView_flag i (by decide))

@[simp] theorem State.phaseView_arbFault (s : State) (i : Nat) : (s.arbFault i).phaseView = s.phaseView :=
  s.phaseView_flag (k := PAN + 0x030) i (by decide)

@[simp] theorem State.phaseView_panPut (s : State) (b i : Nat) (v : DWord) : (s.panPut b i v).phaseView = s.phaseView := by
  unfold State.panPut
  split
  · exact s.phaseView_arbFault 2
  · rfl

@[simp] theorem State.phaseView_panTouch (s : State) (b i : Nat) : (s.panTouch b i).phaseView = s.phaseView := by
  have hbk : ∀ o, bkA b o / 0x1000 ≠ 2 := fun o => by unfold bkA; omega
  unfold State.panTouch
  split
  · rfl
  · split
    · rfl
    · split
      · exact (State.phaseView_flag _ _ (hbk _)).trans (State.phaseView_incSat _ _ _ (hbk _))
      · rfl

@[simp] theorem State.phaseView_unitWrite (s : State) (code b i : Nat) (v : DWord) :
    (s.unitWrite code b i v).phaseView = s.phaseView := by
  unfold State.unitWrite State.ownViol
  split
  · simp
  · rw [State.phaseView_arbFault, State.phaseView_incSat _ _ _ (by decide), State.phaseView_wr _ _ (by decide)]

@[simp] theorem State.phaseView_swpResult (s : State) (c outcome : Nat) : (s.swpResult c outcome).phaseView = s.phaseView := by
  unfold State.swpResult
  dsimp only
  split
  · rfl
  · simp

@[simp] theorem State.phaseView_swpPause (s : State) (c : Nat) : (s.swpPause c).phaseView = s.phaseView := by
  unfold State.swpPause
  dsimp only
  split
  · rfl
  · exact State.phaseView_incSat _ _ _ (by unfold ctxA; omega)

@[simp] theorem State.phaseView_swpTbPause (s : State) (c d i : Nat) : (s.swpTbPause c d i).phaseView = s.phaseView := by
  unfold State.swpTbPause
  dsimp only
  split <;> simp

theorem State.phaseView_apTimeLost (s : State) (d : Nat) : (s.apTimeLost d).phaseView = s.phaseView := by
  refine State.phaseView_foldl (fun t e => ?_) s.meas s
  generalize (if d = 0 then 2 else 1) = kind
  dsimp only
  split
  · rfl
  · split <;> rfl

theorem State.phaseView_swpDomLost (s : State) (d : Nat) : (s.swpDomLost d).phaseView = s.phaseView := by
  refine State.phaseView_foldl (fun t e => ?_) s.ctxs s
  dsimp only
  split
  · split <;> simp
  · rfl

/-- Where domain `d` does not become usable, what the other units see of it leaves the Phase block alone. -/
theorem State.phaseView_domHook {s old : State} {d : Nat} (h : s.domUsable d = true → old.domUsable d = true) :
    (s.domHook old d).phaseView = s.phaseView := by
  unfold State.domHook
  split
  · rfl
  next hne =>
    rw [if_neg (fun hs => hne (by rw [h hs, hs]; rfl)), State.phaseView_swpDomLost, State.phaseView_apTimeLost]

/-! ### What alarms leave alone (R206 to R209) -/

/-- `u` follows `a` by firings and misses of alarms: entries, PHS_FLAGS and PHS_ALM_MISS may differ, events and reports may
have been added. -/
structure State.AlarmsRan (u a : State) : Prop where
  rest : { u with alarms := a.alarms, launched := a.launched, regs := a.regs, tickSet := a.tickSet, reports := a.reports } = a
  rd : ∀ k, k ≠ 0x2010 → k < 0x2200 → u.rd k = a.rd k
  launched : a.launched <+: u.launched
  reports : a.reports <+: u.reports

namespace State.AlarmsRan
variable {u a : State}

theorem refl (a : State) : a.AlarmsRan a := ⟨rfl, fun _ _ _ => rfl, List.prefix_rfl, List.prefix_rfl⟩

theorem trans {w : State} (h : w.AlarmsRan u) (h' : u.AlarmsRan a) : w.AlarmsRan a where
  rest := by
    have := congrArg (fun x : State => { x with
      alarms := a.alarms, launched := a.launched, regs := a.regs, tickSet := a.tickSet, reports := a.reports }) h.rest
    exact Eq.trans this h'.rest
  rd k h0 h1 := (h.rd k h0 h1).trans (h'.rd k h0 h1)
  launched := h'.launched.trans h.launched
  reports := h'.reports.trans h.reports

theorem mach (h : u.AlarmsRan a) : u.mach = a.mach := congrArg (fun x => x.mach) h.rest
theorem mains (h : u.AlarmsRan a) : u.mains = a.mains := congrArg (fun x => x.mains) h.rest
theorem htick (h : u.AlarmsRan a) : u.htick = a.htick := congrArg (fun x => x.htick) h.rest
theorem cal (h : u.AlarmsRan a) : u.cal = a.cal := congrArg (fun x => x.cal) h.rest
theorem link (h : u.AlarmsRan a) : u.link = a.link := congrArg (fun x => x.link) h.rest
theorem cel (h : u.AlarmsRan a) : u.cel = a.cel := congrArg (fun x => x.cel) h.rest

theorem mem_reports (h : u.AlarmsRan a) {r : Report} (hr : r ∈ a.reports) : r ∈ u.reports := h.reports.subset hr
theorem mem_launched (h : u.AlarmsRan a) {l : Launch} (hl : l ∈ a.launched) : l ∈ u.launched := h.launched.subset hl

end State.AlarmsRan

theorem State.alarmsRan_foldl {α : Type} {f : State → α → State} (hf : ∀ s x, (f s x).AlarmsRan s) (l : List α) (s : State) :
    (l.foldl f s).AlarmsRan s :=
  List.foldlRecOn (motive := fun t : State => t.AlarmsRan s) l f (.refl s) (fun t ht x _ => (hf t x).trans ht)

theorem State.alarmsRan_phsFault (s : State) (b : Nat) : (s.phsFault b).AlarmsRan s where
  rest := rfl
  rd _ h0 _ := s.rd_phsFault_ne b h0
  launched := List.prefix_rfl
  reports := List.prefix_append ..

theorem State.alarmsRan_almMiss (s : State) (i : Nat) : (s.almMiss i).AlarmsRan s := by
  refine (State.alarmsRan_phsFault _ 10).trans ⟨rfl, fun k _ hk => ?_, List.prefix_rfl, List.prefix_rfl⟩
  exact (State.rd_flag _ _ _ k).trans (if_neg (by omega))

theorem State.alarmsRan_almSweep (s : State) (d : Nat) (strict : Bool) : (s.almSweep d strict).AlarmsRan s := by
  refine State.alarmsRan_foldl (fun t e => ?_) s.alarms s
  dsimp only
  split
  · exact t.alarmsRan_almMiss e.1
  · exact .refl t

theorem State.alarmsRan_almFire (s : State) (i : Nat) (a : Alarm) (last : Option Nat) : (s.almFire i a last).AlarmsRan s := by
  have hev : ∀ t : State, (t.almEvent a.line).AlarmsRan t := fun t => by
    unfold State.almEvent
    split
    · exact .refl t
    · exact ⟨rfl, fun _ _ _ => rfl, List.prefix_append .., List.prefix_rfl⟩
  unfold State.almFire
  refine (hev _).trans ?_
  split
  · exact .refl s
  · exact ⟨rfl, fun _ _ _ => rfl, List.prefix_rfl, List.prefix_rfl⟩

theorem State.alarmsRan_almFill (s : State) (n : Nat) : (s.almFill n).AlarmsRan s := by
  unfold State.almFill
  split
  · exact .refl s
  · refine State.alarmsRan_foldl (fun t e => ?_) s.alarms s
    dsimp only
    split
    · exact (State.alarmsRan_phsFault _ 11).trans (t.alarmsRan_almFire e.1 e.2 _)
    · exact .refl t

/-! ### How a Phase command ends -/

/-- A command from a calm state whose effect `u` leaves each domain usable or not as it was. -/
theorem State.live_usable {s a u : State} {dt : Elapse} {f : State → State} (ha : s.advance dt = a) (h : a.calm)
    (hf : f a = u) (hmach : u.mach.st.usable = a.mach.st.usable) (hmains : u.mains.st.usable = a.mains.st.usable := by rfl)
    (hcal : u.cal = a.cal := by rfl) (hlink : u.link = a.link := by rfl) (hcel : u.cel = a.cel := by rfl) :
    s.live dt f = .next u.settle := by
  subst ha hf
  have ⟨_, hidle, hrsp, hres⟩ := h
  exact State.live_calm s dt f h hmach hmains (by rw [hcal, hidle]) (by rw [State.lk, hcal, hlink]; exact hrsp) (by rw [hcel, hres])

/-- A command from a calm state whose effect `u` makes no domain usable: what follows leaves the Phase block alone. -/
theorem State.live_lost {s a u : State} {dt : Elapse} {f : State → State} (ha : s.advance dt = a) (h : a.calm) (hf : f a = u)
    (hdom : ∀ d, u.domUsable d = true → a.domUsable d = true)
    (hcal : u.cal = a.cal := by rfl) (hlink : u.link = a.link := by rfl) (hcel : u.cel = a.cel := by rfl) :
    ∃ w : State, s.live dt f = .next w.settle ∧ w.phaseView = u.phaseView := by
  obtain ⟨hheld, hidle, hrsp, hres⟩ := h
  have h0 : (u.domHook a 0).phaseView = u.phaseView := State.phaseView_domHook (hdom 0)
  have h1 : ((u.domHook a 0).domHook a 1).phaseView = u.phaseView :=
    (State.phaseView_domHook (fun h => hdom 1 ((State.phaseView_domUsable h0 1).symm.trans h))).trans h0
  obtain ⟨_, _, hcal', hlink', hcel'⟩ := State.phaseView_fields h1
  refine ⟨_, ?_, h1⟩
  unfold State.live
  simp only [ha, hf, hheld, ne_eq, not_true_eq_false, if_false]
  exact State.finish_calm _ (by rw [hcal', hcal, hidle]) (by rw [State.lk, hcal', hlink', hcal, hlink]; exact hrsp)
    (by rw [hcel', hcel, hres])

end Sys2Proof.Machine
end

section
/-!
PROOFS. The machine domain (chapter 06): MARK, the loss of MCLK or MARK, holdover and acquisition time-outs, and the switch.
-/

namespace Sys2Proof.Machine

/-! ### MARK_ACCEPTED (R192, R212) -/

theorem State.markCapture_form (s : State) : ∃ R, s.markCapture = { s with regs := R } := ⟨_, rfl⟩

theorem State.rd_markCapture_ne (s : State) {k : Nat} (hk : k ∉ [0x20C0, 0x20C4, 0x20C8, 0x20CC, 0x20D0]) :
    s.markCapture.rd k = s.rd k := by
  simp only [List.mem_cons, List.not_mem_nil, or_false, not_or] at hk
  obtain ⟨h0, h4, h8, hC, hD⟩ := hk
  rw [State.markCapture, State.rd_wr_ne _ _ hD, State.rd_wr64_ne _ _ h8 hC, State.rd_wr64_ne _ _ h0 h4]

theorem State.markCapture_htick (s : State) : s.markCapture.rd64 0x20C0 = s.htick := by
  have hlater : ∀ k, k = 0x20C0 ∨ k = 0x20C4 → s.markCapture.rd k = (s.wr64 0x20C0 s.htick).rd k := fun k hk => by
    rw [State.markCapture, State.rd_wr_ne _ _ (by omega), State.rd_wr64_ne _ _ (by omega) (by omega)]
  rw [State.rd64_congr (hlater _ (.inl rfl)) (hlater _ (.inr rfl)), State.rd64_wr64_self]

theorem State.markCapture_tick (s : State) : s.markCapture.rd64 0x20C8 = s.mach.tick.setWidth 64 := by
  have hlater : ∀ k, k ≠ 0x20D0 →
      s.markCapture.rd k = ((s.wr64 0x20C0 s.htick).wr64 0x20C8 (s.mach.tick.setWidth 64)).rd k := fun k hk => by
    rw [State.markCapture, State.rd_wr_ne _ _ hk]
  rw [State.rd64_congr (hlater _ (by decide)) (hlater _ (by decide)), State.rd64_wr64_self]

theorem State.markCapture_turn (s : State) : s.markCapture.rd 0x20D0 = s.mach.turn := by
  rw [State.markCapture, State.rd_wr_self]

/-- The first MARK of an enabled domain. -/
theorem State.markIn_none {s : State} (hst : s.mach.st = .none) (hen : s.machEn = true) (hpr : s.mach.present = true) :
    s.markIn = { s with mach := { s.mach with
      st := .acquiring, tit := 0, run := 0, turns := [], marked := true, markEdges := 0, markAt := s.htick
      markGap := false } } := by
  simp only [State.markIn, hst, hen, hpr, Bool.and_self, if_true, State.markStart, Bool.not_true]

theorem State.markIn_locked {s : State} (hst : s.mach.st = .locked) : s.markIn = s.markLocked := by
  simp only [State.markIn, hst]

/-- A MARK away from every wrap is bad. -/
theorem State.markLocked_bad {s : State} (hlo : s.markTol < s.mach.tit) (hhi : s.markTol + s.mach.tit < s.turnLen) :
    s.markLocked = (s.incSat 0x2014 16 16).phsFault 6 := by
  unfold State.markLocked
  simp only [if_neg (show ¬s.mach.tit ≤ s.markTol by omega), if_neg (show ¬s.turnLen - s.mach.tit ≤ s.markTol by omega)]

theorem State.phsFault_incSat_form (s : State) (k lo w b : Nat) : ∃ R T I, (s.incSat k lo w).phsFault b = { s with
    regs := R, tickSet := T, tickInc := I, reports := s.reports ++ [⟨0x401, b, s.htick⟩] } := ⟨_, _, _, rfl⟩

theorem State.machLoad_off {s : State} (h : s.mach.load = .off) : s.machLoad = s := by
  simp only [State.machLoad, h, Bool.false_eq_true, if_false]

/-- A good MARK at or after the wrap, with no load armed, leaves the counters alone. -/
theorem State.markLocked_good {s : State} (htol : s.mach.tit ≤ s.markTol) (hload : s.mach.load = .off) :
    ∃ m : Mach, s.markLocked = { s with
        mach := m, regs := (s.wf 0x2018 24 8 (BitVec.ofInt 8 s.mach.tit).toNat).regs
        launched := s.launched ++ [⟨0x940, s.htick⟩] }
      ∧ m.st = s.mach.st ∧ m.tick = s.mach.tick ∧ m.turn = s.mach.turn ∧ m.tit = s.mach.tit ∧ m.marked = true
      ∧ m.markAt = s.htick := by
  unfold State.markLocked
  simp only [if_pos htol]
  split
  · rw [State.machLoad_off (by exact hload)]
    exact ⟨_, rfl, rfl, rfl, rfl, rfl, rfl, rfl⟩
  · rw [State.machLoad_off (by exact hload)]
    exact ⟨_, rfl, rfl, rfl, rfl, rfl, rfl, rfl⟩

/-- mark_tol has two bits. -/
theorem State.markTol_lt (s : State) : s.markTol < 4 := bits_lt _ 3 2

theorem toNat_ofInt_natCast {w n : Nat} (h : n < 2 ^ w) : (BitVec.ofInt w n).toNat = n := by
  rw [BitVec.ofInt_natCast, BitVec.toNat_ofNat, Nat.mod_eq_of_lt h]

/-! ### Losses (R194, R197, R198) -/

section machLost
variable (s : State) (tgt : DomSt) (cause : Nat)

theorem State.machLost_form (m : Mach) : ∃ R T, { s with mach := m }.machLost tgt cause = { s with
    mach := { m with st := tgt, cause := cause, holdAt := s.htick, holdMs := s.rf 0x2008 0 16, marked := false, run := 0 }
    regs := R, tickSet := T
    tickInc := if tgt = .holdover then ⟨0x2014, 0, 8, 1, false⟩ :: s.tickInc else s.tickInc
    launched := s.launched ++ [⟨0x943, s.htick⟩], reports := s.reports ++ [⟨0x401, 0, s.htick⟩] } := by
  rw [State.machLost_eq]
  exact State.noteLoss_eq ..

theorem State.bit_machLost : bit ((s.machLost tgt cause).rd 0x2010) 0 = true := by
  rw [State.machLost_eq, State.bit_noteLoss _ _ _ _ _ (by decide)]
  rfl

theorem State.rd_machLost_ne {k : Nat} (h0 : k ≠ 0x2010) (h1 : tgt = .holdover → k ≠ 0x2014) :
    (s.machLost tgt cause).rd k = s.rd k := by
  rw [State.machLost_eq, State.rd_noteLoss_ne _ _ _ _ _ h0 h1]
  rfl

theorem State.rf_machLost_holdover : (s.machLost .holdover cause).rf 0x2014 0 8 = min (s.rf 0x2014 0 8 + 1) 255 := by
  rw [State.machLost_eq, State.rf_noteLoss_holdover _ _ _ _ (by decide)]
  rfl

end machLost

theorem State.mclkGone_acquiring {s : State} (hst : s.mach.st = .acquiring) :
    s.mclkGone = { s with mach := { s.mach with present := false, markGap := true } }.machLost .none 2 := by
  unfold State.mclkGone
  simp only [hst, if_true]

/-- In LOCKED the loss of MCLK leads to HOLDOVER after the flywheel's fill, which alarms may follow (R198, R207). -/
theorem State.mclkGone_locked {s : State} (hst : s.mach.st = .locked) :
    ∃ m : Mach, m.present = false ∧ s.mclkGone.AlarmsRan ({ s with mach := m }.machLost .holdover
      (if 2 * s.turnLen + s.markTol ≤ (s.mach.tick - s.mach.goodAt).toNat then 3 else 2)) := by
  unfold State.mclkGone
  simp only [hst, reduceCtorEq, if_false, if_true, true_or, decide_eq_true_eq]
  exact ⟨_, rfl, State.alarmsRan_almFill _ _⟩

/-- The domain after such a loss, for MCLK alone. -/
theorem State.mclkGone_loss {s : State} (hst : s.mach.st = .locked)
    (hgood : (s.mach.tick - s.mach.goodAt).toNat < 2 * s.turnLen + s.markTol) :
    s.mclkGone.mach.st = .holdover ∧ s.mclkGone.mach.cause = 2 ∧ s.mclkGone.mach.present = false
      ∧ s.mclkGone.mach.holdAt = s.htick ∧ s.mclkGone.mach.holdMs = s.rf 0x2008 0 16 ∧ s.mclkGone.mach.run = 0
      ∧ s.mclkGone.rf 0x2014 0 8 = min (s.rf 0x2014 0 8 + 1) 255 ∧ ⟨0x401, 0, s.htick⟩ ∈ s.mclkGone.reports := by
  obtain ⟨m, hpr, hran⟩ := State.mclkGone_locked hst
  rw [if_neg (by omega)] at hran
  obtain ⟨R, T, hform⟩ := s.machLost_form .holdover 2 m
  have hcount := State.rf_machLost_holdover { s with mach := m } 2
  rw [hform] at hran hcount
  rw [hran.mach]
  exact ⟨rfl, rfl, hpr, rfl, rfl, rfl, (congrArg (bits · 0 8) (hran.rd 0x2014 (by decide) (by decide))).trans hcount,
    hran.mem_reports (List.mem_append_right _ List.mem_cons_self)⟩

/-- After it the domain is still usable, and nothing has changed that another unit sees of it. -/
theorem State.mclkGone_locked_rest {s : State} (hst : s.mach.st = .locked) :
    s.mclkGone.mach.st.usable = true ∧ s.mclkGone.mains = s.mains ∧ s.mclkGone.cal = s.cal ∧ s.mclkGone.link = s.link
      ∧ s.mclkGone.cel = s.cel := by
  obtain ⟨m, _, hran⟩ := State.mclkGone_locked hst
  obtain ⟨R, T, hform⟩ := s.machLost_form .holdover
    (if 2 * s.turnLen + s.markTol ≤ (s.mach.tick - s.mach.goodAt).toNat then 3 else 2) m
  rw [hform] at hran
  exact ⟨congrArg (·.st.usable) hran.mach, hran.mains, hran.cal, hran.link, hran.cel⟩

theorem State.markLossDue_of {s : State} (hst : s.mach.st = .locked)
    (hlate : 2 * s.turnLen + s.markTol ≤ (s.mach.tick - s.mach.goodAt).toNat) : s.markLossDue = true := by
  simp only [State.markLossDue, hst, beq_self_eq_true, Bool.true_and, decide_eq_true_eq]
  exact hlate

/-- A domain that is switched off is not usable. -/
theorem State.machOff_domUsable (s : State) {d : Nat} (h : s.machOff.domUsable d = true) : s.domUsable d = true := by
  unfold State.domUsable at h ⊢
  by_cases hd : d = 0
  · rw [if_pos hd] at h; cases h
  · rw [if_neg hd] at h ⊢; exact h

/-! ### Time-outs (R197, R204) -/

/-- `u` follows `a` by changes of the two domains' states: only they, registers and outboxes differ, and no flag and no report
is lost. -/
structure State.DomainsMoved (u a : State) : Prop where
  rest : { u with mach := a.mach, mains := a.mains, regs := a.regs, tickSet := a.tickSet, tickInc := a.tickInc,
                  launched := a.launched, reports := a.reports } = a
  flags : ∀ i < 32, bit (a.rd 0x2010) i = true → bit (u.rd 0x2010) i = true
  reports : a.reports <+: u.reports

namespace State.DomainsMoved
variable {u a : State}

theorem refl (a : State) : a.DomainsMoved a := ⟨rfl, fun _ _ h => h, List.prefix_rfl⟩

theorem trans {w : State} (h : w.DomainsMoved u) (h' : u.DomainsMoved a) : w.DomainsMoved a where
  rest := by
    have := congrArg (fun x : State => { x with
      mach := a.mach, mains := a.mains, regs := a.regs, tickSet := a.tickSet, tickInc := a.tickInc
      launched := a.launched, reports := a.reports }) h.rest
    exact Eq.trans this h'.rest
  flags i hi hb := h.flags i hi (h'.flags i hi hb)
  reports := h'.reports.trans h.reports

theorem htick (h : u.DomainsMoved a) : u.htick = a.htick := congrArg (fun x => x.htick) h.rest
theorem cal (h : u.DomainsMoved a) : u.cal = a.cal := congrArg (fun x => x.cal) h.rest
theorem link (h : u.DomainsMoved a) : u.link = a.link := congrArg (fun x => x.link) h.rest
theorem cel (h : u.DomainsMoved a) : u.cel = a.cel := congrArg (fun x => x.cel) h.rest
theorem since (h : u.DomainsMoved a) (t : DWord) : u.since t = a.since t := by rw [State.since, State.since, h.htick]

end State.DomainsMoved

/-- A domain that moves to another state with its flag, report and event. -/
theorem State.domainsMoved_noteLoss (a : State) (m : Mach) (m' : Mains) (tgt : DomSt) (lo b p : Nat) :
    ({ a with mach := m, mains := m' }.noteLoss tgt lo b p).DomainsMoved a where
  rest := by
    obtain ⟨R, T, h⟩ := State.noteLoss_eq { a with mach := m, mains := m' } tgt lo b p
    rw [h]
  flags i hi hb := by
    rw [State.bit_noteLoss _ _ _ _ _ hi, Bool.or_eq_true]
    exact .inr hb
  reports := by
    obtain ⟨R, T, h⟩ := State.noteLoss_eq { a with mach := m, mains := m' } tgt lo b p
    rw [h]
    exact List.prefix_append ..

section timeouts
variable (s : State)

theorem State.machFrozen_eq : s.machFrozen =
    if s.mach.st = .holdover ∧ 500000 * s.mach.holdMs ≤ s.since s.mach.holdAt then
      { s with mach := { s.mach with st := .frozen } }.noteLoss .frozen 0 1 0x944
    else s := rfl

theorem State.mainsFrozen_eq : s.mainsFrozen =
    if s.mains.st = .holdover ∧ 500000 * s.mains.holdMs ≤ s.since s.mains.holdAt then
      { s with mains := { s.mains with st := .frozen } }.noteLoss .frozen 0 4 0x947
    else s := rfl

theorem State.domainsMoved_machFrozen : s.machFrozen.DomainsMoved s := by
  rw [State.machFrozen_eq]
  split
  · exact s.domainsMoved_noteLoss _ s.mains _ _ _ _
  · exact .refl s

theorem State.domainsMoved_mainsFrozen : s.mainsFrozen.DomainsMoved s := by
  rw [State.mainsFrozen_eq]
  split
  · exact s.domainsMoved_noteLoss s.mach _ _ _ _ _
  · exact .refl s

theorem State.domainsMoved_machNoTurn : s.machNoTurn.DomainsMoved s := by
  unfold State.machNoTurn
  split
  · exact s.domainsMoved_noteLoss _ s.mains _ _ _ _
  · exact .refl s

theorem State.mainsNoCycle_cases :
    (s.mains.st = .acquiring ∧ s.mainsNoCycle = s.mainsLost .none) ∨ s.mainsNoCycle = s := by
  unfold State.mainsNoCycle
  generalize 2 * (if s.mains.lastPer = 0 then 11111000 else s.mains.lastPer) = wait
  split
  next h => exact .inl ⟨h.1, rfl⟩
  next => exact .inr rfl

theorem State.domainsMoved_mainsNoCycle : s.mainsNoCycle.DomainsMoved s := by
  obtain ⟨_, h⟩ | h := s.mainsNoCycle_cases <;> rw [h]
  · exact s.domainsMoved_noteLoss s.mach _ _ _ _ _
  · exact .refl s

/-! Each time-out moves its own domain alone; a frozen domain is not usable, and one that acquires is not either. -/

theorem State.machFrozen_mains : s.machFrozen.mains = s.mains := by unfold State.machFrozen; split <;> rfl
theorem State.mainsFrozen_mach : s.mainsFrozen.mach = s.mach := by unfold State.mainsFrozen; split <;> rfl
theorem State.machNoTurn_mains : s.machNoTurn.mains = s.mains := by unfold State.machNoTurn; split <;> rfl

theorem State.mainsNoCycle_mach : s.mainsNoCycle.mach = s.mach := by
  obtain ⟨_, h⟩ | h := s.mainsNoCycle_cases
  · rw [h]; rfl
  · rw [h]

theorem State.machFrozen_usable (h : s.machFrozen.mach.st.usable = true) : s.mach.st.usable = true := by
  unfold State.machFrozen at h
  split at h
  · cases h
  · exact h

theorem State.mainsFrozen_usable (h : s.mainsFrozen.mains.st.usable = true) : s.mains.st.usable = true := by
  unfold State.mainsFrozen at h
  split at h
  · cases h
  · exact h

/-- The end of holdover makes no domain usable. -/
theorem State.frozen_domUsable {d : Nat} (h : s.machFrozen.mainsFrozen.domUsable d = true) : s.domUsable d = true := by
  unfold State.domUsable at h ⊢
  by_cases hd : d = 0
  · rw [if_pos hd, State.mainsFrozen_mach] at h
    rw [if_pos hd]
    exact s.machFrozen_usable h
  · rw [if_neg hd] at h
    rw [if_neg hd, ← s.machFrozen_mains]
    exact s.machFrozen.mainsFrozen_usable h

theorem State.machNoTurn_usable : s.machNoTurn.mach.st.usable = s.mach.st.usable := by
  unfold State.machNoTurn
  split
  next h => rw [h.1]; rfl
  next => rfl

theorem State.mainsNoCycle_usable : s.mainsNoCycle.mains.st.usable = s.mains.st.usable := by
  obtain ⟨hst, h⟩ | h := s.mainsNoCycle_cases
  · rw [h, hst]; rfl
  · rw [h]

end timeouts

/-! What each time-out does where it is due. -/

theorem State.machFrozen_due {s : State} (hst : s.mach.st = .holdover) (hdue : 500000 * s.mach.holdMs ≤ s.since s.mach.holdAt) :
    s.machFrozen.mach = { s.mach with st := .frozen } ∧ bit (s.machFrozen.rd 0x2010) 1 = true := by
  rw [State.machFrozen_eq, if_pos ⟨hst, hdue⟩, State.bit_noteLoss _ _ _ _ _ (by decide)]
  exact ⟨rfl, rfl⟩

theorem State.mainsFrozen_due {s : State} (hst : s.mains.st = .holdover)
    (hdue : 500000 * s.mains.holdMs ≤ s.since s.mains.holdAt) :
    s.mainsFrozen.mains = { s.mains with st := .frozen } ∧ bit (s.mainsFrozen.rd 0x2010) 4 = true := by
  rw [State.mainsFrozen_eq, if_pos ⟨hst, hdue⟩, State.bit_noteLoss _ _ _ _ _ (by decide)]
  exact ⟨rfl, rfl⟩

theorem State.machNoTurn_due {s : State} (hst : s.mach.st = .acquiring) (hdue : 2 * s.turnLen ≤ s.mach.markEdges) :
    s.machNoTurn.mach = { s.mach with
        st := .none, cause := 1, holdAt := s.htick, holdMs := s.rf 0x2008 0 16, marked := false, run := 0 }
      ∧ bit (s.machNoTurn.rd 0x2010) 0 = true ∧ ⟨0x401, 0, s.htick⟩ ∈ s.machNoTurn.reports := by
  have h : s.machNoTurn = s.machLost .none 1 := if_pos ⟨hst, hdue⟩
  rw [h]
  exact ⟨rfl, State.bit_machLost .., List.mem_append_right _ List.mem_cons_self⟩

theorem State.mainsNoCycle_due {s : State} (hst : s.mains.st = .acquiring) (hper : s.mains.lastPer ≠ 0)
    (hdue : 2 * s.mains.lastPer ≤ s.since s.mains.edgeAt) :
    s.mainsNoCycle.mains.st = .none ∧ bit (s.mainsNoCycle.rd 0x2010) 3 = true := by
  have h : s.mainsNoCycle = s.mainsLost .none := if_pos ⟨hst, by rw [if_neg hper]; exact hdue⟩
  rw [h, State.mainsLost_eq, State.bit_noteLoss _ _ _ _ _ (by decide)]
  exact ⟨rfl, rfl⟩

/-! ### O33 -/

/-- Settles O33, one row of the transition table (R197) or of R192 at a time: the commands of MARK and MCLK by what they do in
the domain's state, the time-outs by what either domain leaves of the other, every loss by what it leaves of the Phase block. -/
theorem machineDomainTransitions : Obligations.MachineDomainTransitions := by
  unfold Obligations.MachineDomainTransitions
  intro s a dt ha hcalm
  rw [exec_markAccepted, exec_mclkMissing, exec_mclkPresent, exec_markLoss, exec_holdoverExpired, exec_acquireTimeout,
    exec_machEnClear]
  refine ⟨fun hst hen hpr => ?_, fun hst hload htol => ?_, fun hst hlo hhi => ?_, fun hst => ?_, fun hst hpr => ?_,
    fun hpr => ?_, fun hst hlate => ?_, ?_, ?_, fun hc => ?_⟩
  -- MARK_ACCEPTED in NONE
  · have hin := State.markIn_none hst hen hpr
    obtain ⟨R, hcap⟩ := State.markCapture_form _
    refine ⟨_, State.live_usable ha hcalm (congrArg State.markCapture hin) ?_, rfl, State.markCapture_htick _,
      State.markCapture_tick _, State.markCapture_turn _, fun k hk => State.rd_markCapture_ne _ hk, by rw [hcap]⟩
    rw [hst]; rfl
  -- a good MARK in LOCKED
  · obtain ⟨m, hm, hmst, hmtick, hmturn, hmtit, hmmarked, hmat⟩ := State.markLocked_good htol hload
    have hin := (State.markIn_locked hst).trans hm
    obtain ⟨R, hcap⟩ := State.markCapture_form _
    refine ⟨_, State.live_usable ha hcalm (congrArg State.markCapture hin) (congrArg DomSt.usable hmst),
      hmst.trans hst, hmtick, hmturn, hmtit, hmmarked, hmat, ?_, rfl, State.markCapture_htick _, fun k hk => ?_, by rw [hcap]⟩
    · have htit : a.mach.tit < 2 ^ 8 := by have := a.markTol_lt; omega
      rw [State.rf, State.rd_markCapture_ne _ (by decide)]
      exact (a.rf_wf 0x2018 24 8 _ (by decide)).trans (by rw [toNat_ofInt_natCast htit, Nat.mod_eq_of_lt htit])
    · obtain ⟨h18, hcap⟩ := not_or.mp (fun h => hk (List.mem_cons.mpr h))
      exact (State.rd_markCapture_ne _ hcap).trans (a.rd_wr_ne _ h18)
  -- a bad MARK in LOCKED
  · have hin := (State.markIn_locked hst).trans (State.markLocked_bad hlo hhi)
    obtain ⟨R, T, I, hbad⟩ := a.phsFault_incSat_form 0x2014 16 16 6
    obtain ⟨R', hcap⟩ := State.markCapture_form ((a.incSat 0x2014 16 16).phsFault 6)
    have hu : a.markIn.markCapture = { a with
        regs := R', tickSet := T, tickInc := I, reports := a.reports ++ [⟨0x401, 6, a.htick⟩] } := by
      rw [hin, hcap, hbad]
    refine ⟨_, State.live_usable ha hcalm hu rfl, rfl, ?_, ?_, rfl, ?_, rfl⟩
    all_goals rw [← hu, hin]
    · rw [State.rd_markCapture_ne _ (by decide), State.bit_phsFault _ _ (by decide)]
      rfl
    · rw [State.rf, State.rd_markCapture_ne _ (by decide), State.rd_phsFault_ne _ _ (by decide)]
      exact a.rf_incSat 0x2014 16 16 (by decide)
    · exact State.markCapture_htick _
  -- MCLK_MISSING in LOCKED
  · by_cases hpr : a.mach.present = true
    · obtain ⟨husable, hmains, hcal, hlink, hcel⟩ := State.mclkGone_locked_rest hst
      refine ⟨_, State.live_usable ha hcalm (if_pos hpr) (by rw [husable, hst]; rfl) (by rw [hmains]) hcal hlink hcel,
        fun _ hgood => ?_⟩
      rw [List.contains_iff_mem]
      exact State.mclkGone_loss hst hgood
    · exact ⟨a, State.live_usable ha hcalm (if_neg hpr) rfl, fun h => absurd h hpr⟩
  -- MCLK_MISSING in ACQUIRING
  · have hin := State.mclkGone_acquiring hst
    obtain ⟨R, T, hform⟩ := a.machLost_form .none 2 { a.mach with present := false, markGap := true }
    refine ⟨_, State.live_usable ha hcalm ((if_pos hpr).trans (hin.trans hform)) ?_, rfl, ?_, rfl, rfl, fun k hk => ?_, rfl⟩
    · rw [hst]; rfl
    · rw [← hform]; exact State.bit_machLost ..
    · rw [← hform]; exact State.rd_machLost_ne _ _ _ hk nofun
  -- MCLK_PRESENT
  · exact State.live_usable ha hcalm (if_neg (by rw [hpr]; exact Bool.false_ne_true)) rfl
  -- MARK_LOSS
  · obtain ⟨R, T, hform⟩ := a.machLost_form .holdover 1 a.mach
    have hlost : (if a.markLossDue then a.machLost .holdover 1 else a) = _ :=
      (if_pos (State.markLossDue_of hst hlate)).trans hform
    refine ⟨_, State.live_usable ha hcalm hlost ?_, rfl, ?_, ?_, rfl, rfl, fun k h0 h4 => ?_, rfl⟩
    · rw [hst]; rfl
    · rw [← hform]; exact State.bit_machLost ..
    · rw [← hform]; exact State.rf_machLost_holdover ..
    · rw [← hform]; exact State.rd_machLost_ne _ _ _ h0 (fun _ => h4)
  -- HOLDOVER_EXPIRED
  · have hmoved := a.machFrozen.domainsMoved_mainsFrozen
    have hall := hmoved.trans a.domainsMoved_machFrozen
    obtain ⟨w, hw, hview⟩ := State.live_lost (f := fun s => s.machFrozen.mainsFrozen) ha hcalm rfl (fun _ => a.frozen_domUsable)
      hall.cal hall.link hall.cel
    obtain ⟨hmach, hmains, _⟩ := State.phaseView_fields hview
    refine ⟨w, hw, fun hst hdue => ?_, fun hst hdue => ?_⟩
    · obtain ⟨hfrozen, hflag⟩ := State.machFrozen_due hst hdue
      rw [hmach, State.phaseView_rd hview (by decide), State.mainsFrozen_mach]
      exact ⟨hfrozen, hmoved.flags 1 (by decide) hflag⟩
    · have hmains0 := a.machFrozen_mains
      rw [hmains, State.phaseView_rd hview (by decide)]
      rw [← hmains0] at hst hdue ⊢
      exact State.mainsFrozen_due hst (by rwa [a.domainsMoved_machFrozen.since])
  -- ACQUIRE_TIMEOUT
  · have hmoved := a.machNoTurn.domainsMoved_mainsNoCycle
    have hfirst := a.domainsMoved_machNoTurn
    have hall := hmoved.trans hfirst
    refine ⟨_, State.live_usable ha hcalm rfl ?_ ?_ hall.cal hall.link hall.cel, fun hst hdue => ?_, fun hst hper hdue => ?_⟩
    · rw [State.mainsNoCycle_mach, State.machNoTurn_usable]
    · rw [State.mainsNoCycle_usable, State.machNoTurn_mains]
    · obtain ⟨hlost, hflag, hrep⟩ := State.machNoTurn_due hst hdue
      rw [State.mainsNoCycle_mach, List.contains_iff_mem]
      exact ⟨hlost, hmoved.flags 0 (by decide) hflag, hmoved.reports.subset hrep⟩
    · rw [← a.machNoTurn_mains] at hst hper hdue
      exact State.mainsNoCycle_due hst hper (by rwa [hfirst.since])
  -- MACH_EN_CLEAR
  · obtain ⟨w, hw, hview⟩ := State.live_lost (f := fun s => if s.committed then (s.wb 0x2000 0 false).machOff else s) ha hcalm
      (if_pos hc) (fun _ => State.machOff_domUsable _)
    obtain ⟨hmach, hmains, _⟩ := State.phaseView_fields hview
    refine ⟨w, hw, hmach, ?_, hmains⟩
    rw [State.phaseView_rd hview (by decide)]
    exact (congrArg (bit · 0) (a.rd_wr_self 0x2000 _)).trans (bit_putBit _ 0 0 false (by decide))

end Sys2Proof.Machine
end

section
/-!
PROOFS. The snapshot group (chapter 06, R212) and the statement on loads and captures, which fails for want of a bound.
-/

namespace Sys2Proof.Machine

/-- A snapshot writes registers and nothing else. -/
theorem State.snapshot_form (s : State) : ∃ R, s.snapshot = { s with regs := R } := by
  unfold State.snapshot
  simp only [State.wr64, State.wr]
  exact ⟨_, rfl⟩

/-- The snapshot's word of tick-in-turn (bits 19 to 0) and snap_count (bits 31 to 24): a sum, in which a tick-in-turn beyond
its field carries into the count. -/
theorem State.rd_snapshot_turn (s : State) :
    s.snapshot.rd 0x2094 = BitVec.ofNat 32 (s.mach.tit + 2 ^ 24 * ((s.rf 0x2094 24 8 + 1) % 256)) := by
  have hcount : ((((s.wr64 0x2080 s.htick).wr64 0x2088 (s.mach.tick.setWidth 64)).wr 0x2090 s.mach.turn).rf 0x2094 24 8)
      = s.rf 0x2094 24 8 := by
    rw [State.rf, State.rd_wr_ne _ _ (by decide), State.rd_wr64_ne _ _ (by decide) (by decide),
      State.rd_wr64_ne _ _ (by decide) (by decide)]
    rfl
  unfold State.snapshot
  dsimp only
  rw [State.rd_wr_ne _ _ (by decide), State.rd_wr64_ne _ _ (by decide) (by decide), State.rd_wr_ne _ _ (by decide),
    State.rd_wr_ne _ _ (by decide), State.rd_wr_self]
  exact congrArg (fun n => BitVec.ofNat 32 (s.mach.tit + 2 ^ 24 * ((n + 1) % 256))) hcount

/-- That word after an event at ti_phs_snap. -/
theorem rd_snapTurn_of_tiPhsSnap {s a u : State} {dt : Elapse} (ha : s.advance dt = a) (hcalm : a.calm)
    (hu : exec (.tiPhsSnap dt) s = .next u.settle) :
    u.rd 0x2094 = BitVec.ofNat 32 (a.mach.tit + 2 ^ 24 * ((a.rf 0x2094 24 8 + 1) % 256)) := by
  obtain ⟨R, hform⟩ := (a.tiTake 0x180).snapshot_form
  have hturn := (a.tiTake 0x180).rd_snapshot_turn
  rw [hform] at hturn
  have hw : execTiPhsSnap dt s = .next (State.settle { a.tiTake 0x180 with regs := R }) := State.live_to ha hcalm hform
  rw [exec_tiPhsSnap, hw] at hu
  have hregs := congrArg State.regs (Host.Outcome.next.inj hu)
  rw [State.settle_regs, State.settle_regs] at hregs
  exact (State.rd_congr hregs.symm 0x2094).trans hturn

/-- A state whose tick-in-turn is one more than 24 bits hold. -/
def overlongTurn : State := { mach := { tit := 2 ^ 24 } }

/-- Refutes O34: the snapshot adds tick-in-turn to snap_count × 2^24 without cutting it to its 20 bits, and the clause on snap_count
does not assume that it fits, as the clause on tick-in-turn does. From the state `overlongTurn`, which no run from reset reaches,
TI_PHS_SNAP leaves snap_count at 2 instead of 1. -/
theorem not_loadsAndTimeCaptures : ¬ Obligations.LoadsAndTimeCaptures := by
  unfold Obligations.LoadsAndTimeCaptures
  intro h
  have hcalm : (overlongTurn.advance ⟨0, 0⟩).calm := by decide
  obtain ⟨_, hsnap, _⟩ := h overlongTurn _ ⟨0, 0⟩ rfl hcalm
  obtain ⟨u, hu, _, _, _, hcount, _⟩ := hsnap (.tiPhsSnap ⟨0, 0⟩) (.inr rfl)
  have htit : (overlongTurn.advance ⟨0, 0⟩).mach.tit = 2 ^ 24 := by decide
  have hbefore : (overlongTurn.advance ⟨0, 0⟩).rf 0x2094 24 8 = 0 := by decide
  rw [State.rf, rd_snapTurn_of_tiPhsSnap rfl hcalm hu, htit, hbefore] at hcount
  exact absurd hcount (by decide)

end Sys2Proof.Machine
end

section
/-!
PROOFS. The mains domain (chapter 06): its edges and its loss.
-/

namespace Sys2Proof.Machine

/-! ### MAINS_EDGE (R202, R203) -/

/-- At the tick for which it is stored, the position is the stored one. -/
theorem Mains.at_posAt (m : Mains) : m.at_ m.posAt = m.pos := by
  unfold Mains.at_
  split
  · simp
  · rfl

theorem State.mainsEdgeIn_early {s : State} (hed : s.mains.edged = true) (hper : s.since s.mains.edgeAt < 2000000) :
    s.mainsEdgeIn = s := by
  unfold State.mainsEdgeIn
  simp only [hed, hper, decide_true, Bool.and_self, Bool.or_true, if_true]

theorem State.mainsEdgeIn_first {s : State} (hen : s.mainsEn = true) (hed : s.mains.edged = false) (hst : s.mains.st = .none) :
    s.mainsEdgeIn = { s with mains := { s.mains with
      st := .acquiring, pos := BitVec.ofNat 48 (s.mains.pos.toNat / 65536 * 65536), posAt := s.htick, run := 0, periods := []
      edged := true, edgeAt := s.htick, lastPer := 0 } } := by
  unfold State.mainsEdgeIn
  simp only [hen, hed, hst, Bool.not_true, Bool.false_and, Bool.or_self, Bool.false_eq_true, if_false]

/-- An edge in LOCKED whose period keeps the domain there: the step or the flag first, then the edge is recorded. -/
theorem State.mainsEdgeIn_locked {s : State} (hen : s.mainsEn = true) (hst : s.mains.st = .locked) (hed : s.mains.edged = true)
    (hlo : 7692500 ≤ s.since s.mains.edgeAt) (hhi : s.since s.mains.edgeAt ≤ 11111000) {t : State}
    (ht : (if decide ((s.mainsPos s.htick).toNat % 65536 ≤ 0xCCC) || decide (65536 - 0xCCC ≤ (s.mainsPos s.htick).toNat % 65536)
      then (s.mainsStep.launch 0x941).almSweep 1 true else s.phsFault 7) = t) :
    ∃ run periods, s.mainsEdgeIn = { t with mains := { t.mains with
      pos := t.mainsPos t.htick, posAt := t.htick, edged := true, edgeAt := t.htick, lastPer := s.since s.mains.edgeAt
      run := run, periods := periods } } := by
  unfold State.mainsEdgeIn
  have hper : perOk (s.since s.mains.edgeAt) = true := by simp [perOk, hlo, hhi]
  have hlate : decide (s.since s.mains.edgeAt < 2000000) = false := decide_eq_false (by omega)
  simp only [hen, hst, hed, ht, hper, hlate, Bool.not_true, Bool.and_false, Bool.or_self, Bool.false_eq_true, if_false, if_true]
  exact ⟨_, _, rfl⟩

/-- The step of a good edge after the wrap: back to it, in the same cycle. -/
theorem State.mainsStep_low {s : State} (hlow : (s.mainsPos s.htick).toNat % 65536 ≤ 0xCCC) :
    s.mainsStep = { s with mains := { s.mains with
        pos := BitVec.ofNat 48 ((s.mainsPos s.htick).toNat / 65536 * 65536), posAt := s.htick
        goodCyc := (BitVec.ofNat 48 ((s.mainsPos s.htick).toNat / 65536 * 65536)).toNat / 65536 } }.wf 0x201C 0 16
      (BitVec.ofInt 16 (-((s.mainsPos s.htick).toNat % 65536 : Nat))).toNat := by
  unfold State.mainsStep
  have hup : decide (32768 ≤ (s.mainsPos s.htick).toNat % 65536) = false := decide_eq_false (by omega)
  simp only [hup, Bool.false_eq_true, if_false, Nat.add_zero]

theorem toNat_ofInt_neg {n : Nat} (h : n < 65536) : (BitVec.ofInt 16 (-(n : Int))).toNat = (65536 - n) % 65536 := by
  rw [BitVec.toNat_ofInt]
  omega

/-- A good edge after the wrap follows the step and its event, by alarms and the record of the edge. -/
theorem State.mainsEdgeIn_good {s : State} (hen : s.mainsEn = true) (hst : s.mains.st = .locked) (hed : s.mains.edged = true)
    (hlo : 7692500 ≤ s.since s.mains.edgeAt) (hhi : s.since s.mains.edgeAt ≤ 11111000)
    (hlow : (s.mainsPos s.htick).toNat % 65536 ≤ 0xCCC) :
    ∃ (t : State) (run : Nat) (periods : List Nat), t.AlarmsRan (s.mainsStep.launch 0x941) ∧
      s.mainsEdgeIn = { t with mains := { s.mainsStep.mains with
        edged := true, edgeAt := s.htick, lastPer := s.since s.mains.edgeAt, run := run, periods := periods } } := by
  obtain ⟨run, periods, hedge⟩ := State.mainsEdgeIn_locked hen hst hed hlo hhi (if_pos (by rw [decide_eq_true hlow]; rfl))
  have hran := State.alarmsRan_almSweep (s.mainsStep.launch 0x941) 1 true
  generalize (s.mainsStep.launch 0x941).almSweep 1 true = t at hedge hran
  have hposAt : s.mainsStep.mains.posAt = s.htick := rfl
  have hpos : s.mainsStep.mains.at_ s.htick = s.mainsStep.mains.pos := hposAt ▸ Mains.at_posAt _
  have hmains : t.mains = s.mainsStep.mains := hran.mains
  have htick : t.htick = s.htick := hran.htick
  refine ⟨t, run, periods, hran, hedge.trans (congrArg (fun m => { t with mains := m }) ?_)⟩
  rw [State.mainsPos, hmains, htick, hpos]
  rfl

/-! ### MAINS_LOSS (R204) -/

theorem State.mainsLossDue_of {s : State} (hst : s.mains.st = .locked)
    (hlate : (s.mains.goodCyc + 2) * 65536 + 0xCCC ≤ (s.mainsPos s.htick).toNat) : s.mainsLossDue = true := by
  simp only [State.mainsLossDue, hst, beq_self_eq_true, Bool.true_and, decide_eq_true_eq]
  exact hlate

/-! ### O35 -/

/-- Settles O35: edges by the domain's state, then by the phase at which they find it (R203); the loss as every loss. -/
theorem mainsDomainEdges : Obligations.MainsDomainEdges := by
  unfold Obligations.MainsDomainEdges
  intro s a dt ha hcalm m per p
  rw [exec_mainsEdge, exec_mainsLoss]
  refine ⟨fun hed hper => ?_, fun hen hed hst => ?_, fun hen hst hed hlo hhi => ⟨fun hlow => ?_, fun h0 h1 => ?_⟩,
    fun hst hlate => ?_⟩
  -- an edge less than 4 ms after the last one
  · exact State.live_to ha hcalm (State.mainsEdgeIn_early hed hper)
  -- the first edge
  · exact State.live_usable ha hcalm (State.mainsEdgeIn_first hen hed hst) rfl (by rw [hst]; rfl)
  -- a good edge in LOCKED
  · obtain ⟨t, run, periods, hran, hedge⟩ := State.mainsEdgeIn_good hen hst hed hlo hhi hlow
    rw [State.mainsStep_low hlow] at hran hedge
    have hp := p.isLt
    have hpos : (BitVec.ofNat 48 (p.toNat / 65536 * 65536)).toNat = p.toNat / 65536 * 65536 := by
      rw [BitVec.toNat_ofNat, Nat.mod_eq_of_lt (by omega)]
    refine ⟨_, State.live_usable ha hcalm hedge (congrArg (·.st.usable) hran.mach) rfl hran.cal hran.link hran.cel,
      hst, hpos.trans (by omega), rfl, rfl, rfl, (congrArg (· / 65536) hpos).trans (by omega), ?_,
      List.contains_iff_mem.mpr (hran.mem_launched (List.mem_append_right _ List.mem_cons_self)), hran.mach⟩
    refine (congrArg (bits · 0 16) (hran.rd 0x201C (by decide) (by decide))).trans ?_
    refine (State.rf_wf _ 0x201C 0 16 _ (by decide)).trans ?_
    rw [toNat_ofInt_neg (Nat.mod_lt _ (by decide))]
    exact Nat.mod_eq_of_lt (Nat.mod_lt _ (by decide))
  -- a bad edge in LOCKED
  · have hbad : (decide (p.toNat % 65536 ≤ 0xCCC) || decide (65536 - 0xCCC ≤ p.toNat % 65536)) = false := by
      rw [decide_eq_false (by omega), decide_eq_false (by omega)]; rfl
    obtain ⟨run, periods, hedge⟩ := State.mainsEdgeIn_locked hen hst hed hlo hhi (t := a.phsFault 7)
      (if_neg (by rw [Bool.not_eq_true]; exact hbad))
    obtain ⟨R, T, hform⟩ : ∃ R T, a.phsFault 7 = { a with
      regs := R, tickSet := T, reports := a.reports ++ [⟨0x401, 7, a.htick⟩] } := ⟨_, _, rfl⟩
    rw [hform] at hedge
    refine ⟨_, State.live_usable ha hcalm hedge rfl rfl, hst, rfl, rfl, rfl, ?_, rfl, fun k hk => ?_, rfl⟩
    · have hflag := a.bit_phsFault 7 (i := 7) (by decide)
      rw [hform] at hflag
      exact hflag
    · have hrd := a.rd_phsFault_ne 7 hk
      rw [hform] at hrd
      exact hrd
  -- MAINS_LOSS
  · obtain ⟨R, T, hform⟩ := State.noteLoss_eq { a with mains := { m with
      st := .holdover, pos := p, posAt := a.htick, holdAt := a.htick, holdMs := a.rf 0x2008 16 16, run := 0 } } .holdover 8 3 0x946
    have hlost : (if a.mainsLossDue then a.mainsLost .holdover else a) = _ :=
      (if_pos (State.mainsLossDue_of hst hlate)).trans hform
    refine ⟨_, State.live_usable ha hcalm hlost rfl (by rw [hst]; rfl), rfl, ?_, ?_, rfl, rfl, fun k h0 h4 => ?_, rfl⟩
    all_goals rw [← hform]
    · exact State.bit_noteLoss _ _ _ _ _ (by decide)
    · exact State.rf_noteLoss_holdover _ _ _ _ (by decide)
    · exact State.rd_noteLoss_ne _ _ _ _ _ h0 (fun _ => h4)

end Sys2Proof.Machine
end

section
/-!
PROOFS. Phase alarms (chapter 06): an alarm that fires, and the commands of PHS_ALM_CMD.
-/

namespace Sys2Proof.Machine

/-! ### ALARM_FIRE (R205 to R208) -/

theorem State.almEvent_eq (s : State) (l : Nat) : s.almEvent l = { s with
    launched := if s.launched.contains ⟨0x900 + l, s.htick⟩ then s.launched else s.launched ++ [⟨0x900 + l, s.htick⟩] } := by
  unfold State.almEvent
  split <;> rfl

/-- An internal one-shot alarm that no command has written in this tick fires at its house tick. -/
theorem State.almTry_internal {s : State} {i : Nat} (hold : Tbl.get none s.almOld i = none) (hen : bit (s.alarm i).cfg 0 = true)
    (hdom : bits (s.alarm i).cfg 1 2 = 2) (honce : bit (s.alarm i).cfg 3 = false) (hval : s.htick = (s.alarm i).val) :
    s.almTry i = (s.setAlarm i { s.alarm i with
      cfg := clrBit (s.alarm i).cfg 0, fires := ((s.alarm i).fires + 1) % 65536 }).almEvent (bits (s.alarm i).cfg 4 6) := by
  have husable : s.almUsable (s.alarm i) = true := by simp [State.almUsable, Alarm.domain, hdom]
  have henabled : (s.alarm i).enabled = true := hen
  have hperiodic : (s.alarm i).periodic = false := honce
  have hdomain : (s.alarm i).domain = 2 := hdom
  unfold State.almTry
  simp only [hold, husable, henabled, hperiodic, hdomain, if_pos hval, Bool.not_true, Bool.or_self, Bool.false_eq_true, if_false,
    if_true]
  unfold State.almFire
  simp only [hold, hperiodic, Option.isSome_none, Bool.false_eq_true, if_false]
  rfl

/-- An alarm that is not enabled, or whose domain is not usable, does nothing. -/
theorem State.almTry_idle {s : State} {i : Nat} (hold : Tbl.get none s.almOld i = none)
    (h : bit (s.alarm i).cfg 0 = false ∨ (bits (s.alarm i).cfg 1 2 = 0 ∧ s.mach.st.usable = false) ∨
      (bits (s.alarm i).cfg 1 2 = 1 ∧ s.mains.st.usable = false)) : s.almTry i = s := by
  have hidle : (!(s.alarm i).enabled || !s.almUsable (s.alarm i)) = true := by
    unfold Alarm.enabled State.almUsable Alarm.domain
    obtain hdis | ⟨hdom, huse⟩ | ⟨hdom, huse⟩ := h
    · simp [hdis]
    · simp [hdom, huse]
    · simp [hdom, huse]
  unfold State.almTry
  simp only [hold, hidle, if_true]

/-! ### PHS_ALM_CMD (R211) -/

/-- After the commit, a write of PHS_ALM_CMD runs its command and completes "done". -/
theorem State.hostWrite_almCmd {s : State} (hc : s.committed = true) (p : Path) (v : Word) :
    s.hostWrite p 0x2114 v .clean none = (s.almCmd p v).reply p ⟨0, 0#32⟩ := by
  have hwin : inPantry 0x2114 = false := by decide
  have hrow : regRow 0x2114 = some { off := 0x114, wo := 3 } := rfl
  have hcmd : s.command p 0x2114 v = some (s.almCmd p v, stDone) := rfl
  unfold State.hostWrite State.busWrite State.regWrite
  simp only [State.mayWrite_of_committed hc, hwin, hrow, hcmd, Bool.not_true, Bool.false_eq_true, if_false]
  rfl

/-- The entry staged on path `p`. -/
def State.almStaged (s : State) (p : Path) : Alarm :=
  { cfg := s.rd (pkey p 0x2104), val := s.rd (pkey p 0x210C) ++ s.rd (pkey p 0x2108), per := s.rd (pkey p 0x2110) }

/-- Any other one is stored. -/
theorem State.almWrite_stored {s : State} {p : Path} (h : ¬(bit (s.almStaged p).cfg 0 = true ∧
    bit (s.almStaged p).cfg 3 = false ∧ s.almPassed (s.almStaged p) = true)) :
    s.almWrite p = s.almPut (s.almIdx p) (s.almStaged p) :=
  if_neg (show ¬(bit (s.almStaged p).cfg 0 && !bit (s.almStaged p).cfg 3 && s.almPassed (s.almStaged p)) = true by
    rwa [Bool.and_eq_true, Bool.and_eq_true, Bool.not_eq_true', and_assoc])

theorem State.alarm_almPut (s : State) (i j : Nat) (x : Alarm) : (s.almPut i x).alarm j = if j = i then x else s.alarm j :=
  s.alarm_setAlarm i j x

theorem State.alarm_almMiss (s : State) (i j : Nat) : (s.almMiss i).alarm j =
    if j = i then { s.alarm i with cfg := clrBit (s.alarm i).cfg 0, missed := true } else s.alarm j := s.alarm_setAlarm i j _

/-- A missed alarm has its bit of PHS_ALM_MISS and alm_missed set (R209). -/
theorem State.bit_almMiss (s : State) (i : Nat) :
    bit ((s.almMiss i).rd (0x2200 + 4 * (i / 32))) (i % 32) = true ∧ bit ((s.almMiss i).rd 0x2010) 10 = true := by
  refine ⟨?_, State.bit_phsFault _ 10 (by decide)⟩
  rw [State.almMiss, State.rd_phsFault_ne _ _ (by omega), State.rd_flag, if_pos rfl, bit_putBit _ _ _ _ (Nat.mod_lt _ (by decide)),
    if_pos rfl]

theorem State.almMiss_form (s : State) (i : Nat) : ∃ A R T, s.almMiss i = { s with
    alarms := A, regs := R, tickSet := T, reports := s.reports ++ [⟨0x401, 10, s.htick⟩] } := ⟨_, _, _, rfl⟩

/-- An enabled one-shot alarm written at a position that has passed is missed (R209). -/
theorem State.almWrite_missed {s : State} {p : Path} (hen : bit (s.almStaged p).cfg 0 = true)
    (honce : bit (s.almStaged p).cfg 3 = false) (hpast : s.almPassed (s.almStaged p) = true) :
    let i := s.almIdx p
    (∃ A R T O, s.almWrite p = { s with
      alarms := A, regs := R, tickSet := T, almOld := O, reports := s.reports ++ [⟨0x401, 10, s.htick⟩] })
    ∧ (∀ j, (s.almWrite p).alarm j
        = if j = i then { s.almStaged p with cfg := clrBit (s.almStaged p).cfg 0, missed := true } else s.alarm j)
    ∧ bit ((s.almWrite p).rd (0x2200 + 4 * (i / 32))) (i % 32) = true ∧ bit ((s.almWrite p).rd 0x2010) 10 = true := by
  intro i
  have hwrite : s.almWrite p = (s.almPut i (s.almStaged p)).almMiss i :=
    if_pos (show (bit (s.almStaged p).cfg 0 && !bit (s.almStaged p).cfg 3 && s.almPassed (s.almStaged p)) = true by
      rw [hen, honce, hpast]; rfl)
  rw [hwrite]
  refine ⟨?_, fun j => ?_, State.bit_almMiss _ i⟩
  · obtain ⟨A, R, T, hform⟩ := (s.almPut i (s.almStaged p)).almMiss_form i
    exact ⟨A, R, T, _, hform⟩
  · rw [State.alarm_almMiss, State.alarm_almPut, State.alarm_almPut, if_pos rfl]
    split
    · rfl
    · rfl

theorem halves_append (v : DWord) : halfOf v 1 ++ halfOf v 0 = v := append_halves v

/-- The status word that ALM_READ leaves in PHS_ALM_STAT. -/
theorem almStatus_fields (en missed : Bool) (fires : Nat) :
    let w := BitVec.ofNat 32 (b2n en + 2 * b2n missed + 65536 * fires)
    bits w 16 16 = fires % 65536 ∧ bit w 0 = en ∧ bit w 1 = missed := by
  have hen : b2n en < 2 := by cases en <;> decide
  have hmissed : b2n missed < 2 := by cases missed <;> decide
  refine ⟨?_, ?_, ?_⟩
  · simp only [bits, BitVec.toNat_ofNat]; omega
  · rw [bit_eq, BitVec.getLsbD_ofNat, Nat.testBit_eq_decide_div_mod_eq]
    rw [show (b2n en + 2 * b2n missed + 65536 * fires) / 2 ^ 0 % 2 = b2n en by omega]
    cases en <;> rfl
  · rw [bit_eq, BitVec.getLsbD_ofNat, Nat.testBit_eq_decide_div_mod_eq]
    rw [show (b2n en + 2 * b2n missed + 65536 * fires) / 2 ^ 1 % 2 = b2n missed by omega]
    cases missed <;> rfl

/-- What ALM_READ leaves in the path's registers: the entry and its status. -/
theorem State.rd_almRead (s : State) (p : Path) :
    (s.almRead p).rd (pkey p 0x2104) = (s.alarm (s.almIdx p)).cfg
      ∧ (s.almRead p).rd (pkey p 0x210C) ++ (s.almRead p).rd (pkey p 0x2108) = (s.alarm (s.almIdx p)).val
      ∧ (s.almRead p).rd (pkey p 0x2110) = (s.alarm (s.almIdx p)).per
      ∧ (s.almRead p).rd (pkey p 0x2118) = BitVec.ofNat 32 (b2n (s.alarm (s.almIdx p)).enabled
          + 2 * b2n (s.alarm (s.almIdx p)).missed + 65536 * (s.alarm (s.almIdx p)).fires) := by
  have hkey : ∀ x y, pkey p x = pkey p y ↔ x = y := fun x y => (pkey_injective p).eq_iff
  unfold State.almRead
  simp only [State.rd_wr, hkey, Nat.reduceEqDiff, if_true, if_false, halves_append, and_self]

/-! ### O36 -/

/-- Settles O36: the firing by `almTry`, the path commands by `almCmd`; a write by whether the staged position has passed. -/
theorem alarmsFireAndAreWritten : Obligations.AlarmsFireAndAreWritten := by
  unfold Obligations.AlarmsFireAndAreWritten
  intro s a dt ha hcalm
  refine ⟨fun i hold => ⟨fun hen hdom honce hval => ?_, fun hidle => ?_⟩, fun p hc => ?_⟩
  -- ALARM_FIRE where it is due
  · rw [exec_alarmFire]
    have hfire := (State.almTry_internal hold hen hdom honce hval).trans (State.almEvent_eq _ _)
    refine ⟨_, State.live_to ha hcalm hfire, ?_, rfl, fun j hj => ?_, rfl⟩
    · exact (a.alarm_setAlarm i i _).trans (if_pos rfl)
    · exact (a.alarm_setAlarm i j _).trans (if_neg hj)
  -- ALARM_FIRE of an alarm that is disabled or frozen
  · rw [exec_alarmFire]
    exact State.live_to ha hcalm (State.almTry_idle hold hidle)
  intro i e
  rw [exec_almWrite, exec_almRead, exec_almDisable]
  refine ⟨?_, ?_, ?_⟩
  -- ALM_WRITE
  · have hcmd : a.hostWrite p 0x2114 1#32 .clean none = (a.almWrite p).reply p ⟨0, 0#32⟩ := State.hostWrite_almCmd hc p 1#32
    by_cases hmiss : bit e.cfg 0 = true ∧ bit e.cfg 3 = false ∧ a.almPassed e = true
    · obtain ⟨hen, honce, hpast⟩ := hmiss
      obtain ⟨⟨A, R, T, O, hform⟩, halarm, hbit, hflag⟩ := State.almWrite_missed hen honce hpast
      rw [hform] at hcmd halarm hbit hflag
      refine ⟨_, State.live_to ha hcalm hcmd, rfl, fun j hj => (halarm j).trans (if_neg hj), fun h => ?_,
        fun _ _ _ => ⟨(halarm i).trans (if_pos rfl), hbit, hflag, rfl⟩, rfl⟩
      simp [hen, honce, hpast] at h
    · rw [State.almWrite_stored hmiss] at hcmd
      refine ⟨_, State.live_to ha hcalm hcmd, rfl, fun j hj => ?_, fun _ => ⟨?_, rfl, rfl⟩,
        fun hen honce hpast => absurd ⟨hen, honce, hpast⟩ hmiss, rfl⟩
      · exact (a.alarm_almPut i j e).trans (if_neg hj)
      · exact (a.alarm_almPut i i e).trans (if_pos rfl)
  -- ALM_READ
  · have hcmd : a.hostWrite p 0x2114 2#32 .clean none = (a.almRead p).reply p ⟨0, 0#32⟩ := State.hostWrite_almCmd hc p 2#32
    obtain ⟨hcfg, hval, hper, hstat⟩ := a.rd_almRead p
    obtain ⟨hfires, hen, hmissed⟩ := almStatus_fields (a.alarm i).enabled (a.alarm i).missed (a.alarm i).fires
    refine ⟨_, State.live_to ha hcalm hcmd, rfl, rfl, hcfg, hval, hper, ?_, ?_, ?_⟩
    · exact (congrArg (bits · 16 16) hstat).trans hfires
    · exact (congrArg (bit · 0) hstat).trans hen
    · exact (congrArg (bit · 1) hstat).trans hmissed
  -- ALM_DISABLE
  · have hcmd : a.hostWrite p 0x2114 3#32 .clean none = (a.almDisable p).reply p ⟨0, 0#32⟩ := State.hostWrite_almCmd hc p 3#32
    refine ⟨_, State.live_to ha hcalm hcmd, rfl, ?_, fun j hj => ?_, rfl⟩
    · exact (a.alarm_almPut i i _).trans (if_pos rfl)
    · exact (a.alarm_almPut i j _).trans (if_neg hj)

end Sys2Proof.Machine
end
